-- ==== Sys2Proof/Word.lean ====
section
/-! DEFINITION. The word types of the SH-416: a byte of a link or of the configuration image, and a sample
position's signed 16-bit count (00_scope.md, Conventions). Nothing here can be mended later; every operation on
them stands in Machine/Bytes.lean. -/

namespace Sys2Proof

/-- One byte of the control link, the rig link or the configuration image (R116, R192, R179). -/
abbrev Byte := BitVec 8

/-- One signed 16-bit count: a drive sample, a feedback value (00_scope.md, Samples and related values). -/
abbrev Sample := BitVec 16

end Sys2Proof
end

