-- ==== Sys2Proof/Syntax.lean ====
section
/-! DEFINITION. The commands of the block: one constructor for each row of spec/opcode_table.json, in the table's
order. A request of the control link carries its frame's tag and body bytes as they arrived (R192, R195), so that
every length and value the rules judge is judged by the command's meaning. -/

namespace Sys2Proof

/-- R4: the three outcomes of reading a word, in rising severity. As the operand of a memory command it is what the
check code finds, where the word has been disturbed since it was last met (log entry 3); as the mark kept with a
word it is the outcome every later read reports again. -/
inductive ReadOutcome where
  | clean
  | corrected
  | uncorrectable
deriving DecidableEq, Repr, Inhabited

/-- The commands, one constructor per row of the table of operations and events. -/
inductive Instr where
  /-- POWER_ON (R165) -/
  | powerOn
  /-- RESET_N_LOW (R165) -/
  | resetNLow
  /-- RESET_N_HIGH (R165) -/
  | resetNHigh
  /-- START_UP_END (R166) -/
  | startUpEnd
  /-- FRAME_BOUNDARY (R68). `missFirst`: a miss taken at this boundary is taken before the frame is formed; R117
  and R120 allow either order. -/
  | frameBoundary (missFirst : Bool)
  /-- RESPONSE_FRAME (R119): the bytes received, and the place among them of the first byte whose stop bit was found low,
  if there is one (R118). -/
  | responseFrame (bytes : List Byte) (lowStop : Option Nat)
  /-- PERMIT_LINE_CHANGE (R183) -/
  | permitLineChange
  /-- PERMIT_FILTER_EXPIRY (R183) -/
  | permitFilterExpiry
  /-- HEARTBEAT_WINDOW_OPEN (R187) -/
  | heartbeatWindowOpen
  /-- HEARTBEAT_PERIOD_EXPIRY (R189) -/
  | heartbeatPeriodExpiry
  /-- READY_GRACE_EXPIRY (R110) -/
  | readyGraceExpiry
  /-- UNLOAD_DELAY_EXPIRY (R102) -/
  | unloadDelayExpiry
  /-- STOPPED_UNLOAD_DELAY_EXPIRY (R105) -/
  | stoppedUnloadDelayExpiry
  /-- CONFIG_TIMER_EXPIRY (R170) -/
  | configTimerExpiry
  /-- CONFIG_SAVE_END (R181): the bytes the nonvolatile memory gives back in the save's read-back. -/
  | configSaveEnd (readBack : List Byte)
  /-- MEMORY_READ (R13): the granted read completes. -/
  | memoryRead (outcome : ReadOutcome)
  /-- WHOLE_WORD_WRITE (R14): the granted whole-word write completes. -/
  | wholeWordWrite
  /-- PARTIAL_WORD_WRITE (R15): the granted read-merge-write completes. -/
  | partialWordWrite (outcome : ReadOutcome)
  /-- SCRUB (R18): the granted scrub completes. -/
  | scrub (outcome : ReadOutcome)
  /-- REQUEST_FRAME_DISCARDED (R192): the bytes received of the frame in assembly, and the place among them of the first byte
  whose stop bit was found low, if there is one; they show an oversize length, a framing error or a bad CRC. -/
  | requestFrameDiscarded (bytes : List Byte := []) (lowStop : Option Nat := none)
  /-- CONTROL_BYTE_GAP (R192) -/
  | controlByteGap
  /-- UNKNOWN_REQUEST (R193): a complete request whose kind code is not in the catalogue. -/
  | unknownRequest (kind tag : Byte) (body : List Byte)
  /-- BUSY_REQUEST (R194): a complete request arriving while the interface is occupied. -/
  | busyRequest (kind tag : Byte)
  /-- REPLY_SENT (R194): the last byte of the oldest owed reply is sent (log entry 21). -/
  | replySent
  /-- IDENTIFY, kind 0x01 (R196) -/
  | identify (tag : Byte) (body : List Byte)
  /-- STATUS, kind 0x02 (R197) -/
  | status (tag : Byte) (body : List Byte)
  /-- EVENTS_READ, kind 0x03 (R200) -/
  | eventsRead (tag : Byte) (body : List Byte)
  /-- RESET, kind 0x04 (R198) -/
  | reset (tag : Byte) (body : List Byte)
  /-- CONFIG_WRITE, kind 0x10 (R173) -/
  | configWrite (tag : Byte) (body : List Byte)
  /-- CONFIG_READ, kind 0x11 (R175) -/
  | configRead (tag : Byte) (body : List Byte)
  /-- CONFIG_COMMIT, kind 0x12 (R176) -/
  | configCommit (tag : Byte) (body : List Byte)
  /-- CONFIG_SAVE, kind 0x13 (R181) -/
  | configSave (tag : Byte) (body : List Byte)
  /-- SEG_OPEN, kind 0x20, replace flag clear (R26) -/
  | segOpen (tag : Byte) (body : List Byte)
  /-- SEG_OPEN, kind 0x20, replace flag set (R27) -/
  | segOpenReplace (tag : Byte) (body : List Byte)
  /-- SEG_DATA, kind 0x21 (R28) -/
  | segData (tag : Byte) (body : List Byte)
  /-- SEG_CLOSE, kind 0x22 (R29) -/
  | segClose (tag : Byte) (body : List Byte)
  /-- SEG_ABANDON, kind 0x23 (R33) -/
  | segAbandon (tag : Byte) (body : List Byte)
  /-- SEG_FREE, kind 0x24 (R34) -/
  | segFree (tag : Byte) (body : List Byte)
  /-- SEG_QUERY, kind 0x25 (R35) -/
  | segQuery (tag : Byte) (body : List Byte)
  /-- SCHED_APPEND, kind 0x30 (R48) -/
  | schedAppend (tag : Byte) (body : List Byte)
  /-- SCHED_TRUNCATE, kind 0x31 (R49) -/
  | schedTruncate (tag : Byte) (body : List Byte)
  /-- SCHED_CLEAR, kind 0x32 (R50) -/
  | schedClear (tag : Byte) (body : List Byte)
  /-- SCHED_READ, kind 0x33 (R51) -/
  | schedRead (tag : Byte) (body : List Byte)
  /-- RUN_START, kind 0x40 (R90) -/
  | runStart (tag : Byte) (body : List Byte)
  /-- RUN_PAUSE, kind 0x41 (R93) -/
  | runPause (tag : Byte) (body : List Byte)
  /-- RUN_RESUME, kind 0x42 (R94) -/
  | runResume (tag : Byte) (body : List Byte)
  /-- RUN_STOP, kind 0x43 (R99) -/
  | runStop (tag : Byte) (body : List Byte)
  /-- RUN_UNLOAD, kind 0x44 (R100) -/
  | runUnload (tag : Byte) (body : List Byte)
  /-- PRESSURE_ON, kind 0x45 (R108) -/
  | pressureOn (tag : Byte) (body : List Byte)
  /-- PRESSURE_OFF, kind 0x46 (R109) -/
  | pressureOff (tag : Byte) (body : List Byte)
  /-- HOLD_OUT, kind 0x47 (R111) -/
  | holdOut (tag : Byte) (body : List Byte)
  /-- RESTORE, kind 0x48 (R111) -/
  | restore (tag : Byte) (body : List Byte)
  /-- CLEAR_FAULTS, kind 0x50 (R142) -/
  | clearFaults (tag : Byte) (body : List Byte)
  /-- FAULTS_READ, kind 0x51 (R146) -/
  | faultsRead (tag : Byte) (body : List Byte)
  /-- CAPTURE_LIST, kind 0x60 (R155) -/
  | captureList (tag : Byte) (body : List Byte)
  /-- CAPTURE_READ, kind 0x61 (R156) -/
  | captureRead (tag : Byte) (body : List Byte)
  /-- CAPTURE_FREE, kind 0x62 (R157) -/
  | captureFree (tag : Byte) (body : List Byte)
  /-- SUMMARY_READ, kind 0x63 (R162) -/
  | summaryRead (tag : Byte) (body : List Byte)
  /-- HEARTBEAT, kind 0x70 (R188) -/
  | heartbeat (tag : Byte) (body : List Byte)
  /-- FRAME_MARKER (R192) -/
  | frameMarker
  /-- SUPPLY_LOSS (R165) -/
  | supplyLoss
deriving DecidableEq, Repr, Inhabited

end Sys2Proof
end

