-- ==== Sys2Proof/Machine/Bytes.lean ====
section
/-! DEFINITION. Byte order and the manual's saturating counts (00_scope.md: all multi-byte quantities are
little-endian; R1: a quantity stated to saturate stops at its largest value). -/

namespace Sys2Proof.Machine

/-- Byte `i` of a list of bytes. -/
def byteAt (b : List Byte) (i : Nat) : Byte := b.getD i 0

/-- The unsigned value of two bytes, low byte first, at `i`. -/
def le16At (b : List Byte) (i : Nat) : BitVec 16 := byteAt b (i + 1) ++ byteAt b i

/-- The unsigned value of four bytes, low byte first, at `i`. -/
def le32At (b : List Byte) (i : Nat) : BitVec 32 := le16At b (i + 2) ++ le16At b i

/-- Two bytes, low byte first. -/
def le16 (v : BitVec 16) : List Byte := [v.extractLsb' 0 8, v.extractLsb' 8 8]

/-- Four bytes, low byte first. -/
def le32 (v : BitVec 32) : List Byte := le16 (v.extractLsb' 0 16) ++ le16 (v.extractLsb' 16 16)

/-- Eight bytes, low byte first. -/
def le64 (v : BitVec 64) : List Byte := le32 (v.extractLsb' 0 32) ++ le32 (v.extractLsb' 32 32)

/-- The `n` samples laid low byte first from byte `i` on. -/
def samplesAt (b : List Byte) (i n : Nat) : List Sample := (List.range n).map (fun k => le16At b (i + 2 * k))

/-- R1: a count that saturates, raised by one. -/
def satInc {w : Nat} (c : BitVec w) : BitVec w := if c = BitVec.allOnes w then c else c + 1

/-- R1: a count that saturates, raised by `k`. -/
def satAdd {w : Nat} (c : BitVec w) (k : Nat) : BitVec w :=
  if 2 ^ w ≤ c.toNat + k then BitVec.allOnes w else c + BitVec.ofNat w k

/-- `a / b` rounded up. -/
def ceilDiv (a b : Nat) : Nat := (a + b - 1) / b

end Sys2Proof.Machine
end

