-- ==== Sys2Proof/Machine/Crc.lean ====
section
/-! DEFINITION. The two checksums of R2. -/

namespace Sys2Proof.Machine

/-- One bit of the CRC-16: x^16 + x^12 + x^5 + 1, most significant bit first (R2). -/
def crc16Bit (r : BitVec 16) : BitVec 16 := if r.msb then (r <<< 1) ^^^ 0x1021#16 else r <<< 1

/-- One byte of the CRC-16. -/
def crc16Byte (r : BitVec 16) (b : Byte) : BitVec 16 :=
  crc16Bit (crc16Bit (crc16Bit (crc16Bit (crc16Bit (crc16Bit (crc16Bit (crc16Bit
    (r ^^^ (b ++ 0#8)))))))))

/-- R2: the CRC-16 of a list of bytes, initial value 0xFFFF, no final inversion. -/
def crc16 (bytes : List Byte) : BitVec 16 := bytes.foldl crc16Byte 0xFFFF#16

/-- R2, R117, R192: the bytes that a frame's CRC-16 covers and the CRC, low byte first. -/
def withCrc (covered : List Byte) : List Byte := covered ++ le16 (crc16 covered)

/-- One bit of the CRC-32: 0x04C11DB7 reflected, least significant bit first (R2). -/
def crc32Bit (r : BitVec 32) : BitVec 32 := if r.getLsbD 0 then (r >>> 1) ^^^ 0xEDB88320#32 else r >>> 1

/-- One byte of the CRC-32. -/
def crc32Byte (r : BitVec 32) (b : Byte) : BitVec 32 :=
  crc32Bit (crc32Bit (crc32Bit (crc32Bit (crc32Bit (crc32Bit (crc32Bit (crc32Bit
    (r ^^^ (0#24 ++ b)))))))))

/-- R2: the CRC-32 register before the first byte. -/
def crc32Init : BitVec 32 := 0xFFFFFFFF#32

/-- R2, R24: samples entered into the CRC-32 register in storage order, each as two bytes, the low byte first. -/
def crc32Samples (r : BitVec 32) (samples : List Sample) : BitVec 32 :=
  samples.foldl (fun r v => (le16 v).foldl crc32Byte r) r

/-- R2: the CRC-32 a register stands for, by the final inversion. -/
def crc32Final (r : BitVec 32) : BitVec 32 := ~~~ r

end Sys2Proof.Machine
end

