-- ==== Sys2Proof/Config.lean ====
section
/-! DEFINITION. What the manual fixes for the part (IDENTIFY's figures, R196) and the values it leaves open:
each open value is an opaque constant without a body, so no proof can see what it is (log entries 8, 9, 10, 11, 44). -/

namespace Sys2Proof.Config

/-- R3, R196: the sample store has 512 pages. -/
def storePages : Nat := 512
/-- R3: a page is 32,768 sample positions. -/
def pageSamples : Nat := 32768
/-- R3: a page is 8,192 words of four positions. -/
def pageWords : Nat := 8192
/-- R3: the store has words 0 to 4,194,303. -/
def storeWords : Nat := 4194304
/-- R42: the schedule holds at most 256 entries. -/
def maxEntries : Nat := 256
/-- R199: the event queue holds up to 64 records. -/
def maxEvents : Nat := 64
/-- R161: the summary queue holds up to 16 summaries. -/
def maxSummaries : Nat := 16
/-- R194: at most 8 BUSY answers are owed at once. -/
def maxBusy : Nat := 8
/-- R192, R196: the largest body of a frame is 1,040 bytes. -/
def largestBody : Nat := 1040
/-- R169: the configuration timer starts at 30,000 ms. -/
def configMs : Nat := 30000

/-- R196: the device's 16-bit revision, whose value the manual does not state (log entry 8). -/
opaque revision : BitVec 16

/-- The time a running configuration timer has left when it is next reported; the table of commands has no tick,
so only the limits of R169 and R170 hold of it (log entry 9). The argument is `State.freeTick`. -/
opaque configTimerLeft : Nat → Nat

/-- What the nonvolatile image bytes hold after a save that a reset or a supply loss cut short (R182: "whatever part
of it had been written"; log entry 10). The argument is `State.freeTick`. -/
opaque cutShortImage : Nat → List Byte

/-- A drive sample that no PLAYBACK read has supplied at its frame boundary. R12 says the case does not arise and
gives no value (log entry 11). The argument is the sample's offset in its segment. -/
opaque unsuppliedSample : Nat → Sample

/-- Whether the miss limit of a new active image already applies to the window that was open at its commit: R121 says
that it does, R124 and R178 that the window of the first ACTIVE frame is the first so judged (log entry 44). -/
opaque commitWindowChecked : Bool

end Sys2Proof.Config
end

