-- ==== Sys2Proof/Machine/Tables.lean ====
section
/-! DEFINITION. Tables of a fixed number of like things, read and written at a number. A read beyond the table gives
the default entry and a write beyond it changes nothing; every number the meanings use is checked first. -/

namespace Sys2Proof.Machine

/-- The entry of table `v` at `i`. -/
def tget {α : Type} {n : Nat} [Inhabited α] (v : Vector α n) (i : Nat) : α := v.toList.getD i default

/-- Table `v` with its entry at `i` replaced. -/
def tset {α : Type} {n : Nat} (v : Vector α n) (i : Nat) (x : α) : Vector α n :=
  ⟨(v.toList.set i x).toArray, by simp⟩

/-- The table whose entry at `i` is `f i`. -/
def tmk {α : Type} (n : Nat) (f : Nat → α) : Vector α n := ⟨((List.range n).map f).toArray, by simp⟩

/-- Table `v` with `f i` applied to its entry at each `i`. -/
def tmap {α β : Type} {n : Nat} [Inhabited α] (f : Nat → α → β) (v : Vector α n) : Vector β n :=
  tmk n (fun i => f i (tget v i))

/-- The value kept under key `k` in the rising list `l`, or `d` where none is listed. -/
def assocGet {α : Type} (d : α) : List (Nat × α) → Nat → α
  | [], _ => d
  | (q, v) :: r, k => if q = k then v else assocGet d r k

/-- The rising list `l` with `v` under key `k`. The default value `d` is never listed, so equal contents are equal
lists. -/
def assocSet {α : Type} [DecidableEq α] (d : α) : List (Nat × α) → Nat → α → List (Nat × α)
  | [], k, v => if v = d then [] else [(k, v)]
  | (q, w) :: r, k, v =>
    if k < q then (if v = d then (q, w) :: r else (k, v) :: (q, w) :: r)
    else if k = q then (if v = d then r else (k, v) :: r)
    else (q, w) :: assocSet d r k v

/-- The canonical form of such a list: keys strictly rising from `lo`, no entry equal to the default. -/
def assocWf {α : Type} [DecidableEq α] (d : α) : Nat → List (Nat × α) → Bool
  | _, [] => true
  | lo, (q, v) :: r => decide (lo ≤ q) && decide (v ≠ d) && assocWf d (q + 1) r

/-- `x` put at its place in a strictly ascending list of numbers; a number already there is not doubled. -/
def insertNum (x : Nat) : List Nat → List Nat
  | [] => [x]
  | y :: r => if x < y then x :: y :: r else if x = y then y :: r else y :: insertNum x r

/-- The numbers of the bits set in a mask, ascending: a channel set's channels (R195, R179). -/
def maskList {w : Nat} (m : BitVec w) : List Nat := (List.range w).filter (fun c => m.getLsbD c)

/-- How many channels a channel set holds (C of R22, K of R148). -/
def maskCount {w : Nat} (m : BitVec w) : Nat := (maskList m).length

/-- R24, R148: the rank of channel `c` in a set, the lowest channel having rank 0. -/
def maskRank {w : Nat} (m : BitVec w) (c : Nat) : Nat := ((List.range c).filter (fun k => m.getLsbD k)).length

end Sys2Proof.Machine
end

