-- ==== Sys2Proof/Machine/Image.lean ====
section
/-! DEFINITION. The configuration image: its records, the factory image, the serialization and the checks of a
commit (09_start_up_and_configuration.md, R168, R177, R179). A field holds whatever its bytes can hold, since values
are judged only at commit (R173). -/

namespace Sys2Proof.Machine

/-- R179: the GENERAL record. -/
structure GeneralRec where
  rate : Byte
  heartbeatEnable : Byte
  nt : BitVec 16
  unloadMs : BitVec 16
  graceMs : BitVec 16
  missLimit : Byte
  periodCode : Byte
  windowCode : Byte
  loopLimit : Byte
  captureSet : BitVec 32
deriving DecidableEq, Repr, Inhabited

/-- R179: a CHANNEL record. -/
structure ChannelRec where
  enabled : Byte
  holdOutPermitted : Byte
  mean : Sample
  park : Sample
  lo : Sample
  hi : Sample
  slew : BitVec 16
deriving DecidableEq, Repr, Inhabited

/-- R179: a MONITOR record. -/
structure MonitorRec where
  enabled : Byte
  feedback : Byte
  low : Sample
  high : Sample
  filter : Byte
  cls : Byte
  latching : Byte
  owner : Byte
deriving DecidableEq, Repr, Inhabited

/-- R179: the FAULT_CLASS record. -/
structure ClassRec where
  servo : Byte
  rigLink : Byte
  heartbeat : Byte
  segmentMissing : Byte
  memory : Byte
deriving DecidableEq, Repr, Inhabited

/-- R179: a configuration image, its records in serialization order. -/
structure Image where
  general : GeneralRec
  channels : Vector ChannelRec 16
  monitors : Vector MonitorRec 32
  classes : ClassRec
deriving DecidableEq, Repr, Inhabited

/-- R179: a record as CONFIG_WRITE and CONFIG_READ name it, by selector and index. -/
inductive Selector where
  | general
  | channel (c : Nat)
  | monitor (m : Nat)
  | faultClass
deriving DecidableEq, Repr, Inhabited

/-- R168: the factory image's GENERAL record. -/
def factoryGeneral : GeneralRec :=
  { rate := 0, heartbeatEnable := 0, nt := 1024, unloadMs := 2000, graceMs := 1000, missLimit := 3,
    periodCode := 2, windowCode := 0, loopLimit := 4, captureSet := 0 }

/-- R168: a CHANNEL record of the factory image. -/
def factoryChannel : ChannelRec :=
  { enabled := 0, holdOutPermitted := 0, mean := 0, park := 0, lo := 0x8000#16, hi := 0x7FFF#16, slew := 64 }

/-- R168: MONITOR record `m` of the factory image. -/
def factoryMonitor (m : Nat) : MonitorRec :=
  { enabled := 0, feedback := BitVec.ofNat 8 m, low := 0x8000#16, high := 0x7FFF#16, filter := 1, cls := 0,
    latching := 0, owner := 255 }

/-- R168: the factory image's FAULT_CLASS record: TRIP, TRIP, STOP, PAUSE, NOTE. -/
def factoryClasses : ClassRec := { servo := 3, rigLink := 3, heartbeat := 2, segmentMissing := 1, memory := 0 }

/-- R168: the factory image. -/
def factoryImage : Image :=
  { general := factoryGeneral, channels := Vector.replicate 16 factoryChannel, monitors := tmk 32 factoryMonitor,
    classes := factoryClasses }

/-- R179: the 16 bytes of a GENERAL record. -/
def generalBytes (r : GeneralRec) : List Byte :=
  [r.rate, r.heartbeatEnable] ++ le16 r.nt ++ le16 r.unloadMs ++ le16 r.graceMs ++
    [r.missLimit, r.periodCode, r.windowCode, r.loopLimit] ++ le32 r.captureSet

/-- R179: the 12 bytes of a CHANNEL record. -/
def channelBytes (r : ChannelRec) : List Byte :=
  [r.enabled, r.holdOutPermitted] ++ le16 r.mean ++ le16 r.park ++ le16 r.lo ++ le16 r.hi ++ le16 r.slew

/-- R179: the 10 bytes of a MONITOR record. -/
def monitorBytes (r : MonitorRec) : List Byte :=
  [r.enabled, r.feedback] ++ le16 r.low ++ le16 r.high ++ [r.filter, r.cls, r.latching, r.owner]

/-- R179: the 5 bytes of the FAULT_CLASS record. -/
def classBytes (r : ClassRec) : List Byte := [r.servo, r.rigLink, r.heartbeat, r.segmentMissing, r.memory]

/-- R179: the 533 bytes of an image, in serialization order. -/
def imageBytes (g : Image) : List Byte :=
  generalBytes g.general ++ g.channels.toList.flatMap channelBytes ++ g.monitors.toList.flatMap monitorBytes ++
    classBytes g.classes

/-- R179: the GENERAL record that lies at byte `i`. -/
def generalAt (b : List Byte) (i : Nat) : GeneralRec :=
  { rate := byteAt b i, heartbeatEnable := byteAt b (i + 1), nt := le16At b (i + 2), unloadMs := le16At b (i + 4),
    graceMs := le16At b (i + 6), missLimit := byteAt b (i + 8), periodCode := byteAt b (i + 9),
    windowCode := byteAt b (i + 10), loopLimit := byteAt b (i + 11), captureSet := le32At b (i + 12) }

/-- R179: the CHANNEL record that lies at byte `i`. -/
def channelAt (b : List Byte) (i : Nat) : ChannelRec :=
  { enabled := byteAt b i, holdOutPermitted := byteAt b (i + 1), mean := le16At b (i + 2), park := le16At b (i + 4),
    lo := le16At b (i + 6), hi := le16At b (i + 8), slew := le16At b (i + 10) }

/-- R179: the MONITOR record that lies at byte `i`. -/
def monitorAt (b : List Byte) (i : Nat) : MonitorRec :=
  { enabled := byteAt b i, feedback := byteAt b (i + 1), low := le16At b (i + 2), high := le16At b (i + 4),
    filter := byteAt b (i + 6), cls := byteAt b (i + 7), latching := byteAt b (i + 8), owner := byteAt b (i + 9) }

/-- R179: the FAULT_CLASS record that lies at byte `i`. -/
def classesAt (b : List Byte) (i : Nat) : ClassRec :=
  { servo := byteAt b i, rigLink := byteAt b (i + 1), heartbeat := byteAt b (i + 2),
    segmentMissing := byteAt b (i + 3), memory := byteAt b (i + 4) }

/-- R179: the image that 533 bytes serialize. -/
def imageOfBytes (b : List Byte) : Image :=
  { general := generalAt b 0, channels := tmk 16 (fun c => channelAt b (16 + 12 * c)),
    monitors := tmk 32 (fun m => monitorAt b (208 + 10 * m)), classes := classesAt b 528 }

/-- R172: the record that a selector byte and an index byte name, if any. -/
def selectorOf (sel idx : Byte) : Option Selector :=
  if sel = 0 then (if idx = 0 then some .general else none)
  else if sel = 1 then (if idx.toNat ≤ 15 then some (.channel idx.toNat) else none)
  else if sel = 2 then (if idx.toNat ≤ 31 then some (.monitor idx.toNat) else none)
  else if sel = 3 then (if idx = 0 then some .faultClass else none)
  else none

/-- R172, R179: the length of the record a selector byte names, if the selector is known. -/
def recordLength (sel : Byte) : Option Nat :=
  if sel = 0 then some 16 else if sel = 1 then some 12 else if sel = 2 then some 10
  else if sel = 3 then some 5 else none

/-- R175: a record of an image, in the layout of section 9.5. -/
def recordBytes (g : Image) : Selector → List Byte
  | .general => generalBytes g.general
  | .channel c => channelBytes (tget g.channels c)
  | .monitor m => monitorBytes (tget g.monitors m)
  | .faultClass => classBytes g.classes

/-- R173: the image with one record replaced whole by the record whose bytes start at byte `i`. -/
def replaceRecord (g : Image) (b : List Byte) (i : Nat) : Selector → Image
  | .general => { g with general := generalAt b i }
  | .channel c => { g with channels := tset g.channels c (channelAt b i) }
  | .monitor m => { g with monitors := tset g.monitors m (monitorAt b i) }
  | .faultClass => { g with classes := classesAt b i }

/-- R177: a field that fails a commit, by selector, index and byte offset within the record. -/
structure BadField where
  selector : Nat
  index : Nat
  offset : Nat
deriving DecidableEq, Repr, Inhabited

/-- R177: the GENERAL record's conditions, by byte offset. -/
def generalChecks (r : GeneralRec) : List (Nat × Bool) :=
  [(0, r.rate.toNat ≤ 2), (1, r.heartbeatEnable.toNat ≤ 1), (2, 16 ≤ r.nt.toNat && r.nt.toNat ≤ 32768),
   (4, r.unloadMs.toNat ≤ 10000), (6, r.graceMs.toNat ≤ 10000),
   (8, 1 ≤ r.missLimit.toNat && r.missLimit.toNat ≤ 15), (9, r.periodCode.toNat ≤ 3), (10, r.windowCode.toNat ≤ 3),
   (11, 2 ≤ r.loopLimit.toNat && r.loopLimit.toNat ≤ 16)]

/-- R177: a CHANNEL record's conditions, by byte offset. -/
def channelChecks (r : ChannelRec) : List (Nat × Bool) :=
  [(0, r.enabled.toNat ≤ 1), (1, r.holdOutPermitted.toNat ≤ 1),
   (2, r.lo.toInt ≤ r.mean.toInt && r.mean.toInt ≤ r.hi.toInt),
   (4, r.lo.toInt ≤ r.park.toInt && r.park.toInt ≤ r.hi.toInt), (6, r.lo.toInt < r.hi.toInt),
   (10, 1 ≤ r.slew.toNat && r.slew.toNat ≤ 32767)]

/-- R177: a MONITOR record's conditions, by byte offset. -/
def monitorChecks (r : MonitorRec) : List (Nat × Bool) :=
  [(0, r.enabled.toNat ≤ 1), (1, r.feedback.toNat ≤ 31), (4, r.low.toInt < r.high.toInt),
   (6, 1 ≤ r.filter.toNat), (7, r.cls.toNat ≤ 3), (8, r.latching.toNat ≤ 1),
   (9, r.owner.toNat ≤ 15 || r.owner.toNat = 255)]

/-- R177: the FAULT_CLASS record's conditions, by byte offset. -/
def classChecks (r : ClassRec) : List (Nat × Bool) :=
  [(0, r.servo.toNat ≤ 3), (1, r.rigLink.toNat ≤ 3), (2, r.heartbeat.toNat ≤ 3), (3, r.segmentMissing.toNat ≤ 3),
   (4, r.memory.toNat ≤ 3)]

/-- The first condition of a record that is broken. -/
def firstBroken (selector index : Nat) (checks : List (Nat × Bool)) : Option BadField :=
  (checks.find? (fun c => !c.2)).map (fun c => { selector := selector, index := index, offset := c.1 })

/-- R177: the first field that fails a commit, in serialization order. -/
def commitFailure (g : Image) : Option BadField :=
  (firstBroken 0 0 (generalChecks g.general)).or <|
  ((List.range 16).findSome? (fun c => firstBroken 1 c (channelChecks (tget g.channels c)))).or <|
  ((List.range 32).findSome? (fun m => firstBroken 2 m (monitorChecks (tget g.monitors m)))).or <|
  firstBroken 3 0 (classChecks g.classes)

end Sys2Proof.Machine
end

