-- ==== Sys2Proof/Machine/State.lean ====
section
/-! DEFINITION. The state of the SH-416 as plain data, block by block, the reasons a step can stop, and the state
after reset. INVENTORY.md lists each field with the rule that names it. -/

namespace Sys2Proof.Machine

/-! ## Resets and start-up (chapter 9) -/

/-- A line's level. -/
inductive Level where
  | low
  | high
deriving DecidableEq, Repr, Inhabited

/-- R165: the reset causes, STATUS codes 0 to 2 (R197). -/
inductive ResetCause where
  | power
  | line
  | request
deriving DecidableEq, Repr, Inhabited

/-- R165: the two kinds of reset. -/
inductive ResetKind where
  | powerOn
  | warm
deriving DecidableEq, Repr, Inhabited

/-- R165, R166: without supply; held in reset while RESET_N is low; in start-up; or up, taking frames. -/
inductive Life where
  | off
  | held (kind : ResetKind)
  | startUp (kind : ResetKind)
  | up
deriving DecidableEq, Repr, Inhabited

/-! ## Frame timebase (chapter 6) -/

/-- R114, R115: the rate code of the interval in progress, the code that governs the intervals from the next
boundary on, and the 64-bit frame counter. -/
structure Timebase where
  rate : Byte
  nextRate : Byte
  counter : BitVec 64
deriving DecidableEq, Repr, Inhabited

/-! ## Sample store, page pool, arbiter and scrubber (chapter 1) -/

/-- R3, R4, R17: the sample at each position that holds another value than 0, the mark of each word whose check code
does not agree with it, and the corrected-error count. -/
structure Store where
  cells : List (Nat × Sample)
  marks : List (Nat × ReadOutcome)
  corrected : BitVec 32
deriving DecidableEq, Repr, Inhabited

/-- R10: the four requestors, in falling priority. -/
inductive Requestor where
  | playback
  | capture
  | link
  | scrub
deriving DecidableEq, Repr, Inhabited

/-- What a read is made for (R13). -/
inductive ReadPurpose where
  | play
  | prefetch
  | verify
  | captureRead
deriving DecidableEq, Repr, Inhabited

/-- R13 to R18: an operation on one word. `index` is the word's number among its owner's words, `lanes` the new
samples of a write with their places 0 to 3 in the word; four lanes are a whole-word write. -/
inductive MemOp where
  | read (word index : Nat) (purpose : ReadPurpose)
  | write (word : Nat) (lanes : List (Nat × Sample))
  | scrub (page word : Nat)
deriving DecidableEq, Repr, Inhabited

/-- R10, R11: the operation that holds the grant. `live` is clear when its requestor has given up the object it was
made for, so that its outcome is discarded. -/
structure Grant where
  requestor : Requestor
  op : MemOp
  live : Bool
deriving DecidableEq, Repr, Inhabited

/-- R10: the arbiter's granted operation and the one waiting request of each requestor. -/
structure Arbiter where
  granted : Option Grant
  playback : Option MemOp
  capture : Option MemOp
  link : Option MemOp
  scrub : Option MemOp
deriving DecidableEq, Repr, Inhabited

/-- R19: the scrubber's sweep position, a page and a word within it. -/
structure Sweep where
  page : Nat
  word : Nat
deriving DecidableEq, Repr, Inhabited

/-! ## Segment table (chapter 2) -/

/-- R22: the life of a descriptor's current data. -/
inductive SegState where
  | empty
  | loading
  | verifying
  | ready
  | damaged
deriving DecidableEq, Repr, Inhabited

/-- R23: the states of a pending replacement. -/
inductive ReplState where
  | loading
  | verifying
  | ready
deriving DecidableEq, Repr, Inhabited

/-- R22, R23: the data a descriptor or a replacement holds. `expected` is the CRC of SEG_CLOSE while VERIFYING
(R29), `dataCrc` the data CRC once READY. -/
structure SegData where
  channels : BitVec 16
  frames : Nat
  ratio : Nat
  pages : List Nat
  expected : BitVec 32
  dataCrc : Option (BitVec 32)
deriving DecidableEq, Repr, Inhabited

/-- R23: a pending replacement. -/
structure Replacement where
  state : ReplState
  data : SegData
deriving DecidableEq, Repr, Inhabited

/-- R22: a segment descriptor. An EMPTY descriptor is `Descriptor.blank`. -/
structure Descriptor where
  state : SegState
  data : SegData
  doubleErrors : BitVec 32
  inPlay : Bool
  repl : Option Replacement
deriving DecidableEq, Repr, Inhabited

/-- R22: the data of an EMPTY descriptor: every field absent. -/
def SegData.blank : SegData :=
  { channels := 0, frames := 0, ratio := 0, pages := [], expected := 0, dataCrc := none }

/-- R22, R41: an EMPTY descriptor. -/
def Descriptor.blank : Descriptor :=
  { state := .empty, data := .blank, doubleErrors := 0, inPlay := false, repl := none }

/-- R29: a target of verification: a segment's descriptor or its replacement. -/
structure Target where
  seg : Nat
  repl : Bool
deriving DecidableEq, Repr, Inhabited

/-- R29, R30: the verification queue, oldest first, and the progress of its first target: the next word to read, the
samples entered into the CRC and the CRC register. -/
structure Verifier where
  queue : List Target
  nextWord : Nat
  entered : Nat
  crc : BitVec 32
deriving DecidableEq, Repr, Inhabited

/-! ## Schedule table and sequencer (chapter 3) -/

/-- R43: the edge of a PLAY entry. -/
inductive Edge where
  | tapered
  | butted
deriving DecidableEq, Repr, Inhabited

/-- R43: a PLAY entry. -/
structure PlayEntry where
  seg : Nat
  gain : BitVec 16
  range : Option (Nat × Nat)
  edge : Edge
  capture : Bool
deriving DecidableEq, Repr, Inhabited

/-- R43 to R45: a schedule entry. A REPEAT carries its remaining counter. -/
inductive Entry where
  | play (p : PlayEntry)
  | dwell (frames : Nat)
  | rep (target count remaining : Nat)
  | mark (tag : BitVec 16)
deriving DecidableEq, Repr, Inhabited

/-- R52: the sequencer's phases. -/
inductive Phase where
  | idle
  | awaiting
  | inEntry
  | spent
  | ended
deriving DecidableEq, Repr, Inhabited

/-- R64: the first drive frames of a successor, prefetched: the pages they come from, the segment offsets they cover
(`lo` up to but not at `hi`), the samples read so far by offset, and the words still to be read. -/
structure Prefetch where
  seg : Nat
  fromRepl : Bool
  pages : List Nat
  lo : Nat
  hi : Nat
  samples : List (Nat × Sample)
  nextWord : Nat
  stopWord : Nat
deriving DecidableEq, Repr, Inhabited

/-- R63: a lookahead's resolution. `successor` is none for "end of schedule". -/
structure Lookahead where
  successor : Option Nat
  continues : Bool
  reach : Nat
  prefetch : Option Prefetch
deriving DecidableEq, Repr, Inhabited

/-- R55: the drive samples fetched for the play in progress, by segment offset, the next word to read and the word
before which reads are due. -/
structure Fetch where
  samples : List (Nat × Sample)
  nextWord : Nat
  dueWord : Nat
deriving DecidableEq, Repr, Inhabited

/-- R52: the sequencer. `entry` is the index of the entry in force in IN_ENTRY; `carried` the prefetch that a
successor started at once may use (R64); `joinPending` says that a successor whose join check passed begins when the
joined entry's capture record has closed (R153). -/
structure Sequencer where
  cursor : Nat
  phase : Phase
  position : Nat
  entry : Option Nat
  lookahead : Option Lookahead
  carried : Option Prefetch
  joinPending : Bool
  fetch : Fetch
deriving DecidableEq, Repr, Inhabited

/-! ## Setpoint pipeline (chapter 4) -/

/-- R67: the pipeline's state for one drive channel. The previous setpoint is absent until the first frame in
ACTIVE. -/
structure DriveChannel where
  previous : Option Int
  clampCount : BitVec 32
  slewCount : BitVec 32
  held : Int
deriving DecidableEq, Repr, Inhabited

/-- R67: a PLAY's entry parameters, with the segment and pages the play reads (R36), whether it was begun by a join
(R81), whether its own join check failed (R60) and whether it has substituted a sample (R40). -/
structure PlayParams where
  entry : Nat
  seg : Nat
  channels : BitVec 16
  ratio : Nat
  pages : List Nat
  first : Nat
  last : Nat
  gain : BitVec 16
  edge : Edge
  length : Nat
  byJoin : Bool
  joinFailed : Bool
  substituted : Bool
deriving DecidableEq, Repr, Inhabited

/-- R67: the entry parameters, a PLAY set or a DWELL set. -/
inductive EntryParams where
  | play (p : PlayParams)
  | dwell (frames : Nat)
deriving DecidableEq, Repr, Inhabited

/-- R67: the setpoint pipeline. -/
structure Pipeline where
  channels : Vector DriveChannel 16
  taper : Nat
  params : Option EntryParams
  continuation : Bool
  stopTaper : Bool
deriving DecidableEq, Repr, Inhabited

/-! ## Run controller (chapter 5) -/

/-- R88: the run states, in the order of their codes 0 to 8. -/
inductive RunState where
  | stopped
  | starting
  | running
  | pausing
  | paused
  | holding
  | parking
  | unloading
  | frozen
deriving DecidableEq, Repr, Inhabited

/-- R92: a member of the pause-reason set: HOST, or a fault source by its number (R133). -/
inductive PauseReason where
  | host
  | source (k : Nat)
deriving DecidableEq, Repr, Inhabited

/-- R110: the ready-grace timer. -/
inductive Grace where
  | idle
  | counting
  | elapsed
deriving DecidableEq, Repr, Inhabited

/-- R88: the unload-delay timer. -/
inductive UnloadTimer where
  | idle
  | inUnloading
  | inStopped
deriving DecidableEq, Repr, Inhabited

/-- R88: the run controller. `host` says whether HOST is in the pause-reason set and `sources` lists its fault
sources, ascending; `holdOut` is the hold-out set, ascending. -/
structure RunControl where
  state : RunState
  host : Bool
  sources : List Nat
  holdOut : List Nat
  grace : Grace
  unload : UnloadTimer
  pressure : Level
deriving DecidableEq, Repr, Inhabited

/-! ## Rig link interface (chapter 6) -/

/-- R118: the receive window now open: its frame number, the bytes assembled in it, whether a low stop bit marked it
corrupt, whether its response was judged good, and whether it was opened by a boundary of the present stay in ACTIVE
(R124, R178). -/
structure Window where
  frame : BitVec 16
  bytes : List Byte
  corrupt : Bool
  good : Bool
  inStay : Bool
deriving DecidableEq, Repr, Inhabited

/-- R118, R117: the rig link interface; `sent` is the setpoint frame last sent. -/
structure RigLink where
  feedback : Vector Sample 32
  ready : BitVec 16
  misses : Byte
  window : Option Window
  sent : List Byte
deriving DecidableEq, Repr, Inhabited

/-! ## Monitor bank and fault table (chapter 7) -/

/-- R126: a monitor: its record as the bank last took it, and its working state. -/
structure Monitor where
  record : MonitorRec
  tripped : Bool
  outside : Byte
  inside : Byte
deriving DecidableEq, Repr, Inhabited

/-- The fault classes, in rising severity, codes 0 to 3 (R141). -/
inductive FaultClass where
  | note
  | pause
  | stop
  | trip
deriving DecidableEq, Repr, Inhabited

/-- R133: an entry of the fault table. -/
structure FaultEntry where
  active : Bool
  subject : BitVec 16
  cls : FaultClass
  latched : Bool
deriving DecidableEq, Repr, Inhabited

/-- R133, R138, R140: the fault table, the effective action last formed (none is NONE) and the FAULT_N line. -/
structure FaultTable where
  entries : Vector FaultEntry 38
  action : Option FaultClass
  faultN : Level
deriving DecidableEq, Repr, Inhabited

/-! ## Capture unit, summary accumulator and summary queue (chapter 8) -/

/-- R148: the states of a capture record. -/
inductive CaptureState where
  | filling
  | complete
  | truncated
deriving DecidableEq, Repr, Inhabited

/-- R148: a capture record. -/
structure CaptureRecord where
  entry : Nat
  ordinal : BitVec 32
  seg : Nat
  channels : BitVec 32
  frames : Nat
  pages : List Nat
  state : CaptureState
  endedEarly : Bool
  damaged : Bool
deriving DecidableEq, Repr, Inhabited

/-- R148, R151, R153: the capture unit: its slots, the slot of the play in progress, the writes of the capture frame
in hand with the slot they fill, and whether the close of a play's record waits for them. -/
structure CaptureUnit where
  slots : Vector (Option CaptureRecord) 32
  current : Option Nat
  ops : List MemOp
  writing : Option Nat
  closing : Bool
deriving DecidableEq, Repr, Inhabited

/-- R158: one feedback channel's statistics; the least and greatest values are absent until the first play frame. -/
structure FeedbackStat where
  extremes : Option (Sample × Sample)
  sumSquares : BitVec 64
deriving DecidableEq, Repr, Inhabited

/-- R158: the open summary. -/
structure OpenSummary where
  ordinal : BitVec 32
  entry : Nat
  seg : Nat
  captureId : Option Nat
  playFrames : BitVec 32
  feedback : Vector FeedbackStat 32
  memoryErrors : Vector (BitVec 32) 16
deriving DecidableEq, Repr, Inhabited

/-- R160: one drive channel's fields of a closed summary. -/
structure DriveFields where
  clampCount : BitVec 32
  slewCount : BitVec 32
  memoryErrors : BitVec 32
deriving DecidableEq, Repr, Inhabited

/-- R160: one feedback channel's fields of a closed summary. -/
structure FeedbackFields where
  least : Sample
  greatest : Sample
  meanSquare : BitVec 32
deriving DecidableEq, Repr, Inhabited

/-- R160: a closed summary. -/
structure Summary where
  ordinal : BitVec 32
  playFrames : BitVec 32
  counter : BitVec 64
  entry : Nat
  seg : Nat
  captureId : Option Nat
  aborted : Bool
  noSamples : Bool
  joined : Bool
  drive : Vector DriveFields 16
  feedback : Vector FeedbackFields 32
deriving DecidableEq, Repr, Inhabited

/-- R158, R161: the accumulator's pass ordinal and open summary, and the summary queue, oldest first, with its
discard count. -/
structure Summaries where
  ordinal : BitVec 32
  opened : Option OpenSummary
  queue : List Summary
  discards : BitVec 16
deriving DecidableEq, Repr, Inhabited

/-! ## Configuration store (chapter 9) -/

/-- R169: the device modes. -/
inductive DeviceMode where
  | idle
  | config
  | locked
  | active
deriving DecidableEq, Repr, Inhabited

/-- R167: the image the pending image was loaded from. -/
inductive Origin where
  | stored
  | factory
deriving DecidableEq, Repr, Inhabited

/-- R180: the nonvolatile memory: image bytes, the CRC beside them (none when erased), and its state, VALID when
`valid`. -/
structure StoredImage where
  bytes : List Byte
  crc : Option (BitVec 16)
  valid : Bool
deriving DecidableEq, Repr, Inhabited

/-- R167, R169, R181: the configuration store. `timer` is the configuration timer's remaining time, none when
stopped; `save` is the copy a running save works from, none when the save state is IDLE. -/
structure ConfigStore where
  mode : DeviceMode
  timer : Option Nat
  pending : Image
  active : Option Image
  origin : Origin
  stored : StoredImage
  save : Option (List Byte)
deriving DecidableEq, Repr, Inhabited

/-! ## PERMIT input and heartbeat supervisor (chapter 10) -/

/-- R183: the raw PERMIT line, the filtered level and whether the filter timer runs. -/
structure Permit where
  raw : Level
  filtered : Level
  timer : Bool
deriving DecidableEq, Repr, Inhabited

/-- R186: the heartbeat supervisor. The moment within the period is kept as what the rules ask of it: whether the
window has opened (R187). -/
structure Supervisor where
  running : Bool
  windowOpen : Bool
  loop : Nat
deriving DecidableEq, Repr, Inhabited

/-! ## Event queue and control link interface (chapter 11) -/

/-- R199: the event kinds, in the order of their codes 1 to 21. -/
inductive EventKind where
  | runStarted
  | runPaused
  | runResumed
  | scheduleEnded
  | runStopped
  | unloadDone
  | mark
  | entrySkipped
  | faultRaised
  | faultCleared
  | segmentReady
  | segmentRejected
  | segmentDamaged
  | replacementApplied
  | captureSkipped
  | captureTruncated
  | captureDamaged
  | summaryQueued
  | saveDone
  | saveFailed
  | configLocked
deriving DecidableEq, Repr, Inhabited

/-- R199: an event record. -/
structure EventRecord where
  seq : BitVec 16
  stamp : BitVec 64
  kind : EventKind
  subject : BitVec 16
  value : BitVec 32
deriving DecidableEq, Repr, Inhabited

/-- R199: the event queue, oldest first, its discard count and the number the next record takes. -/
structure EventQueue where
  records : List EventRecord
  discards : BitVec 16
  nextSeq : BitVec 16
deriving DecidableEq, Repr, Inhabited

/-- R193: the status codes, in the order of their codes 0 to 14. -/
inductive Status where
  | ok
  | accepted
  | wrongState
  | busy
  | badValue
  | badLength
  | unknown
  | noSpace
  | inUse
  | notFound
  | badChecksum
  | full
  | memoryError
  | faultsPresent
  | locked
deriving DecidableEq, Repr, Inhabited

/-- R89: the body of every reply to a run, pressure or hold-out request. -/
structure RunBlock where
  state : RunState
  pause : List PauseReason
  holdOut : List Nat
  pressure : Level
deriving DecidableEq, Repr, Inhabited

/-- R169: the status block of every reply to a configuration request. -/
structure ConfigBlock where
  mode : DeviceMode
  remaining : Nat
  storedValid : Bool
  saving : Bool
  origin : Origin
deriving DecidableEq, Repr, Inhabited

/-- What a configuration reply carries beside its status block (R175, R176, R177, R181). -/
inductive ConfigExtra where
  | nothing
  | record (bytes : List Byte)
  | crc (c : BitVec 16)
  | field (f : BadField)
deriving DecidableEq, Repr, Inhabited

/-- R197: a status snapshot. -/
structure Snapshot where
  mode : DeviceMode
  run : RunState
  cause : Byte
  counter : BitVec 64
  cursor : Nat
  position : Nat
  taper : Nat
  pause : List PauseReason
  heldFaults : List Nat
  holdOut : List Nat
  pressure : Level
  permit : Level
  setpoints : List (Bool × Int)
  feedback : Vector Sample 32
  freePages : Nat
  corrected : BitVec 32
  eventCount : Nat
  eventDiscards : BitVec 16
  summaryCount : Nat
  summaryDiscards : BitVec 16
  loop : Nat
  badFrames : BitVec 16
deriving DecidableEq, Repr, Inhabited

/-- R196: the figures of IDENTIFY. -/
structure Identity where
  vendor : BitVec 16
  part : Nat
  revision : BitVec 16
  pages : Nat
  pageSamples : Nat
  segments : Nat
  entries : Nat
  driveChannels : Nat
  feedbackChannels : Nat
  monitors : Nat
  captureSlots : Nat
  eventCapacity : Nat
  summaryCapacity : Nat
  largestBody : Nat
deriving DecidableEq, Repr, Inhabited

/-- R35: what SEG_QUERY tells of a pending replacement. -/
structure ReplInfo where
  state : ReplState
  channels : BitVec 16
  frames : Nat
  ratio : Nat
  pageCount : Nat
  dataCrc : Option (BitVec 32)
  verified : Nat
deriving DecidableEq, Repr, Inhabited

/-- R35: the body of a SEG_QUERY reply. -/
structure SegInfo where
  state : SegState
  channels : BitVec 16
  frames : Nat
  ratio : Nat
  pageCount : Nat
  dataCrc : Option (BitVec 32)
  doubleErrors : BitVec 32
  inPlay : Bool
  references : Nat
  verified : Nat
  repl : Option ReplInfo
deriving DecidableEq, Repr, Inhabited

/-- R51: the lookahead's successor as SCHED_READ reports it. -/
inductive SuccessorInfo where
  | absent
  | endOfSchedule
  | index (j : Nat)
deriving DecidableEq, Repr, Inhabited

/-- R51: the body of a SCHED_READ reply. -/
structure SchedInfo where
  count : Nat
  cursor : Nat
  phase : Phase
  position : Nat
  successor : SuccessorInfo
  entries : List Entry
deriving DecidableEq, Repr, Inhabited

/-- R146: a fault source as FAULTS_READ reports it. -/
structure SourceInfo where
  active : Bool
  cls : FaultClass
  latched : Bool
  subject : Option (BitVec 16)
deriving DecidableEq, Repr, Inhabited

/-- R146: a monitor as FAULTS_READ reports it. -/
structure MonitorInfo where
  enabled : Bool
  evaluating : Bool
  suspended : Bool
  tripped : Bool
  outside : Byte
  inside : Byte
deriving DecidableEq, Repr, Inhabited

/-- R146: the body of a FAULTS_READ reply. -/
structure FaultsInfo where
  action : Option FaultClass
  faultN : Level
  sources : List SourceInfo
  monitors : List MonitorInfo
deriving DecidableEq, Repr, Inhabited

/-- R155: a capture record as CAPTURE_LIST reports it. -/
structure CaptureInfo where
  state : CaptureState
  endedEarly : Bool
  damaged : Bool
  entry : Nat
  ordinal : BitVec 32
  seg : Nat
  channels : BitVec 32
  channelCount : Nat
  frames : Nat
  pageCount : Nat
deriving DecidableEq, Repr, Inhabited

/-- R188: a beat's judgment. -/
inductive Judgment where
  | good
  | early
  | unsupervised
deriving DecidableEq, Repr, Inhabited

/-- The body of a reply, by its owning rule. Bodies are bytes where the manual lays them out by byte (SUMMARY_READ,
event records, configuration records) and fields elsewhere (log entry 13). -/
inductive ReplyBody where
  | empty
  | identity (d : Identity)
  | snapshot (d : Snapshot)
  | events (left : Nat) (discards : BitVec 16) (records : List (List Byte))
  | config (block : ConfigBlock) (extra : ConfigExtra)
  | segment (d : SegInfo)
  | schedCount (n : Nat)
  | schedPosition (k : Nat)
  | schedule (d : SchedInfo)
  | run (block : RunBlock)
  | cleared (held : List Nat)
  | faults (d : FaultsInfo)
  | captures (slots : List (Option CaptureInfo)) (free : Nat)
  | captureValues (id offset count bad : Nat) (values : List Sample)
  | summary (bytes : List Byte)
  | beat (code : Byte) (loop : Nat)
deriving DecidableEq, Repr, Inhabited

/-- R192: a reply frame owed, before its layout as bytes. -/
structure Reply where
  kind : Byte
  tag : Byte
  status : Status
  body : ReplyBody
deriving DecidableEq, Repr, Inhabited

/-- R156: a CAPTURE_READ in hand: the next of the record's words to read, the word after the last, the values read so
far and how many words read UNCORRECTABLE. -/
structure CaptureJob where
  id : Nat
  offset : Nat
  count : Nat
  nextWord : Nat
  stopWord : Nat
  values : List Sample
  bad : Nat
deriving DecidableEq, Repr, Inhabited

/-- What the request in hand still has to do. -/
inductive LinkJob where
  | answered
  | awaitSnapshot
  | segData (ops : List MemOp)
  | captureRead (job : CaptureJob)
  | resetAfter
deriving DecidableEq, Repr, Inhabited

/-- R194: the request in hand. -/
structure InHand where
  kind : Byte
  tag : Byte
  job : LinkJob
deriving DecidableEq, Repr, Inhabited

/-- R192: the receive assembly's state. -/
inductive Assembly where
  | hunting
  | assembling
deriving DecidableEq, Repr, Inhabited

/-- R192, R194: the control link interface. `collected` are the bytes after the marker of the frame in assembly. `reply` is
the owed reply of the request in hand, once formed; `busy` lists the kind and tag of each BUSY answer owed, in order. -/
structure ControlLink where
  assembly : Assembly
  collected : List Byte
  inHand : Option InHand
  reply : Option Reply
  busy : List (Byte × Byte)
  badFrames : BitVec 16
deriving DecidableEq, Repr, Inhabited

/-! ## The whole device -/

/-- The state of the SH-416. `freeTick` is the model's own counter for the values the manual leaves open, and
`pending` the commands that wait, first in, first out. -/
structure State where
  life : Life
  resetN : Level
  cause : ResetCause
  timebase : Timebase
  store : Store
  pool : List Nat
  arbiter : Arbiter
  sweep : Sweep
  segments : Vector Descriptor 64
  verifier : Verifier
  schedule : List Entry
  sequencer : Sequencer
  pipeline : Pipeline
  run : RunControl
  rig : RigLink
  monitors : Vector Monitor 32
  faults : FaultTable
  capture : CaptureUnit
  summaries : Summaries
  config : ConfigStore
  permit : Permit
  supervisor : Supervisor
  link : ControlLink
  events : EventQueue
  freeTick : Nat
  pending : List Instr
deriving DecidableEq, Repr, Inhabited

/-- The reasons the machine stops with a fault. -/
inductive Fault where
  /-- Raised by the four memory commands when the granted operation's word lies outside words 0 to 4,194,303, which
  R3 says do not exist. Safe: no page list of pages 0 to 511 leads there, so no run from reset raises it. -/
  | outsideStore
deriving DecidableEq, Repr, Inhabited

/-- The reasons the model has no meaning for a command. -/
inductive Refusal where
  /-- Raised only by exec's arms, for a command that has no meaning yet. Safe: the model stops. -/
  | notModelled (mnemonic : String)
deriving DecidableEq, Repr, Inhabited

/-! ## After reset -/

/-- R8, R17: the store after power-on: every word reads CLEAN with four zero samples. -/
def Store.cleared : Store := { cells := [], marks := [], corrected := 0 }

/-- R8: no request waiting, none granted. -/
def Arbiter.free : Arbiter := { granted := none, playback := none, capture := none, link := none, scrub := none }

/-- R41: the verification queue is empty. -/
def Verifier.idle : Verifier := { queue := [], nextWord := 0, entered := 0, crc := 0xFFFFFFFF#32 }

/-- Nothing fetched and nothing due. -/
def Fetch.none : Fetch := { samples := [], nextWord := 0, dueWord := 0 }

/-- R66: the sequencer after any reset. -/
def Sequencer.atReset : Sequencer :=
  { cursor := 0, phase := .idle, position := 0, entry := Option.none, lookahead := Option.none,
    carried := Option.none, joinPending := false, fetch := .none }

/-- R67: a drive channel after any reset. -/
def DriveChannel.atReset : DriveChannel := { previous := none, clampCount := 0, slewCount := 0, held := 0 }

/-- R67: the pipeline after any reset, and after the device leaves ACTIVE. -/
def Pipeline.atReset : Pipeline :=
  { channels := Vector.replicate 16 .atReset, taper := 0, params := none, continuation := false, stopTaper := false }

/-- R88: the run controller after any reset. -/
def RunControl.atReset : RunControl :=
  { state := .stopped, host := false, sources := [], holdOut := [], grace := .idle, unload := .idle,
    pressure := .low }

/-- R125: the rig link after any reset; the line has sent nothing since. -/
def RigLink.atReset : RigLink :=
  { feedback := Vector.replicate 32 0, ready := 0, misses := 0, window := none, sent := [] }

/-- R147, R146: a monitor after any reset, before the first commit: not enabled. -/
def Monitor.atReset (m : Nat) : Monitor :=
  { record := factoryMonitor m, tripped := false, outside := 0, inside := 0 }

/-- R146, R133: fault source `k` after any reset: not active, PERMIT with its fixed class TRIP and every other source
with class NOTE, latching as the fixed table gives (a monitor's latching is its record's: log entry 7). -/
def FaultEntry.atReset (k : Nat) : FaultEntry :=
  { active := false, subject := 0, cls := if k = 37 then .trip else .note,
    latched := decide (32 ≤ k) && decide (k ≠ 35) }

/-- R147: the fault table after any reset. -/
def FaultTable.atReset : FaultTable := { entries := tmk 38 FaultEntry.atReset, action := none, faultN := .high }

/-- R163: the capture unit after power-on: every slot free. -/
def CaptureUnit.atPowerOn : CaptureUnit :=
  { slots := Vector.replicate 32 none, current := none, ops := [], writing := none, closing := false }

/-- R164: the accumulator and the summary queue after any reset. -/
def Summaries.atReset : Summaries := { ordinal := 0, opened := none, queue := [], discards := 0 }

/-- R180: the stored image as the device leaves manufacture: INVALID. Its bytes are log entry 6's. -/
def StoredImage.manufactured : StoredImage := { bytes := List.replicate 533 0, crc := none, valid := false }

/-- R167: the configuration store after a start-up that finds the stored image INVALID. -/
def ConfigStore.atReset : ConfigStore :=
  { mode := .idle, timer := none, pending := factoryImage, active := none, origin := .factory,
    stored := .manufactured, save := none }

/-- R199: the event queue after any reset. -/
def EventQueue.atReset : EventQueue := { records := [], discards := 0, nextSeq := 0 }

/-- R186: the supervisor after any reset. -/
def Supervisor.atReset : Supervisor := { running := false, windowOpen := false, loop := 0 }

/-- R192, R194: the control link interface when start-up ends: HUNTING, free, no bad frame counted. -/
def ControlLink.atReset : ControlLink :=
  { assembly := .hunting, collected := [], inHand := none, reply := none, busy := [], badFrames := 0 }

/-- The device right after a power-on reset: its start-up has ended and no frame boundary has come (log entry 1). -/
def State.reset : State :=
  { life := .up
    resetN := .high
    cause := .power
    timebase := { rate := 0, nextRate := 0, counter := 0 }
    store := .cleared
    pool := List.range 512
    arbiter := .free
    sweep := { page := 0, word := 0 }
    segments := Vector.replicate 64 .blank
    verifier := .idle
    schedule := []
    sequencer := .atReset
    pipeline := .atReset
    run := .atReset
    rig := .atReset
    monitors := tmk 32 Monitor.atReset
    faults := .atReset
    capture := .atPowerOn
    summaries := .atReset
    config := .atReset
    permit := { raw := .low, filtered := .low, timer := false }
    supervisor := .atReset
    link := .atReset
    events := .atReset
    freeTick := 0
    pending := [] }

end Sys2Proof.Machine
end

