-- ==== Sys2Proof/Machine/Flags.lean ====
section
/-! DEFINITION. The lines, codes and flags the manual derives from the state: ATTN, FAULT_N, the effective action, the
pause-reason set, which channels are enabled, which monitors evaluate, and the code tables. -/

namespace Sys2Proof.Machine

/-- R199: ATTN is high while the event queue holds at least one record. -/
def attn (s : State) : Level := if s.events.records.isEmpty then .low else .high

/-- R88: the run state's code. -/
def runCode : RunState → Byte
  | .stopped => 0
  | .starting => 1
  | .running => 2
  | .pausing => 3
  | .paused => 4
  | .holding => 5
  | .parking => 6
  | .unloading => 7
  | .frozen => 8

/-- R199: the event kind's code. -/
def eventCode : EventKind → BitVec 16
  | .runStarted => 1
  | .runPaused => 2
  | .runResumed => 3
  | .scheduleEnded => 4
  | .runStopped => 5
  | .unloadDone => 6
  | .mark => 7
  | .entrySkipped => 8
  | .faultRaised => 9
  | .faultCleared => 10
  | .segmentReady => 11
  | .segmentRejected => 12
  | .segmentDamaged => 13
  | .replacementApplied => 14
  | .captureSkipped => 15
  | .captureTruncated => 16
  | .captureDamaged => 17
  | .summaryQueued => 18
  | .saveDone => 19
  | .saveFailed => 20
  | .configLocked => 21

/-- R193: the status's code. -/
def statusCode : Status → Byte
  | .ok => 0
  | .accepted => 1
  | .wrongState => 2
  | .busy => 3
  | .badValue => 4
  | .badLength => 5
  | .unknown => 6
  | .noSpace => 7
  | .inUse => 8
  | .notFound => 9
  | .badChecksum => 10
  | .full => 11
  | .memoryError => 12
  | .faultsPresent => 13
  | .locked => 14

/-- R188: the judgment's code. -/
def judgmentCode : Judgment → Byte
  | .good => 0
  | .early => 1
  | .unsupervised => 2

/-- R197: the reset cause's code. -/
def causeCode : ResetCause → Byte
  | .power => 0
  | .line => 1
  | .request => 2

/-- R141: the class's code, in rising severity. -/
def classCode : FaultClass → Nat
  | .note => 0
  | .pause => 1
  | .stop => 2
  | .trip => 3

/-- R179: the class a configuration byte gives (a commit admits 0 to 3 only, R177). -/
def classOfByte (b : Byte) : FaultClass :=
  if b = 0 then .note else if b = 1 then .pause else if b = 2 then .stop else .trip

/-- The more severe of an action and a class (R138). -/
def worseAction : Option FaultClass → FaultClass → Option FaultClass
  | none, c => some c
  | some a, c => if classCode a < classCode c then some c else some a

/-- R138: the most severe class among the active sources, none for NONE. -/
def effectiveAction (entries : Vector FaultEntry 38) : Option FaultClass :=
  entries.toList.foldl (fun a e => if e.active then worseAction a e.cls else a) none

/-- R133: a source is held while it is active and its class is PAUSE, STOP or TRIP. -/
def entryHeld (e : FaultEntry) : Bool := e.active && decide (e.cls ≠ .note)

/-- R140: FAULT_N is low while a held source is LATCHED. -/
def faultLine (entries : Vector FaultEntry 38) : Level :=
  if entries.toList.any (fun e => entryHeld e && e.latched) then .low else .high

/-- The entry of fault source `k` (R133). -/
def source (s : State) (k : Nat) : FaultEntry := tget s.faults.entries k

/-- R133: the held sources, ascending. -/
def heldSources (s : State) : List Nat := (List.range 38).filter (fun k => entryHeld (source s k))

/-- Whether the fault table holds a fault of class STOP or TRIP (R90, R108). -/
def stopOrTripHeld (s : State) : Bool :=
  s.faults.entries.toList.any (fun e => e.active && decide (2 ≤ classCode e.cls))

/-- Whether the fault table holds a fault of class TRIP (R106). -/
def tripHeld (s : State) : Bool := s.faults.entries.toList.any (fun e => e.active && decide (e.cls = .trip))

/-- R92: the pause-reason set, HOST first. -/
def pauseSet (s : State) : List PauseReason :=
  (if s.run.host then [.host] else []) ++ s.run.sources.map .source

/-- R92: whether the pause-reason set has no member. -/
def pauseEmpty (s : State) : Bool := !s.run.host && s.run.sources.isEmpty

/-- Whether the device is in ACTIVE mode (R169). -/
def isActive (s : State) : Bool := decide (s.config.mode = .active)

/-- The GENERAL record of the active image (the factory record where there is none; no rule then reads it). -/
def general (s : State) : GeneralRec :=
  match s.config.active with
  | some g => g.general
  | none => factoryGeneral

/-- The CHANNEL record of drive channel `c` in the active image (disabled where there is none). -/
def channelRec (s : State) (c : Nat) : ChannelRec :=
  match s.config.active with
  | some g => tget g.channels c
  | none => factoryChannel

/-- R117: drive channel `c` is enabled in the active image. -/
def enabled (s : State) (c : Nat) : Bool := decide (c < 16) && decide ((channelRec s c).enabled = 1)

/-- The drive channels enabled in the active image, ascending. -/
def enabledChannels (s : State) : List Nat := (List.range 16).filter (enabled s)

/-- R127, R132: monitor record `r` is suspended: its owner drive channel is in the hold-out set. -/
def suspendedBy (holdOut : List Nat) (r : MonitorRec) : Bool :=
  decide (r.owner.toNat ≤ 15) && holdOut.contains r.owner.toNat

/-- R127: monitor `m` evaluates. -/
def evaluates (s : State) (m : Monitor) : Bool :=
  isActive s && decide (s.run.pressure = .high) && decide (m.record.enabled = 1) &&
    !suspendedBy s.run.holdOut m.record

/-- R194: the interface is occupied while it has a request in hand or owes a reply. -/
def occupied (s : State) : Bool := s.link.inHand.isSome || s.link.reply.isSome || !s.link.busy.isEmpty

/-- R165, R166: the device is up: it takes frames and gives boundaries. -/
def isUp (s : State) : Bool := decide (s.life = .up)

/-- R89, R88: the body of a run reply; outside ACTIVE no run exists. -/
def runBlock (s : State) : RunBlock :=
  if isActive s then
    { state := s.run.state, pause := pauseSet s, holdOut := s.run.holdOut, pressure := s.run.pressure }
  else { state := .stopped, pause := [], holdOut := [], pressure := .low }

/-- R169: the status block of a configuration reply. -/
def configBlock (s : State) : ConfigBlock :=
  { mode := s.config.mode, remaining := s.config.timer.getD 0, storedValid := s.config.stored.valid,
    saving := s.config.save.isSome, origin := s.config.origin }

end Sys2Proof.Machine
end

