-- ==== Sys2Proof/Machine/ControlFrames.lean ====
section
/-! DEFINITION. The frames of the control link: how a request and a reply are laid out, and when the bytes after a marker
are discarded (R2, R192, R193). -/

namespace Sys2Proof.Machine

/-- R192: the marker that begins every frame of the control link. -/
def frameMark : Byte := 0xA7

/-- R192: the bytes of a request frame after its marker. -/
def requestTail (kind tag : Byte) (body : List Byte) : List Byte :=
  withCrc ([kind, tag] ++ le16 (BitVec.ofNat 16 body.length) ++ body)

/-- R192: a request frame. -/
def requestFrame (kind tag : Byte) (body : List Byte) : List Byte := frameMark :: requestTail kind tag body

/-- R192, R193: a reply frame. -/
def replyFrame (kind tag : Byte) (status : Status) (body : List Byte) : List Byte :=
  frameMark :: withCrc ([kind, tag, statusCode status] ++ le16 (BitVec.ofNat 16 body.length) ++ body)

/-- The bytes of a reply's body where the manual lays them out (log entry 13). -/
def bodyBytes : ReplyBody → Option (List Byte)
  | .empty => some []
  | .summary b => some b
  | .identity _ | .snapshot _ | .events _ _ _ | .config _ _ | .segment _ | .schedCount _ | .schedPosition _
  | .schedule _ | .run _ | .cleared _ | .faults _ | .captures _ _ | .captureValues _ _ _ _ _ | .beat _ _ => none

/-- R192: the frame of a reply whose body the manual lays out. -/
def Reply.frame (r : Reply) : Option (List Byte) := (bodyBytes r.body).map (replyFrame r.kind r.tag r.status)

/-- R194: a BUSY answer owed, with its empty body. -/
def busyReply (b : Byte × Byte) : Reply := { kind := b.1, tag := b.2, status := .busy, body := .empty }

/-- R194: the replies owed, in the order in which they leave: that of the request in hand, then the BUSY answers. -/
def owedReplies (s : State) : List Reply := s.link.reply.toList ++ s.link.busy.map busyReply

/-- R192, R194: the frames of the replies owed, in the order in which they leave. -/
def owedFrames (s : State) : List (Option (List Byte)) := (owedReplies s).map Reply.frame

/-- R192: the body length a frame's third and fourth bytes give. -/
def frameLength (bytes : List Byte) : Nat := (le16At bytes 2).toNat

/-- R192: whether the bytes show an oversize length, which is judged as soon as its second byte is taken. -/
def oversize (bytes : List Byte) : Bool := decide (4 ≤ bytes.length) && decide (Config.largestBody < frameLength bytes)

/-- R192: how many of the bytes after a marker belong to its frame: as many as the length asks for, none after the
length where it is oversize. -/
def frameEnd (bytes : List Byte) : Nat :=
  if bytes.length < 4 then bytes.length
  else if oversize bytes then 4
  else min bytes.length (6 + frameLength bytes)

/-- R192: whether a stop bit of the frame's own bytes was found low. -/
def framingError (bytes : List Byte) (lowStop : Option Nat) : Bool :=
  match lowStop with
  | some i => decide (i < frameEnd bytes)
  | none => false

/-- R192: whether the frame is there whole and its CRC differs from the one computed. -/
def badCrc (bytes : List Byte) : Bool :=
  decide (6 + frameLength bytes ≤ bytes.length) &&
    decide (crc16 (bytes.take (4 + frameLength bytes)) ≠ le16At bytes (4 + frameLength bytes))

/-- R192: whether the bytes after a marker are a frame that is discarded. -/
def frameFails (bytes : List Byte) (lowStop : Option Nat) : Bool :=
  framingError bytes lowStop || oversize bytes || badCrc bytes

/-- R192: whether the bytes after a marker hold its whole frame. -/
def frameWhole (bytes : List Byte) : Bool := decide (4 ≤ bytes.length) && decide (6 + frameLength bytes ≤ bytes.length)

/-- R192: whether the frame of a request fails: its body is longer than its length field may say, or its bytes, laid out
with their CRC-16, are discarded. -/
def requestFails (kind tag : Byte) (body : List Byte) : Bool :=
  decide (Config.largestBody < body.length) || frameFails (requestTail kind tag body) none

end Sys2Proof.Machine
end

