-- ==== Sys2Proof/Machine/Operands.lean ====
section
/-! DEFINITION. The operands of the requests: the kind codes, the body lengths that fit each kind and the fields of
each body (R195). -/

namespace Sys2Proof.Machine

/-- R195: whether a kind code is in the catalogue. -/
def knownKind (k : Byte) : Bool :=
  let n := k.toNat
  (1 ≤ n && n ≤ 4) || (0x10 ≤ n && n ≤ 0x13) || (0x20 ≤ n && n ≤ 0x25) || (0x30 ≤ n && n ≤ 0x33) ||
    (0x40 ≤ n && n ≤ 0x48) || (0x50 ≤ n && n ≤ 0x51) || (0x60 ≤ n && n ≤ 0x63) || n == 0x70

/-- R195: the fields of a SEG_OPEN body. -/
structure SegOpenArgs where
  id : Nat
  channels : BitVec 16
  frames : Nat
  ratio : Nat
  replace : Bool
deriving DecidableEq, Repr, Inhabited

/-- R195: the fields of a SEG_OPEN body of 9 bytes. -/
def segOpenArgs (b : List Byte) : SegOpenArgs :=
  { id := (byteAt b 0).toNat, channels := le16At b 1, frames := (le32At b 3).toNat, ratio := (byteAt b 7).toNat,
    replace := (byteAt b 8).getLsbD 0 }

/-- R26, step 1: the channel set, frame count and ratio are values a segment can have. -/
def segValuesOk (a : SegOpenArgs) : Bool :=
  decide (a.channels ≠ 0) && decide (2 ≤ a.frames) && decide (a.frames ≤ 1048576) &&
    (a.ratio == 1 || a.ratio == 2 || a.ratio == 4 || a.ratio == 8)

/-- R195: a SEG_DATA body carries 1 to 512 samples. -/
def segDataFits (b : List Byte) : Bool :=
  decide (7 ≤ b.length) && decide (b.length ≤ 1029) && decide (b.length % 2 = 1)

/-- R195: the samples a SEG_DATA body carries. -/
def segDataSamples (b : List Byte) : List Sample := samplesAt b 5 ((b.length - 5) / 2)

/-- R195: a SCHED_APPEND body carries 1 to 8 entries of 16 bytes. -/
def schedAppendFits (b : List Byte) : Bool :=
  decide (16 ≤ b.length) && decide (b.length ≤ 128) && decide (b.length % 16 = 0)

/-- R195, R48: the entry laid out at byte `i`, to be placed at schedule index `index`; none where one of its values
fails. A REPEAT's remaining counter is set to count - 1. -/
def entryAt (b : List Byte) (i index : Nat) : Option Entry :=
  let kind := byteAt b i
  if kind = 0 then
    let seg := (byteAt b (i + 1)).toNat
    let edge := byteAt b (i + 4)
    let flags := byteAt b (i + 5)
    let first := (le32At b (i + 8)).toNat
    let last := (le32At b (i + 12)).toNat
    if seg ≤ 63 ∧ (edge = 0 ∨ edge = 1) ∧ (flags.getLsbD 1 = true → first ≤ last ∧ last ≤ 1048575) then
      some (.play
        { seg := seg, gain := le16At b (i + 2), range := if flags.getLsbD 1 then some (first, last) else none,
          edge := if edge = 1 then .butted else .tapered, capture := flags.getLsbD 0 })
    else none
  else if kind = 1 then
    let d := (le32At b (i + 4)).toNat
    if 1 ≤ d ∧ d ≤ 16777215 then some (.dwell d) else none
  else if kind = 2 then
    let target := (le16At b (i + 2)).toNat
    let count := (le16At b (i + 4)).toNat
    if 1 ≤ count ∧ target < index then some (.rep target count (count - 1)) else none
  else if kind = 3 then some (.mark (le16At b (i + 2)))
  else none

/-- R48: the entries of a SCHED_APPEND body, to be placed from index `n` on; or the position of the first that
fails. `k` is the position reached and `left` the entries still to check. -/
def entriesFrom (b : List Byte) (n : Nat) : (k left : Nat) → Except Nat (List Entry)
  | _, 0 => .ok []
  | k, left + 1 =>
    match entryAt b (16 * k) (n + k) with
    | none => .error k
    | some e =>
      match entriesFrom b n (k + 1) left with
      | .error j => .error j
      | .ok es => .ok (e :: es)

/-- R48: the entries of a SCHED_APPEND body, or the position of the first that fails. -/
def appendedEntries (b : List Byte) (n : Nat) : Except Nat (List Entry) := entriesFrom b n 0 (b.length / 16)

end Sys2Proof.Machine
end

