-- ==== Sys2Proof/Machine/Ops.lean ====
section
/-! DEFINITION. The shared operations: raising an event, answering a request, the page pool, the sample store's word
operations, the descriptors and the schedule. There is no exception entry: raising a fault (Machine/Faults.lean) is
the nearest thing the device has. -/

namespace Sys2Proof.Machine

/-- What a command's meaning answers. -/
abbrev Result := Host.Outcome State Fault Refusal

/-! ## Events and replies -/

/-- R199: a record enters the event queue at its newest end; with 64 already there the oldest is lost and counted. -/
def raiseEvent (kind : EventKind) (subject value : Nat) (s : State) : State :=
  let r : EventRecord :=
    { seq := s.events.nextSeq, stamp := s.timebase.counter, kind := kind, subject := BitVec.ofNat 16 subject,
      value := BitVec.ofNat 32 value }
  if Config.maxEvents ≤ s.events.records.length then
    { s with events := { records := s.events.records.tail ++ [r], discards := satInc s.events.discards,
                         nextSeq := s.events.nextSeq + 1 } }
  else
    { s with events := { records := s.events.records ++ [r], discards := s.events.discards,
                         nextSeq := s.events.nextSeq + 1 } }

/-- R193: the reply of the request in hand is formed with this status and body. -/
def answer (status : Status) (body : ReplyBody) (s : State) : State :=
  match s.link.inHand with
  | some h => { s with link.reply := some { kind := h.kind, tag := h.tag, status := status, body := body } }
  | none => s

/-- What the request in hand still has to do. -/
def setJob (job : LinkJob) (s : State) : State :=
  match s.link.inHand with
  | some h => { s with link.inHand := some { h with job := job } }
  | none => s

/-- R192: a discard raises the bad-frame count by one and returns the assembly to HUNTING. -/
def discardFrame (s : State) : State :=
  { s with link.assembly := .hunting, link.collected := [], link.badFrames := satInc s.link.badFrames }

/-- R194: a complete request that finds the interface occupied is answered BUSY, or discarded when 8 BUSY answers are
owed. -/
def answerBusy (kind tag : Byte) (s : State) : State :=
  if s.link.busy.length < Config.maxBusy then
    { s with link.assembly := .hunting, link.collected := [], link.busy := s.link.busy ++ [(kind, tag)] }
  else discardFrame s

/-- R193: the interface accepts a complete request as its request in hand. -/
def takeInHand (kind tag : Byte) (s : State) : State :=
  { s with
    link.assembly := .hunting, link.collected := []
    link.inHand := some { kind := kind, tag := tag, job := .answered } }

/-- R192: bytes of the frame in assembly arrive, the one at `lowStop`, if there is one, with a low stop bit. They join
those collected: the frame is discarded where it fails, and goes on while it is not whole. A whole frame that does not fail
is a request, which a request command brings (log entry 18). -/
def takeFrameBytes (bytes : List Byte) (lowStop : Option Nat) (s : State) : State :=
  let all := s.link.collected ++ bytes
  if frameFails all (lowStop.map (fun i => s.link.collected.length + i)) then discardFrame s
  else if frameWhole all then s
  else { s with link.collected := all }

/-- R166, R192 to R194: a request frame arrives whole. It is discarded unless the device is up; it is discarded and
counted where its bytes fail, as they do when its body is longer than a frame can carry; it is not taken while the
interface is occupied, and otherwise taken: then `effect` is what its owning rule does. -/
def onRequest (kind tag : Byte) (body : List Byte) (effect : State → State) (s : State) : State :=
  if isUp s then
    if requestFails kind tag body then discardFrame s
    else if occupied s then answerBusy kind tag s
    else effect (takeInHand kind tag s)
  else s

/-- A request whose body length must be `n` (R193): BAD_LENGTH otherwise. -/
def withLength (n : Nat) (body : List Byte) (effect : State → State) (s : State) : State :=
  if body.length = n then effect s else answer .badLength .empty s

/-! ## Page pool (R5, R19) -/

/-- The least number from `q` on that is not in the ascending list. -/
def firstAbsent : List Nat → Nat → Nat
  | [], q => q
  | x :: r, q => if x < q then firstAbsent r q else if x = q then firstAbsent r (q + 1) else q

/-- R19: the next owned page above `p`, or the lowest owned page, if any page is owned. -/
def nextOwned (pool : List Nat) (p : Nat) : Option Nat :=
  let up := firstAbsent pool (p + 1)
  if up < Config.storePages then some up
  else
    let low := firstAbsent pool 0
    if low < Config.storePages then some low else none

/-- R19: the sweep position at word 0 of the page after `p`; page 0, word 0 when no page is owned. -/
def sweepAfter (pool : List Nat) (p : Nat) : Sweep :=
  match nextOwned pool p with
  | some q => { page := q, word := 0 }
  | none => { page := 0, word := 0 }

/-- R5: a block allocation of `n` pages: the lowest-numbered pages, or none if the pool holds fewer. -/
def allocateBlock (n : Nat) (s : State) : Option (List Nat × State) :=
  if n ≤ s.pool.length then some (s.pool.take n, { s with pool := s.pool.drop n }) else none

/-- R5: a single allocation: the lowest-numbered page, or none if the pool is empty. -/
def allocateOne (s : State) : Option (Nat × State) :=
  match s.pool with
  | [] => none
  | p :: rest => some (p, { s with pool := rest })

/-- R19: whether a waiting SCRUB request is for a word of one of the pages. -/
def scrubsOneOf (pages : List Nat) : Option MemOp → Bool
  | some (.scrub p _) => pages.contains p
  | _ => false

/-! ## The sample store (R3, R4, R13 to R18) -/

/-- R3: the sample at a position. -/
def sampleAt (st : Store) (position : Nat) : Sample := assocGet 0 st.cells position

/-- R3: the four samples of word `w`, lowest position first. -/
def wordSamples (st : Store) (w : Nat) : List Sample :=
  [sampleAt st (4 * w), sampleAt st (4 * w + 1), sampleAt st (4 * w + 2), sampleAt st (4 * w + 3)]

/-- R4: the outcome a word's check code gives while it is left unwritten. -/
def markOf (st : Store) (w : Nat) : ReadOutcome := assocGet .clean st.marks w

/-- The more severe of two outcomes. -/
def worseOutcome : ReadOutcome → ReadOutcome → ReadOutcome
  | .uncorrectable, _ => .uncorrectable
  | _, .uncorrectable => .uncorrectable
  | .corrected, _ => .corrected
  | _, .corrected => .corrected
  | .clean, .clean => .clean

/-- R4: the outcome of reading word `w` when its check code finds `found`: never less severe than the mark it has. -/
def outcomeAt (st : Store) (w : Nat) (found : ReadOutcome) : ReadOutcome := worseOutcome (markOf st w) found

/-- R17: a CORRECTED outcome adds one to the corrected-error count. -/
def countOutcome (o : ReadOutcome) (st : Store) : Store :=
  match o with
  | .corrected => { st with corrected := satInc st.corrected }
  | .clean => st
  | .uncorrectable => st

/-- R4: word `w` keeps (or, for CLEAN, is rid of) its mark. -/
def setMark (w : Nat) (o : ReadOutcome) (st : Store) : Store := { st with marks := assocSet .clean st.marks w o }

/-- R3: samples stored at their places in word `w`. -/
def setLanes (w : Nat) (lanes : List (Nat × Sample)) (st : Store) : Store :=
  { st with cells := lanes.foldl (fun cs l => assocSet 0 cs (4 * w + l.1) l.2) st.cells }

/-- R13: a read of word `w`: the outcome is counted, and the word keeps its error. -/
def storeRead (w : Nat) (found : ReadOutcome) (st : Store) : ReadOutcome × Store :=
  let o := outcomeAt st w found
  (o, countOutcome o (setMark w o st))

/-- R14: a whole-word write: the samples and a fresh check code, whatever the word held. -/
def storeWriteWhole (w : Nat) (lanes : List (Nat × Sample)) (st : Store) : Store :=
  setMark w .clean (setLanes w lanes st)

/-- R15: a partial-word write: read, merge and write as one; abandoned when the read is UNCORRECTABLE. -/
def storeWritePart (w : Nat) (lanes : List (Nat × Sample)) (found : ReadOutcome) (st : Store) :
    ReadOutcome × Store :=
  match outcomeAt st w found with
  | .uncorrectable => (.uncorrectable, setMark w .uncorrectable st)
  | .corrected => (.corrected, countOutcome .corrected (setMark w .clean (setLanes w lanes st)))
  | .clean => (.clean, setMark w .clean (setLanes w lanes st))

/-- R18: a scrub of word `w`: a CORRECTED word is written back with a fresh check code, an UNCORRECTABLE word is left
as it is. -/
def storeScrub (w : Nat) (found : ReadOutcome) (st : Store) : ReadOutcome × Store :=
  match outcomeAt st w found with
  | .uncorrectable => (.uncorrectable, setMark w .uncorrectable st)
  | .corrected => (.corrected, countOutcome .corrected (setMark w .clean st))
  | .clean => (.clean, st)

/-- The canonical form of the store: positions and words strictly rising, no zero sample and no CLEAN mark listed. -/
def Store.wf (st : Store) : Bool := assocWf 0 0 st.cells && assocWf .clean 0 st.marks

/-- R15, R14: a write of four lanes covers its word completely. -/
def isWhole (lanes : List (Nat × Sample)) : Bool := lanes.length == 4

/-! ## Offsets over a page list (R3, R16) -/

/-- R3, R24: the store word that holds an owner's word number `index`, over its page list; beyond the list there is no
such word, and the number given lies outside the store. -/
def wordOf (pages : List Nat) (index : Nat) : Nat :=
  pages.getD (index / Config.pageWords) Config.storePages * Config.pageWords + index % Config.pageWords

/-- R16: the lanes of owner word `index` that a run of samples from offset `start` on covers. -/
def runLanes (start : Nat) (samples : List Sample) (index : Nat) : List (Nat × Sample) :=
  (List.range 4).filterMap (fun lane =>
    let o := 4 * index + lane
    if start ≤ o then (samples[o - start]?).map (fun v => (lane, v)) else none)

/-- R16: the word operations of a run of consecutive offsets, in ascending word order. -/
def runOps (pages : List Nat) (start : Nat) (samples : List Sample) : List MemOp :=
  (List.range ((start + samples.length - 1) / 4 + 1 - start / 4)).map (fun k =>
    let index := start / 4 + k
    .write (wordOf pages index) (runLanes start samples index))

/-! ## The operation in progress and the release of pages (R5, R9, R11, R19) -/

/-- R3: the store word an operation touches. -/
def opWord : MemOp → Nat
  | .read w _ _ => w
  | .write w _ => w
  | .scrub p w => p * Config.pageWords + w

/-- R9, R11: the store once the operation that holds the grant has completed, its requestor discarding the result. The
model lets it find no new disturbance (log entry 42). -/
def completeInStore (s : State) : Store :=
  match s.arbiter.granted with
  | none => s.store
  | some g =>
    match g.op with
    | .read w _ _ => (storeRead w .clean s.store).2
    | .write w lanes =>
      if isWhole lanes then storeWriteWhole w lanes s.store else (storeWritePart w lanes .clean s.store).2
    | .scrub p w => (storeScrub (p * Config.pageWords + w) .clean s.store).2

/-- R11: a release takes effect between operations: an operation granted on one of the pages completes first. -/
def finishGranted (pages : List Nat) (s : State) : State :=
  match s.arbiter.granted with
  | none => s
  | some g =>
    if pages.contains (opWord g.op / Config.pageWords) then
      { s with store := completeInStore s, arbiter.granted := none }
    else s

/-- R5, R19: pages enter the pool, each at its place. A waiting SCRUB request for a word of one of them is withdrawn, and
a sweep position that stood on one moves on. -/
def poolPages (pages : List Nat) (s : State) : State :=
  let pool := pages.foldl (fun q p => insertNum p q) s.pool
  { s with
    pool := pool
    arbiter.scrub := if scrubsOneOf pages s.arbiter.scrub then none else s.arbiter.scrub
    sweep := if pages.contains s.sweep.page then sweepAfter pool s.sweep.page else s.sweep }

/-- R5, R11: a page list is released. -/
def releasePages (pages : List Nat) (s : State) : State := s |> finishGranted pages |> poolPages pages

/-! ## Descriptors and the schedule -/

/-- The descriptor of segment `id` (R22). -/
def descriptor (s : State) (id : Nat) : Descriptor := tget s.segments id

/-- The descriptor of segment `id` replaced. -/
def setDescriptor (id : Nat) (d : Descriptor) (s : State) : State := { s with segments := tset s.segments id d }

/-- R22: C, the number of channels of a channel set. -/
def SegData.count (d : SegData) : Nat := maskCount d.channels

/-- R24: the number of samples of a segment's data. -/
def SegData.size (d : SegData) : Nat := d.count * d.frames

/-- R26: the pages a channel set and a frame count need. -/
def pagesNeeded (channels : BitVec 16) (frames : Nat) : Nat :=
  ceilDiv (maskCount channels * frames) Config.pageSamples

/-- Whether an entry is a PLAY that names segment `id`. -/
def names (id : Nat) : Entry → Bool
  | .play p => p.seg == id
  | _ => false

/-- R34, R42: how many schedule entries name segment `id`. -/
def references (s : State) (id : Nat) : Nat := (s.schedule.filter (names id)).length

/-- R45: every REPEAT's remaining counter set to count - 1. -/
def reloadCounters (es : List Entry) : List Entry :=
  es.map (fun e =>
    match e with
    | .rep j c _ => .rep j c (c - 1)
    | e => e)

/-- R29, R33: the VERIFYING target `t` leaves the verification queue; if it was being verified, its waiting read is
withdrawn, a granted one is discarded (R11), and the next target begins afresh. -/
def dropTarget (t : Target) (s : State) : State :=
  if s.verifier.queue.head? = some t then
    { s with
      verifier := { queue := s.verifier.queue.erase t, nextWord := 0, entered := 0, crc := crc32Init }
      arbiter.link :=
        match s.arbiter.link with
        | some (.read _ _ .verify) => none
        | o => o
      arbiter.granted :=
        match s.arbiter.granted with
        | some { requestor := r, op := .read w i .verify, live := _ } =>
          some { requestor := r, op := .read w i .verify, live := false }
        | g => g }
  else { s with verifier.queue := s.verifier.queue.erase t }

end Sys2Proof.Machine
end

