-- ==== Sys2Proof/Machine/Lookahead.lean ====
section
/-! DEFINITION. The entry-start check, the passing of a REPEAT, the walk of the lookahead, its prefetch and its redo
(03_durability_schedules.md, R46, R55, R60, R63 to R65). -/

namespace Sys2Proof.Machine

/-- R55: an entry's frames fit a frame count: no sub-range, or its end below the count. -/
def rangeFits (p : PlayEntry) (frames : Nat) : Bool :=
  match p.range with
  | none => true
  | some r => decide (r.2 < frames)

/-- R43: the drive frames a to b an entry plays of a segment of `frames` drive frames. -/
def rangeOf (p : PlayEntry) (frames : Nat) : Nat × Nat :=
  match p.range with
  | none => (0, frames - 1)
  | some r => r

/-- R55: the entry-start check of a PLAY entry. -/
def startCheck (p : PlayEntry) (s : State) : Bool :=
  decide ((descriptor s p.seg).state = .ready) && rangeFits p (descriptor s p.seg).data.frames

/-- R37: the data of segment `id`'s replacement, if one waits READY. -/
def waitingRepl (id : Nat) (s : State) : Option SegData :=
  match (descriptor s id).repl with
  | some r => if r.state = .ready then some r.data else none
  | none => none

/-- R36: the segment whose play is in progress. -/
def playingSeg (s : State) : Option Nat :=
  match s.pipeline.params with
  | some (.play p) => some p.seg
  | _ => none

/-- R60, R63: the data a successor that names segment `id` would play, and whether it is a waiting replacement's: that
of a READY replacement waiting for the end of the play in progress of `id`, otherwise the descriptor's when READY. -/
def successorData (id : Nat) (s : State) : Option (Bool × SegData) :=
  match (if playingSeg s = some id then waitingRepl id s else none) with
  | some d => some (true, d)
  | none => if (descriptor s id).state = .ready then some (false, (descriptor s id).data) else none

/-- R60: the join check, against the data the successor would play. -/
def joinCheck (p : PlayEntry) (s : State) : Bool :=
  match successorData p.seg s with
  | some d => rangeFits p d.2.frames
  | none => false

/-- R46: passing REPEAT entry `r`: the index the cursor goes to and the list with the remaining counter decreased or
reloaded. -/
def passRepeat (r target count remaining : Nat) (es : List Entry) : Nat × List Entry :=
  if 0 < remaining then (target, es.set r (.rep target count (remaining - 1)))
  else (r + 1, es.set r (.rep target count (count - 1)))

/-- R46: more steps than any advance through 256 entries with counts up to 65,535 can take. -/
def advanceFuel : Nat := 257 * 65536 ^ 256

/-- R63: the walk of the lookahead from index `i` with its own copy `es` of the list: the first PLAY or DWELL entry or
none for "end of schedule", and the highest index visited, n at the end. -/
def walk : Nat → List Entry → Nat → Nat → Option Nat × Nat
  | 0, _, _, reach => (none, reach)
  | fuel + 1, es, i, reach =>
    match es[i]? with
    | none => (none, es.length)
    | some (.play _) => (some i, max reach i)
    | some (.dwell _) => (some i, max reach i)
    | some (.mark _) => walk fuel es (i + 1) (max reach i)
    | some (.rep j c m) => walk fuel (passRepeat i j c m es).2 (passRepeat i j c m es).1 (max reach i)

/-- R24: the word after the last that holds a sample at an offset below `hi`. -/
def stopOf (hi : Nat) : Nat := (hi + 3) / 4

/-- R64: the prefetch of frame a and, if a < b, frame a + 1 of a PLAY entry over the data it would play (frames that
the data does not have are not read: log entry 22; a waiting READY replacement is prefetched whatever its descriptor's
state: log entry 47). -/
def prefetchOf (p : PlayEntry) (s : State) : Option Prefetch :=
  match successorData p.seg s with
  | none => none
  | some (fromRepl, d) =>
    let a := (rangeOf p d.frames).1
    let last := min (min (a + 1) (rangeOf p d.frames).2) (d.frames - 1)
    if a < d.frames then
      some { seg := p.seg, fromRepl := fromRepl, pages := d.pages, lo := a * d.count, hi := (last + 1) * d.count,
             samples := [], nextWord := a * d.count / 4, stopWord := stopOf ((last + 1) * d.count) }
    else none

/-- R63, R64: the resolution of the successor of the entry at the cursor. -/
def resolve (s : State) : Lookahead :=
  let w := walk advanceFuel s.schedule (s.sequencer.cursor + 1) (s.sequencer.cursor + 1)
  match w.1 with
  | none => { successor := none, continues := false, reach := w.2, prefetch := none }
  | some j =>
    match s.schedule[j]? with
    | some (.play p) =>
      { successor := some j, continues := joinCheck p s, reach := w.2, prefetch := prefetchOf p s }
    | _ => { successor := some j, continues := false, reach := w.2, prefetch := none }

/-- Whether the entry in force is a BUTTED PLAY. -/
def buttedInForce (s : State) : Bool :=
  match s.pipeline.params with
  | some (.play p) => decide (p.edge = .butted)
  | _ => false

/-- R11: a waiting PLAYBACK read of this purpose is withdrawn, and a granted one will be discarded. That its report of an
uncorrectable word is discarded with its data, so that it neither marks nor counts (R39, R40), is the model's choice: log
entry 30 for a play that has ended, log entry 46 for a cancelled lookahead. -/
def withdrawReads (purpose : ReadPurpose) (s : State) : State :=
  { s with
    arbiter.playback :=
      match s.arbiter.playback with
      | some (.read w i q) => if q = purpose then none else some (.read w i q)
      | o => o
    arbiter.granted :=
      match s.arbiter.granted with
      | some { requestor := r, op := .read w i q, live := l } =>
        some { requestor := r, op := .read w i q, live := l && decide (q ≠ purpose) }
      | g => g }

/-- R61, R64, R65: a lookahead is void or cancelled: its prefetch is withdrawn and the continuation answer is no. -/
def voidLookahead (s : State) : State :=
  { withdrawReads .prefetch s with sequencer.lookahead := none, pipeline.continuation := false }

/-- R63: the successor is resolved and the pipeline receives the answer. -/
def installLookahead (s : State) : State :=
  { s with sequencer.lookahead := some (resolve s),
           pipeline.continuation := buttedInForce s && (resolve s).continues }

/-- R65: a standing lookahead is cancelled and redone. -/
def redoLookahead (s : State) : State :=
  if s.sequencer.lookahead.isSome then installLookahead (voidLookahead s) else s

/-- Whether the standing lookahead's successor is a PLAY entry of segment `id`. -/
def successorNames (id : Nat) (s : State) : Bool :=
  match s.sequencer.lookahead with
  | some { successor := some j, continues := _, reach := _, prefetch := _ } =>
    match s.schedule[j]? with
    | some e => names id e
    | none => false
  | _ => false

/-- R65: a change to segment `id` redoes a lookahead whose successor is a PLAY of it. -/
def segChanged (id : Nat) (s : State) : State := if successorNames id s then redoLookahead s else s

end Sys2Proof.Machine
end

