-- ==== Sys2Proof/Machine/SegmentOps.lean ====
section
/-! DEFINITION. The segment table's shared operations: the swap, the end of a play, the markings and rejections
(02_segments.md, R31, R32, R36 to R40; R20, R64). -/

namespace Sys2Proof.Machine

/-- R64: the frames carried to a successor at a swap of segment `id`: those from the replacement's pages become frames of
the descriptor's data, and those from the old data are discarded. -/
def carriedAtSwap (id : Nat) (s : State) : State :=
  { s with
    sequencer.carried :=
      match s.sequencer.carried with
      | none => none
      | some f => if f.seg = id then (if f.fromRepl then some { f with fromRepl := false } else none) else some f }

/-- R64: frames carried from data of segment `id` that ceases to exist are discarded: the replacement's when `repl`,
otherwise any. -/
def dropCarried (id : Nat) (repl : Bool) (s : State) : State :=
  { s with
    sequencer.carried :=
      match s.sequencer.carried with
      | none => none
      | some f => if f.seg = id ∧ (f.fromRepl = true ∨ repl = false) then none else some f }

/-- R38: the swap of a segment's replacement, in the order of the rule's six steps. -/
def swapIn (id : Nat) (s : State) : State :=
  match (descriptor s id).repl with
  | none => s
  | some r =>
    s |> setDescriptor id { descriptor s id with state := .ready, data := r.data, doubleErrors := 0, repl := none }
      |> carriedAtSwap id
      |> releasePages (descriptor s id).data.pages
      |> raiseEvent .replacementApplied id r.data.frames
      |> segChanged id

/-- R36, R37: the play of a segment ends; a replacement that waits READY is swapped in as part of the end. -/
def endSegPlay (id : Nat) (s : State) : State :=
  let s1 := setDescriptor id { descriptor s id with inPlay := false } s
  if (waitingRepl id s1).isSome then swapIn id s1 else s1

/-- R39: the descriptor's double-error count rises by `k`. -/
def addDoubleErrors (id k : Nat) (s : State) : State :=
  setDescriptor id { descriptor s id with doubleErrors := satAdd (descriptor s id).doubleErrors k } s

/-- R40: a report of an uncorrectable word in a descriptor's pages marks a READY descriptor DAMAGED. -/
def markDamaged (id origin : Nat) (s : State) : State :=
  if (descriptor s id).state = .ready then
    s |> setDescriptor id { descriptor s id with state := .damaged }
      |> raiseEvent .segmentDamaged id origin
      |> segChanged id
  else s

/-- R33, R20, R64: a descriptor's replacement ceases to exist and its pages return to the pool. -/
def removeReplacement (id : Nat) (s : State) : State :=
  match (descriptor s id).repl with
  | none => s
  | some r =>
    s |> setDescriptor id { descriptor s id with repl := none } |> dropCarried id true |> releasePages r.data.pages

/-- R20, R64: a READY replacement that holds an uncorrectable word is dropped; one in another state is left alone. -/
def dropReplacement (id : Nat) (s : State) : State :=
  if (waitingRepl id s).isSome then
    s |> removeReplacement id |> raiseEvent .segmentRejected id 4 |> segChanged id
  else s

/-- R32, R33, R34: a descriptor becomes EMPTY and its pages return to the pool. -/
def emptyDescriptor (id : Nat) (s : State) : State :=
  s |> setDescriptor id .blank |> dropCarried id false |> releasePages (descriptor s id).data.pages

/-- The data a verification target holds (R29). -/
def targetData (t : Target) (s : State) : SegData :=
  if t.repl then
    match (descriptor s t.seg).repl with
    | some r => r.data
    | none => .blank
  else (descriptor s t.seg).data

/-- R32: a verification ends in a rejection, for an uncorrectable word when `memory`, otherwise for the checksum. -/
def rejectTarget (t : Target) (memory : Bool) (s : State) : State :=
  if t.repl then
    s |> dropTarget t |> removeReplacement t.seg |> raiseEvent .segmentRejected t.seg (if memory then 4 else 3)
  else
    s |> dropTarget t |> emptyDescriptor t.seg |> raiseEvent .segmentRejected t.seg (if memory then 2 else 1)

/-- R31: a verification ends well. A descriptor becomes READY; a replacement becomes READY and, if its segment is not
in play, is swapped in at once. -/
def readyTarget (t : Target) (s : State) : State :=
  let d := descriptor s t.seg
  if t.repl then
    match d.repl with
    | none => dropTarget t s
    | some r =>
      let s1 :=
        s |> dropTarget t
          |> setDescriptor t.seg
              { d with repl := some { state := .ready, data := { r.data with dataCrc := some r.data.expected } } }
          |> raiseEvent .segmentReady t.seg 1
          |> segChanged t.seg
      if d.inPlay then s1 else swapIn t.seg s1
  else
    s |> dropTarget t
      |> setDescriptor t.seg { d with state := .ready, data := { d.data with dataCrc := some d.data.expected } }
      |> raiseEvent .segmentReady t.seg 0
      |> segChanged t.seg

end Sys2Proof.Machine
end

