-- ==== Sys2Proof/Machine/Evidence.lean ====
section
/-! DEFINITION. Response capture and pass summaries: opening, filling and closing records and summaries
(08_response_capture_and_pass_summaries.md, R148 to R161). -/

namespace Sys2Proof.Machine

/-! ## Summaries -/

/-- R158: a feedback channel's statistics before the first play frame. -/
def FeedbackStat.none : FeedbackStat := { extremes := Option.none, sumSquares := 0 }

/-- R158: a play's beginning raises the pass ordinal and opens its summary. -/
def openSummary (entry seg : Nat) (s : State) : State :=
  let n := satInc s.summaries.ordinal
  { s with
    summaries.ordinal := n
    summaries.opened := some
      { ordinal := n, entry := entry, seg := seg, captureId := none, playFrames := 0,
        feedback := Vector.replicate 32 .none, memoryErrors := Vector.replicate 16 0 } }

/-- R159: one value enters a channel's statistics. -/
def accumulateStat (v : Sample) (f : FeedbackStat) : FeedbackStat :=
  { extremes := some (match f.extremes with
      | Option.none => (v, v)
      | some (lo, hi) => (if v.toInt < lo.toInt then v else lo, if hi.toInt < v.toInt then v else hi))
    sumSquares := f.sumSquares + BitVec.ofNat 64 (v.toInt.natAbs * v.toInt.natAbs) }

/-- R159: a play frame enters the open summary. -/
def accumulate (s : State) : State :=
  match s.summaries.opened with
  | none => s
  | some o =>
    { s with
      summaries.opened := some
        { o with
          playFrames := satInc o.playFrames
          feedback := tmap (fun i f => accumulateStat (tget s.rig.feedback i) f) o.feedback } }

/-- R159: the memory-error counts rise by one for each substituted sample, by channel. -/
def countMemoryErrors (channels : List Nat) (s : State) : State :=
  match s.summaries.opened with
  | none => s
  | some o =>
    { s with
      summaries.opened := some
        { o with memoryErrors := channels.foldl (fun v c => tset v c (satInc (tget v c))) o.memoryErrors } }

/-- R160: the fields of a closed summary for one feedback channel. -/
def closeStat (n : Nat) (f : FeedbackStat) : FeedbackFields :=
  match n, f.extremes with
  | 0, _ => { least := 0, greatest := 0, meanSquare := 0 }
  | _, Option.none => { least := 0, greatest := 0, meanSquare := 0 }
  | n, some (lo, hi) => { least := lo, greatest := hi, meanSquare := BitVec.ofNat 32 (f.sumSquares.toNat / n) }

/-- R86: the clamp and slew counts the pipeline hands over for channel `c`; a disabled channel gives 0. -/
def handedCounts (s : State) (o : OpenSummary) (c : Nat) : DriveFields :=
  if enabled s c then
    { clampCount := (tget s.pipeline.channels c).clampCount, slewCount := (tget s.pipeline.channels c).slewCount,
      memoryErrors := tget o.memoryErrors c }
  else { clampCount := 0, slewCount := 0, memoryErrors := tget o.memoryErrors c }

/-- R160: the summary completed at a play's end. -/
def closedSummary (aborted joined : Bool) (o : OpenSummary) (s : State) : Summary :=
  { ordinal := o.ordinal, playFrames := o.playFrames, counter := s.timebase.counter, entry := o.entry, seg := o.seg,
    captureId := o.captureId, aborted := aborted, noSamples := decide (o.playFrames = 0), joined := joined,
    drive := tmk 16 (handedCounts s o), feedback := tmap (fun _ f => closeStat o.playFrames.toNat f) o.feedback }

/-- R161: a closed summary enters the summary queue; with 16 already there the oldest is lost and counted. -/
def queueSummary (m : Summary) (s : State) : State :=
  let q : State :=
    if Config.maxSummaries ≤ s.summaries.queue.length then
      { s with summaries.queue := s.summaries.queue.tail ++ [m], summaries.discards := satInc s.summaries.discards }
    else { s with summaries.queue := s.summaries.queue ++ [m] }
  raiseEvent .summaryQueued m.entry m.ordinal.toNat q

/-- R86: the clamp and slew counts return to 0. -/
def zeroCounts (s : State) : State :=
  { s with pipeline.channels := tmap (fun _ ch => { ch with clampCount := 0, slewCount := 0 }) s.pipeline.channels }

/-- R86, R160: the counts are handed over and return to 0, and the open summary closes. -/
def closeSummary (aborted joined : Bool) (s : State) : State :=
  match s.summaries.opened with
  | none => zeroCounts s
  | some o =>
    queueSummary (closedSummary aborted joined o s) (zeroCounts { s with summaries.opened := none })

/-- R162: the capture record id as a summary body carries it. -/
def captureIdByte : Option Nat → Byte
  | none => 255
  | some i => BitVec.ofNat 8 i

/-- R162: the flags of a summary. -/
def summaryFlags (m : Summary) : BitVec 16 :=
  (if m.aborted then 1 else 0) ||| (if m.noSamples then 2 else 0) ||| (if m.joined then 4 else 0)

/-- R162: the 470 bytes of a SUMMARY_READ body. -/
def summaryBytes (m : Summary) : List Byte :=
  le32 m.ordinal ++ le32 m.playFrames ++ le64 m.counter ++ le16 (BitVec.ofNat 16 m.entry) ++
    [BitVec.ofNat 8 m.seg, captureIdByte m.captureId] ++ le16 (summaryFlags m) ++
    m.drive.toList.flatMap (fun d => le32 d.clampCount ++ le32 d.slewCount ++ le32 d.memoryErrors) ++
    m.feedback.toList.flatMap (fun f => le16 f.least ++ le16 f.greatest ++ le32 f.meanSquare)

/-! ## Captures -/

/-- The record in slot `i`, if any (R148). -/
def slot (s : State) (i : Nat) : Option CaptureRecord := tget s.capture.slots i

/-- Slot `i` replaced. -/
def setSlot (i : Nat) (r : Option CaptureRecord) (s : State) : State :=
  { s with capture.slots := tset s.capture.slots i r }

/-- R149: the lowest-numbered free slot. -/
def freeSlot (s : State) : Option Nat := (List.range 32).find? (fun i => (slot s i).isNone)

/-- R149: a flagged play's capture record opens, or CAPTURE_SKIPPED is raised. The record's id is handed to the open
summary. -/
def openCapture (entry seg : Nat) (s : State) : State :=
  let set := (general s).captureSet
  if set = 0 then raiseEvent .captureSkipped entry 3 s
  else
    match freeSlot s with
    | none => raiseEvent .captureSkipped entry 1 s
    | some i =>
      match allocateOne s with
      | none => raiseEvent .captureSkipped entry 2 s
      | some (page, s1) =>
        let s2 := setSlot i (some
          { entry := entry, ordinal := s1.summaries.ordinal, seg := seg, channels := set, frames := 0, pages := [page],
            state := .filling, endedEarly := false, damaged := false }) s1
        { s2 with
          capture.current := some i
          summaries.opened := s2.summaries.opened.map (fun o => { o with captureId := some i }) }

/-- R154: an uncorrectable word in a record's pages sets its DAMAGED flag; the first report raises CAPTURE_DAMAGED
with its origin. -/
def reportCapture (i origin : Nat) (s : State) : State :=
  match slot s i with
  | none => s
  | some r =>
    if r.damaged then s
    else s |> setSlot i (some { r with damaged := true }) |> raiseEvent .captureDamaged i origin

/-- R150, R123: the values of a capture frame, in ascending channel order. -/
def captureValues (r : CaptureRecord) (s : State) : List Sample :=
  (maskList r.channels).map (fun c => tget s.rig.feedback c)

/-- R148: K, the number of channels of a record. -/
def CaptureRecord.count (r : CaptureRecord) : Nat := maskCount r.channels

/-- R151: the word writes of the next capture frame of the record in slot `i` are made ready. -/
def issueFrame (i : Nat) (r : CaptureRecord) (s : State) : State :=
  { s with capture.ops := runOps r.pages (r.frames * r.count) (captureValues r s), capture.writing := some i }

/-- R150 to R152: the record of the play in progress takes a captured frame: a new page first if the frame needs one;
if none can be had the record becomes TRUNCATED. -/
def captureFrame (s : State) : State :=
  match s.capture.current with
  | none => s
  | some i =>
    match slot s i with
    | none => s
    | some r =>
      if r.state = .filling then
        if Config.pageSamples * r.pages.length < (r.frames + 1) * r.count then
          match allocateOne s with
          | some (page, s1) =>
            let r1 := { r with pages := r.pages ++ [page] }
            issueFrame i r1 (setSlot i (some r1) s1)
          | none =>
            s |> setSlot i (some { r with state := .truncated }) |> raiseEvent .captureTruncated i r.frames
        else issueFrame i r s
      else s

/-- R153: the record's state after its play's end. -/
def closedRecord (early : Bool) (r : CaptureRecord) : CaptureRecord :=
  match r.state with
  | .filling => { r with state := .complete, endedEarly := early }
  | .truncated => { r with endedEarly := r.endedEarly || early }
  | .complete => r

/-- R153: the record of the play in progress closes. -/
def closeRecord (early : Bool) (s : State) : State :=
  let s1 : State := { s with capture.current := none, capture.closing := false }
  match s.capture.current with
  | none => s1
  | some i =>
    match slot s i with
    | none => s1
    | some r => setSlot i (some (closedRecord early r)) s1

/-- R103, R153: a play's end closes its record. An abort closes it as part of the state change; a normal end while writes
of the last capture frame are still in progress closes it when they have completed. -/
def closeCapture (aborted : Bool) (s : State) : State :=
  if aborted || s.capture.ops.isEmpty then closeRecord aborted s else { s with capture.closing := true }

/-- R151: the last word operation of a capture frame has completed: the frame counts, in whatever state its record stands
by then (log entry 26). -/
def countFrame (s : State) : State :=
  let s1 : State := { s with capture.writing := none }
  match s.capture.writing with
  | none => s1
  | some i =>
    match slot s i with
    | none => s1
    | some r => setSlot i (some { r with frames := r.frames + 1 }) s1

/-! ## The end of a play -/

/-- R59, R103: a play ends, in the order segment table, pipeline, summary, capture. -/
def endPlay (aborted joined : Bool) (s : State) : State :=
  match s.pipeline.params with
  | some (.play p) =>
    let s1 := s |> withdrawReads .play |> endSegPlay p.seg |> closeSummary aborted joined
    closeCapture aborted { s1 with pipeline.params := none, sequencer.fetch := .none }
  | _ => s

end Sys2Proof.Machine
end

