-- ==== Sys2Proof/Machine/Faults.lean ====
section
/-! DEFINITION. Raising a fault, the effective action and what the run controller does with it: the abort of a play,
UNLOADING, FROZEN (05_run_control_and_hydraulic_pressure.md, R95, R101 to R107; 07_limit_monitors_and_fault_handling.md,
R134 to R141). -/

namespace Sys2Proof.Machine

/-- The entry of fault source `k` replaced. -/
def setEntry (k : Nat) (e : FaultEntry) (s : State) : State := { s with faults.entries := tset s.faults.entries k e }

/-- R140: FAULT_N is set again. -/
def setFaultLine (s : State) : State := { s with faults.faultN := faultLine s.faults.entries }

/-- R141: the value of a fault event: the class code above the source's subject. -/
def faultValue (e : FaultEntry) : Nat := classCode e.cls * 65536 + e.subject.toNat

/-- R126: every monitor's counters become 0. -/
def zeroMonitors (s : State) : State :=
  { s with monitors := tmap (fun _ m => { m with outside := 0, inside := 0 }) s.monitors }

/-- R107: PRESSURE_REQ falls: the monitors' counters are reset and the ready-grace timer becomes IDLE. -/
def pressureFall (s : State) : State := zeroMonitors { s with run.pressure := .low, run.grace := .idle }

/-- R52: the sequencer's phase becomes IDLE, the cursor kept. -/
def sequencerIdle (s : State) : State :=
  { s with sequencer.phase := .idle, sequencer.position := 0, sequencer.entry := none, sequencer.carried := none,
           sequencer.joinPending := false }

/-- R60, R37: a successor whose join has passed, but whose play waits for the joined entry's capture close, is given up:
its segment is no longer in play. -/
def endJoinWait (s : State) : State :=
  if s.sequencer.joinPending then
    match s.schedule[s.sequencer.cursor]? with
    | some (.play p) => endSegPlay p.seg s
    | _ => s
  else s

/-- R62, R103: the entry in force, if any, is aborted; then the phase is IDLE. -/
def abortEntry (s : State) : State :=
  let s1 := endPlay true false (endJoinWait (voidLookahead s))
  sequencerIdle { s1 with pipeline.params := none }

/-- R134, R136: fault source `k` ceases to be active and FAULT_CLEARED is raised with the subject of its raise. A
monitor's trip ends with its source (R126). -/
def endSource (k : Nat) (s : State) : State :=
  let e := source s k
  let s1 := setEntry k { e with active := false, subject := 0 } s
  let s2 : State :=
    if k < 32 then { s1 with monitors := tset s1.monitors k { tget s1.monitors k with tripped := false } } else s1
  raiseEvent .faultCleared k (faultValue e) s2

/-- R139: a source leaves the pause-reason set. -/
def leaveSet (k : Nat) (s : State) : State := { s with run.sources := s.run.sources.filter (fun j => j ≠ k) }

/-- R138: the effective action is formed again, without effect on the run. -/
def setAction (s : State) : State := { s with faults.action := effectiveAction s.faults.entries }

/-- R135: SEGMENT_MISSING ends as the sequencer ceases to wait at the entry. The run has by then entered PARKING,
UNLOADING or FROZEN, where neither the set becoming empty nor a falling action moves it (R92, R138). -/
def endWait (s : State) : State :=
  if (source s 35).active then s |> endSource 35 |> leaveSet 35 |> setAction |> setFaultLine else s

/-- R84: on entering PARKING or UNLOADING the stop taper begins if the taper counter stands above 0. -/
def beginStopTaper (s : State) : State := { s with pipeline.stopTaper := decide (0 < s.pipeline.taper) }

/-- R101: the run enters PARKING. -/
def enterParking (s : State) : State :=
  { s with run.state := .parking } |> abortEntry |> endWait |> beginStopTaper

/-- R102: the run enters UNLOADING. -/
def enterUnloading (s : State) : State :=
  { s with run.state := .unloading } |> abortEntry |> endWait |> beginStopTaper

/-- R85: the pipeline's part of a freeze. -/
def freezePipeline (s : State) : State :=
  { s with pipeline.taper := 0, pipeline.stopTaper := false,
           pipeline.channels := tmap (fun _ ch => { ch with held := 0 }) s.pipeline.channels }

/-- R104: the run becomes FROZEN. -/
def freeze (s : State) : State :=
  { s with run.state := .frozen, run.unload := .idle } |> pressureFall |> abortEntry |> endWait |> freezePipeline

/-- R105: the unload delay in STOPPED ends. -/
def endStoppedDelay (s : State) : State :=
  { pressureFall s with run.unload := .idle } |> raiseEvent .unloadDone s.sequencer.cursor 2

/-- R105: what the action STOP does to the run state it finds. A configured delay of 0 ends at once (log entry 14). -/
def stopAction (s : State) : State :=
  match s.run.state with
  | .starting | .running | .pausing | .paused | .holding | .parking => enterUnloading s
  | .unloading | .frozen => s
  | .stopped =>
    if s.run.pressure = .high ∧ s.run.unload = .idle then
      if (general s).unloadMs = 0 then endStoppedDelay s else { s with run.unload := .inStopped }
    else s

/-- R138: the run controller acts on a new effective action. -/
def handAction (a : Option FaultClass) (s : State) : State :=
  match a with
  | some .trip => freeze s
  | some .stop => stopAction s
  | _ => s

/-- R138: the effective action is formed again and, if it has changed, handed to the run controller. -/
def formAction (s : State) : State :=
  if effectiveAction s.faults.entries = s.faults.action then s
  else handAction (effectiveAction s.faults.entries) (setAction s)

/-- R95: whether an entry is in force; a joined successor that waits for the capture close is (log entry 12). -/
def inForce (s : State) : Bool := decide (s.sequencer.phase = .inEntry) || s.sequencer.joinPending

/-- R96: the run becomes PAUSED. Carried frames serve a joined successor that waits for the capture close (R64, R153),
and are discarded otherwise (log entry 38). -/
def enterPaused (s : State) : State :=
  { s with
    run.state := .paused
    sequencer.carried := if s.sequencer.joinPending then s.sequencer.carried else none }

/-- R92, R95: the pause-reason set has become non-empty. -/
def pauseJoined (s : State) : State :=
  if s.run.state = .running then (if inForce s then { s with run.state := .pausing } else enterPaused s) else s

/-- R139: a source joins the pause-reason set. -/
def joinSet (k : Nat) (s : State) : State := pauseJoined { s with run.sources := insertNum k s.run.sources }

/-- R134: fault source `k` is raised with `subject`, in ACTIVE mode only; a raise of an active source is absorbed. -/
def raise (k subject : Nat) (s : State) : State :=
  let e : FaultEntry := { source s k with active := true, subject := BitVec.ofNat 16 subject }
  if !isActive s || (source s k).active then s
  else
    let s1 := s |> setEntry k e |> raiseEvent .faultRaised k (faultValue e)
    let s2 := if e.cls = .pause then joinSet k s1 else s1
    s2 |> formAction |> setFaultLine

/-- R134: a raise of a SELF_CLEARING source whose condition has already ended is reported and leaves nothing active. -/
def raiseEnded (k subject : Nat) (s : State) : State :=
  if !isActive s || (source s k).active then s
  else raiseEvent .faultRaised k (faultValue { source s k with subject := BitVec.ofNat 16 subject }) s

end Sys2Proof.Machine
end

