-- ==== Sys2Proof/Machine/SequencerOps.lean ====
section
/-! DEFINITION. The sequencer: entry starts, the advance, joins and entry ends, with the reads that fetch drive frames,
and the run's return to RUNNING (03_durability_schedules.md, R53 to R61; R92, R96, R97, R136). -/

namespace Sys2Proof.Machine

/-! ## Fetching drive frames (R55) -/

/-- R55: the word before which reads are due so that frames up to `n + 1`, or b, are fetched. -/
def dueFor (p : PlayParams) (n : Nat) : Nat := stopOf ((min (n + 1) p.last + 1) * maskCount p.channels)

/-- R55: in RUNNING or PAUSING with a play's drive frames still to give, the words of the next play frame become due,
and samples that no later frame or substitute needs are dropped. -/
def callReads (s : State) : State :=
  match s.pipeline.params with
  | some (.play p) =>
    if (s.run.state = .running ∨ s.run.state = .pausing) ∧ s.sequencer.phase = .inEntry ∧
        s.sequencer.position < p.length then
      let n := p.first + s.sequencer.position / p.ratio
      { s with
        sequencer.fetch :=
          { s.sequencer.fetch with
            dueWord := max s.sequencer.fetch.dueWord (dueFor p n)
            samples := s.sequencer.fetch.samples.filter (fun x => (n - 1) * maskCount p.channels ≤ x.1) } }
    else s
  | _ => s

/-- R55, R64: what a play's fetch begins with: the frames prefetched for it when they come from the same data. -/
def initialFetch (p : PlayParams) (carried : Option Prefetch) : Fetch :=
  let lo := p.first * maskCount p.channels
  match carried with
  | some f =>
    if f.seg = p.seg ∧ f.fromRepl = false ∧ f.pages = p.pages ∧ f.lo = lo then
      { samples := f.samples, nextWord := f.nextWord, dueWord := dueFor p p.first }
    else { samples := [], nextWord := lo / 4, dueWord := dueFor p p.first }
  | none => { samples := [], nextWord := lo / 4, dueWord := dueFor p p.first }

/-! ## Entry starts (R54, R55) -/

/-- R67: the PLAY set of entry parameters, from the descriptor as it stands (R36). -/
def playParams (idx : Nat) (p : PlayEntry) (byJoin : Bool) (d : SegData) : PlayParams :=
  let r := rangeOf p d.frames
  { entry := idx, seg := p.seg, channels := d.channels, ratio := d.ratio, pages := d.pages, first := r.1, last := r.2,
    gain := p.gain, edge := p.edge, length := (r.2 - r.1 + 1) * d.ratio, byJoin := byJoin, joinFailed := false,
    substituted := false }

/-- R52: an entry comes into force. -/
def enterEntry (idx : Nat) (s : State) : State :=
  { s with sequencer.cursor := idx, sequencer.phase := .inEntry, sequencer.position := 0,
           sequencer.entry := some idx, sequencer.carried := none, sequencer.joinPending := false }

/-- R55: a play begins, handed to the segment table, the pipeline, the accumulator and the capture unit in that order;
then the lookahead is resolved. -/
def beginPlay (idx : Nat) (p : PlayEntry) (byJoin : Bool) (s : State) : State :=
  let d := descriptor s p.seg
  let q := playParams idx p byJoin d.data
  let s1 := setDescriptor p.seg { d with inPlay := true } s
  let s2 := zeroCounts { s1 with pipeline.params := some (.play q),
                                 sequencer.fetch := initialFetch q s.sequencer.carried }
  let s3 := openSummary idx p.seg s2
  let s4 := if p.capture then openCapture idx p.seg s3 else s3
  s4 |> enterEntry idx |> installLookahead

/-- R55, R59: a DWELL entry starts. -/
def beginDwell (idx frames : Nat) (s : State) : State :=
  { s with pipeline.params := some (.dwell frames) } |> enterEntry idx |> installLookahead

/-- R52: the sequencer stands without an entry in force in a phase. -/
def stand (phase : Phase) (cursor : Nat) (s : State) : State :=
  { s with sequencer.cursor := cursor, sequencer.phase := phase, sequencer.position := 0, sequencer.entry := none,
           sequencer.carried := none, sequencer.joinPending := false }

/-- R58: the schedule ends, and the run moves to HOLDING. -/
def endSchedule (s : State) : State :=
  let s1 := s |> stand .ended s.schedule.length |> raiseEvent .scheduleEnded s.schedule.length 0
  if s1.run.state = .running then { s1 with run.state := .holding } else s1

/-- R56, R134, R64: a missing segment under class NOTE is reported and skipped; the frames prefetched for it are
discarded. -/
def skipEntry (idx seg : Nat) (s : State) : State :=
  { s with sequencer.carried := none } |> raiseEnded 35 (idx * 64 + seg) |> raiseEvent .entrySkipped idx seg

/-- R56: a missing segment under another class: the sequencer waits at the entry. -/
def waitEntry (idx seg : Nat) (s : State) : State := s |> stand .awaiting idx |> raise 35 (idx * 64 + seg)

/-- R54: the advance, from index `i` on. -/
def advance : Nat → Nat → State → State
  | 0, _, s => s
  | fuel + 1, i, s =>
    match s.schedule[i]? with
    | none => endSchedule s
    | some (.mark t) => advance fuel (i + 1) (raiseEvent .mark t.toNat i s)
    | some (.rep j c m) =>
      advance fuel (passRepeat i j c m s.schedule).1 { s with schedule := (passRepeat i j c m s.schedule).2 }
    | some (.dwell d) => beginDwell i d s
    | some (.play p) =>
      if startCheck p s then beginPlay i p false s
      else if (source s 35).cls = .note then advance fuel (i + 1) (skipEntry i p.seg s)
      else waitEntry i p.seg s

/-- R60: the advance of a join, from index `i` on: MARKs are raised and REPEATs evaluated until a PLAY or DWELL entry
or the end is reached. -/
def seek : Nat → Nat → State → Nat × State
  | 0, i, s => (i, s)
  | fuel + 1, i, s =>
    match s.schedule[i]? with
    | some (.mark t) => seek fuel (i + 1) (raiseEvent .mark t.toNat i s)
    | some (.rep j c m) =>
      seek fuel (passRepeat i j c m s.schedule).1 { s with schedule := (passRepeat i j c m s.schedule).2 }
    | _ => (i, s)

/-! ## Going on after an end -/

/-- R53, R59, R60, R153: what the sequencer does next, once no capture close is waited for: a joined successor begins;
in RUNNING the advance is made from SPENT and the entry start from AWAITING. -/
def proceed (s : State) : State :=
  if s.capture.closing then s
  else if s.sequencer.joinPending then
    match s.schedule[s.sequencer.cursor]? with
    | some (.play p) => beginPlay s.sequencer.cursor p true s
    | _ => s
  else if s.run.state = .running then
    match s.sequencer.phase with
    | .spent => advance advanceFuel (s.sequencer.cursor + 1) s
    | .awaiting => advance advanceFuel s.sequencer.cursor s
    | _ => s
  else s

/-- R53: the run enters RUNNING. -/
def enterRunning (s : State) : State := proceed (callReads { s with run.state := .running })

/-- R92, R96, R97: the pause-reason set has become empty. -/
def pauseEmptied (s : State) : State :=
  if pauseEmpty s then
    match s.run.state with
    | .pausing => { s with run.state := .running } |> raiseEvent .runResumed s.sequencer.cursor 1 |> enterRunning
    | .paused => { s with run.state := .running } |> raiseEvent .runResumed s.sequencer.cursor 0 |> enterRunning
    | _ => s
  else s

/-- R136: a SELF_CLEARING source's condition ends. -/
def faultEnd (k : Nat) (s : State) : State :=
  if (source s k).active then
    let s1 := leaveSet k (endSource k s)
    let s2 := if (source s k).cls = .pause then pauseEmptied s1 else s1
    s2 |> formAction |> setFaultLine
  else s

/-- R57, R135: SEGMENT_MISSING, while active, is judged again at a change of segment `id`'s descriptor. -/
def recheckMissing (id : Nat) (s : State) : State :=
  if (source s 35).active ∧ s.sequencer.phase = .awaiting then
    match s.schedule[s.sequencer.cursor]? with
    | some (.play p) => if p.seg = id ∧ startCheck p s then faultEnd 35 s else s
    | _ => s
  else s

/-! ## Entry ends (R59 to R61) -/

/-- R64: the lookahead of an entry that ends is void; its prefetched frames are kept for a successor begun at once. -/
def carryLookahead (s : State) : State :=
  { voidLookahead s with
    sequencer.carried :=
      match s.sequencer.lookahead with
      | some l => l.prefetch
      | none => none }

/-- R52: the entry at the cursor has ended; what follows waits in a phase. While a RUNNING run waits for the capture close
of R153, the phases of R52 name no case; the model shows SPENT, or AWAITING after a join (log entry 43). -/
def leaveEntry (phase : Phase) (s : State) : State :=
  { s with sequencer.phase := phase, sequencer.position := 0, sequencer.entry := none }

/-- R59, R60: a PLAY entry ends normally: its play ends, and the advance follows, or after a failed join check the
entry start at the cursor. -/
def endEntry (p : PlayParams) (s : State) : State :=
  s |> endPlay false false |> leaveEntry (if p.joinFailed then .awaiting else .spent) |> proceed

/-- R60: the join check has passed: the joined entry's play ends, with the swap if one waits, and the successor at `j`, a
PLAY of segment `id`, is in play from then on; it begins once the capture record has closed (R153, log entry 43). -/
def makeJoin (j id : Nat) (s : State) : State :=
  let s1 := leaveEntry .awaiting (endPlay false true s)
  let s2 := setDescriptor id { descriptor s1 id with inPlay := true } s1
  proceed { s2 with sequencer.cursor := j, sequencer.joinPending := true }

/-- R60, R61: the join has failed at index `j`: run-out frames follow, or the entry ends at once at taper counter 0. The
prefetched frames are discarded in both cases (log entry 38). -/
def failJoin (p : PlayParams) (j : Nat) (s : State) : State :=
  let q := { p with joinFailed := true }
  let s1 : State := { s with pipeline.params := some (.play q), sequencer.cursor := j, sequencer.carried := none }
  if s.pipeline.taper = 0 then endEntry q s1 else s1

/-- R60: the join of a BUTTED PLAY whose lookahead says its successor continues. -/
def join (p : PlayParams) (s : State) : State :=
  let r := seek advanceFuel (s.sequencer.cursor + 1) (carryLookahead s)
  match r.2.schedule[r.1]? with
  | some (.play q) => if joinCheck q r.2 then makeJoin r.1 q.seg r.2 else failJoin p r.1 r.2
  | _ => failJoin p r.1 r.2

/-- R59: whether a join is in prospect. -/
def joinInProspect (p : PlayParams) (s : State) : Bool :=
  decide (p.edge = .butted) &&
    match s.sequencer.lookahead with
    | some l => l.continues
    | none => false

/-- R59, R61: the last drive frame of a PLAY has been given. Where run-out frames follow, the frames prefetched for the
successor are discarded with the void lookahead: the model's own reading of R64, which leaves this open (log entry 38). -/
def lastDriveFrame (p : PlayParams) (s : State) : State :=
  if joinInProspect p s then join p s
  else if s.pipeline.taper = 0 then endEntry p (carryLookahead s)
  else voidLookahead s

/-- R59: the last dwell frame of a DWELL has been given. -/
def endDwell (s : State) : State :=
  let s1 := carryLookahead s
  proceed (leaveEntry .spent { s1 with pipeline.params := none })

end Sys2Proof.Machine
end

