-- ==== Sys2Proof/Machine/Arbiter.lean ====
section
/-! DEFINITION. The memory arbiter: what each requestor presents, the grant, and what a completed operation does for
its requestor (01_sample_store_and_memory_arbitration.md, R10 to R20; R30, R39, R64, R151, R156). -/

namespace Sys2Proof.Machine

/-! ## What each requestor presents (R10) -/

/-- R55: the next PLAYBACK read: those due for the play in progress before those of the lookahead's prefetch. -/
def nextPlayback (s : State) : Option MemOp :=
  let f := s.sequencer.fetch
  let play : Option MemOp :=
    match s.pipeline.params with
    | some (.play p) =>
      if f.nextWord < f.dueWord then some (.read (wordOf p.pages f.nextWord) f.nextWord .play) else none
    | _ => none
  play.or
    (match s.sequencer.lookahead with
     | some { successor := _, continues := _, reach := _, prefetch := some q } =>
       if q.nextWord < q.stopWord then some (.read (wordOf q.pages q.nextWord) q.nextWord .prefetch) else none
     | _ => none)

/-- R151: the next word write of the capture frame in hand. -/
def nextCapture (s : State) : Option MemOp := s.capture.ops.head?

/-- R30: the next verification read of the oldest target in the queue. -/
def nextVerify (s : State) : Option MemOp :=
  match s.verifier.queue with
  | [] => none
  | t :: _ =>
    if 4 * s.verifier.nextWord < (targetData t s).size then
      some (.read (wordOf (targetData t s).pages s.verifier.nextWord) s.verifier.nextWord .verify)
    else none

/-- R30: the LINK requestor serves the request in hand first, then verification. -/
def nextLink (s : State) : Option MemOp :=
  match s.link.inHand with
  | some { kind := _, tag := _, job := .segData (op :: _) } => some op
  | some { kind := _, tag := _, job := .captureRead j } =>
    if j.nextWord < j.stopWord then
      match tget s.capture.slots j.id with
      | some r => some (.read (wordOf r.pages j.nextWord) j.nextWord .captureRead)
      | none => nextVerify s
    else nextVerify s
  | _ => nextVerify s

/-- R19: the position of the next scrub, none while the pool holds every page. A position whose page is in the pool
moves on to the next owned page. -/
def scrubPosition (s : State) : Option Sweep :=
  if s.pool.contains s.sweep.page then
    (nextOwned s.pool s.sweep.page).map (fun q => { page := q, word := 0 })
  else some s.sweep

/-- R19: the scrub the scrubber presents. -/
def nextScrub (s : State) : Option MemOp := (scrubPosition s).map (fun p => .scrub p.page p.word)

/-! ## Presenting and granting (R10) -/

/-- Whether a requestor's operation holds the grant. -/
def holdsGrant (r : Requestor) (s : State) : Bool :=
  match s.arbiter.granted with
  | some g => decide (g.requestor = r)
  | none => false

/-- R10: a requestor whose slot is empty and whose previous operation is complete presents its next request. -/
def present (r : Requestor) (slot next : Option MemOp) (s : State) : Option MemOp :=
  if slot.isNone && !holdsGrant r s then next else slot

/-- R10: every requestor that may presents its next request; the sweep stands at the scrub presented. -/
def presentAll (s : State) : State :=
  { s with
    arbiter :=
      { s.arbiter with
        playback := present .playback s.arbiter.playback (nextPlayback s) s
        capture := present .capture s.arbiter.capture (nextCapture s) s
        link := present .link s.arbiter.link (nextLink s) s
        scrub := present .scrub s.arbiter.scrub (nextScrub s) s }
    sweep := (scrubPosition s).getD { page := 0, word := 0 } }

/-- R10: when the store is free, the waiting request of highest priority is granted. -/
def grantNext (s : State) : State :=
  match s.arbiter.granted, s.arbiter.playback, s.arbiter.capture, s.arbiter.link, s.arbiter.scrub with
  | some _, _, _, _, _ => s
  | none, some op, _, _, _ =>
    { s with arbiter.granted := some { requestor := .playback, op := op, live := true }, arbiter.playback := none }
  | none, none, some op, _, _ =>
    { s with arbiter.granted := some { requestor := .capture, op := op, live := true }, arbiter.capture := none }
  | none, none, none, some op, _ =>
    { s with arbiter.granted := some { requestor := .link, op := op, live := true }, arbiter.link := none }
  | none, none, none, none, some op =>
    { s with arbiter.granted := some { requestor := .scrub, op := op, live := true }, arbiter.scrub := none }
  | none, none, none, none, none => s

/-- R10: after a command, the requestors present and the arbiter grants, while the device is up (R8, R9). -/
def settle (s : State) : State := if isUp s then grantNext (presentAll s) else s

/-! ## A completed read, by purpose (R13) -/

/-- R24: the samples of owner word `index` by offset, for the offsets from `lo` up to but not at `hi`. -/
def samplesBetween (index lo hi : Nat) (samples : List Sample) : List (Nat × Sample) :=
  (List.range 4).filterMap (fun k =>
    if lo ≤ 4 * index + k ∧ 4 * index + k < hi then some (4 * index + k, samples.getD k 0) else none)

/-- R39: the offsets of owner word `index` that lie from `lo` up to but not at `hi`. -/
def offsetsBetween (index lo hi : Nat) : List Nat :=
  ((List.range 4).map (fun k => 4 * index + k)).filter (fun o => decide (lo ≤ o) && decide (o < hi))

/-- The sample a play has at an offset (log entry 11 where it has none). -/
def fetchedSample (samples : List (Nat × Sample)) (o : Nat) : Sample :=
  match samples.find? (fun x => x.1 == o) with
  | some x => x.2
  | none => Config.unsuppliedSample o

/-- R39: the substitute for the sample at an offset: the value the play used one drive frame before, 0 at the range's
first frame. -/
def substituteAt (p : PlayParams) (samples : List (Nat × Sample)) (o : Nat) : Nat × Sample :=
  let c := maskCount p.channels
  if o < (p.first + 1) * c then (o, 0) else (o, fetchedSample samples (o - c))

/-- R24: the drive channel of the sample at an offset. -/
def channelOf (channels : BitVec 16) (o : Nat) : Nat := (maskList channels).getD (o % maskCount channels) 0

/-- R39, R40: a read for the play in progress has reported UNCORRECTABLE. -/
def substitute (p : PlayParams) (index : Nat) (s : State) : State :=
  let c := maskCount p.channels
  let offsets := offsetsBetween index (p.first * c) ((p.last + 1) * c)
  let samples := offsets.foldl (fun l o => l ++ [substituteAt p l o]) s.sequencer.fetch.samples
  let s1 : State :=
    { s with sequencer.fetch := { s.sequencer.fetch with samples := samples }
             pipeline.params := some (.play { p with substituted := true }) }
  let s2 := s1 |> addDoubleErrors p.seg offsets.length |> countMemoryErrors (offsets.map (channelOf p.channels))
    |> markDamaged p.seg 2
  if p.substituted then s2 else raise 36 p.seg s2

/-- R55: a read for the play in progress completes. -/
def playRead (index : Nat) (o : ReadOutcome) (samples : List Sample) (s : State) : State :=
  match s.pipeline.params with
  | some (.play p) =>
    let s1 : State := { s with sequencer.fetch := { s.sequencer.fetch with nextWord := index + 1 } }
    if o = .uncorrectable then substitute p index s1
    else
      let c := maskCount p.channels
      { s1 with
        sequencer.fetch :=
          { s1.sequencer.fetch with
            samples := s1.sequencer.fetch.samples ++ samplesBetween index (p.first * c) ((p.last + 1) * c) samples } }
  | _ => s

/-- R64: the standing lookahead's prefetch replaced. -/
def setPrefetch (q : Prefetch) (s : State) : State :=
  match s.sequencer.lookahead with
  | some l => { s with sequencer.lookahead := some { l with prefetch := some q } }
  | none => s

/-- R39, R64: a prefetch read completes. -/
def prefetchRead (index : Nat) (o : ReadOutcome) (samples : List Sample) (s : State) : State :=
  match s.sequencer.lookahead with
  | some { successor := _, continues := _, reach := _, prefetch := some q } =>
    let s1 := setPrefetch { q with nextWord := index + 1 } s
    if o = .uncorrectable then
      if q.fromRepl then dropReplacement q.seg s1
      else s1 |> addDoubleErrors q.seg (offsetsBetween index q.lo q.hi).length |> markDamaged q.seg 3
    else
      setPrefetch
        { q with nextWord := index + 1, samples := q.samples ++ samplesBetween index q.lo (4 * index + 4) samples } s
  | _ => s

/-- R30 to R32: a verification read completes. -/
def verifyRead (o : ReadOutcome) (samples : List Sample) (s : State) : State :=
  match s.verifier.queue with
  | [] => s
  | t :: _ =>
    if o = .uncorrectable then s |> rejectTarget t true |> recheckMissing t.seg
    else
      let d := targetData t s
      let new := samples.take (d.size - s.verifier.entered)
      let crc := crc32Samples s.verifier.crc new
      if d.size ≤ 4 * (s.verifier.nextWord + 1) then
        if crc32Final crc = d.expected then s |> readyTarget t |> recheckMissing t.seg
        else s |> rejectTarget t false |> recheckMissing t.seg
      else
        { s with verifier := { queue := s.verifier.queue, nextWord := s.verifier.nextWord + 1,
                               entered := s.verifier.entered + new.length, crc := crc } }

/-- R156: the reply of a CAPTURE_READ, once its last word is read. -/
def finishCaptureRead (j : CaptureJob) (s : State) : State :=
  if j.nextWord < j.stopWord then setJob (.captureRead j) s
  else s |> setJob .answered |> answer .ok (.captureValues j.id j.offset j.count j.bad j.values)

/-- R13, R156: a read of a CAPTURE_READ completes. -/
def captureReadDone (index : Nat) (o : ReadOutcome) (samples : List Sample) (s : State) : State :=
  match s.link.inHand with
  | some { kind := _, tag := _, job := .captureRead j } =>
    let bad := decide (o = .uncorrectable)
    let got := (samplesBetween index j.offset (j.offset + j.count)
      (if bad then [0, 0, 0, 0] else samples)).map Prod.snd
    let s1 := if bad then reportCapture j.id 3 s else s
    finishCaptureRead { j with nextWord := index + 1, values := j.values ++ got, bad := if bad then j.bad + 1 else j.bad } s1
  | _ => s

/-- R13: a completed read's outcome and samples go to the requestor. -/
def deliverRead (index : Nat) (purpose : ReadPurpose) (o : ReadOutcome) (samples : List Sample) (s : State) : State :=
  match purpose with
  | .play => playRead index o samples s
  | .prefetch => prefetchRead index o samples s
  | .verify => verifyRead o samples s
  | .captureRead => captureReadDone index o samples s

/-! ## A completed write (R15, R16, R151) -/

/-- R151, R153, R154: a word write of the capture frame in hand completes, abandoned when `lost`. After the last, the
frame counts, and a close that waited for it is made, with what follows it. -/
def captureWritten (lost : Bool) (s : State) : State :=
  match s.capture.ops with
  | [] => s
  | _ :: rest =>
    let s1 : State := { s with capture.ops := rest }
    let s2 :=
      match lost, s1.capture.writing with
      | true, some i => reportCapture i 2 s1
      | _, _ => s1
    if rest.isEmpty then
      let s3 := countFrame s2
      if s3.capture.closing then proceed (closeRecord false s3) else s3
    else s2

/-- R16, R28: a word write of the SEG_DATA in hand completes, abandoned when `lost`; the reply follows the last, or the
first that is abandoned. -/
def segDataWritten (lost : Bool) (s : State) : State :=
  match s.link.inHand with
  | some { kind := _, tag := _, job := .segData (_ :: rest) } =>
    if lost then s |> setJob .answered |> answer .memoryError .empty
    else if rest.isEmpty then s |> setJob .answered |> answer .ok .empty
    else setJob (.segData rest) s
  | _ => s

/-- R15, R16: a completed write's report goes to the requestor. -/
def deliverWrite (r : Requestor) (lost : Bool) (s : State) : State :=
  match r with
  | .capture => captureWritten lost s
  | .link => segDataWritten lost s
  | .playback | .scrub => s

/-! ## A completed scrub (R18 to R20) -/

/-- R20: whose a page is. -/
inductive Owner where
  | segment (id : Nat)
  | replacement (id : Nat)
  | capture (i : Nat)
deriving DecidableEq, Repr, Inhabited

/-- Whether segment `id`'s replacement owns the page. -/
def replOwns (s : State) (page id : Nat) : Bool :=
  match (descriptor s id).repl with
  | some r => r.data.pages.contains page
  | none => false

/-- Whether capture record `i` owns the page. -/
def slotOwns (s : State) (page i : Nat) : Bool :=
  match slot s i with
  | some r => r.pages.contains page
  | none => false

/-- R6: the owner of a page, none while it is in the pool. -/
def ownerOf (s : State) (page : Nat) : Option Owner :=
  (((List.range 64).find? (fun id => (descriptor s id).data.pages.contains page)).map .segment).or <|
  (((List.range 64).find? (replOwns s page)).map .replacement).or <|
  ((List.range 32).find? (slotOwns s page)).map .capture

/-- R20: the scrubber's report of a page reaches its owner. -/
def reportPage (page : Nat) (s : State) : State :=
  match ownerOf s page with
  | some (.segment id) => markDamaged id 1 s
  | some (.replacement id) => dropReplacement id s
  | some (.capture i) => reportCapture i 1 s
  | none => s

/-- R19: the sweep moves past the word scrubbed, if it still stands there. -/
def moveSweep (page word : Nat) (s : State) : State :=
  if s.sweep = { page := page, word := word } then
    { s with sweep := if word + 1 < Config.pageWords then { page := page, word := word + 1 }
                      else sweepAfter s.pool page }
  else s

/-! ## Completion -/

/-- The grant is given back. -/
def release (s : State) : State := { s with arbiter.granted := none }

/-- R13: the granted read completes. -/
def completeRead (g : Grant) (word index : Nat) (purpose : ReadPurpose) (found : ReadOutcome) (s : State) : State :=
  let r := storeRead word found s.store
  let s1 := release { s with store := r.2 }
  if g.live then deliverRead index purpose r.1 (wordSamples s.store word) s1 else s1

/-- R14, R15: the granted write completes, a whole-word write when its four samples cover the word. -/
def completeWrite (g : Grant) (word : Nat) (lanes : List (Nat × Sample)) (found : ReadOutcome) (s : State) : State :=
  if isWhole lanes then
    deliverWrite g.requestor false (release { s with store := storeWriteWhole word lanes s.store })
  else
    let r := storeWritePart word lanes found s.store
    deliverWrite g.requestor (decide (r.1 = .uncorrectable)) (release { s with store := r.2 })

/-- R18: the granted scrub completes. -/
def completeScrub (page word : Nat) (found : ReadOutcome) (s : State) : State :=
  let r := storeScrub (page * Config.pageWords + word) found s.store
  let s1 := moveSweep page word (release { s with store := r.2 })
  if r.1 = .uncorrectable then reportPage page s1 else s1

/-- The granted operation completes, its check code finding `found`. -/
def completeGranted (found : ReadOutcome) (s : State) : State :=
  match s.arbiter.granted with
  | none => s
  | some g =>
    match g.op with
    | .read w i q => completeRead g w i q found s
    | .write w lanes => completeWrite g w lanes found s
    | .scrub p w => completeScrub p w found s

/-! ## What must complete before a frame boundary (R12) -/

/-- R12, R151: whether a PLAYBACK read for the play in progress or a write of a capture frame is still to complete. -/
def owesBoundary (s : State) : Bool :=
  !s.capture.ops.isEmpty ||
    match s.pipeline.params with
    | some (.play _) => decide (s.sequencer.fetch.nextWord < s.sequencer.fetch.dueWord)
    | _ => false

/-- R12: before a boundary the operations it needs complete, in the arbiter's order, each finding no new disturbance
(log entry 4). `fuel` bounds their number. -/
def drain : Nat → State → State
  | 0, s => s
  | fuel + 1, s => if owesBoundary s then drain fuel (settle (completeGranted .clean (settle s))) else s

/-- More operations than a boundary can wait for: one in progress, the reads of two drive frames and a prefetch for a
play and for its successor, and the writes of one capture frame. -/
def drainFuel : Nat := 256

end Sys2Proof.Machine
end

