-- ==== Sys2Proof/Machine/Capture.lean ====
section
/-! DEFINITION. The meanings of CAPTURE_LIST, CAPTURE_READ, CAPTURE_FREE and SUMMARY_READ (R155 to R157, R162). -/

namespace Sys2Proof.Machine

/-- R155: a capture record as CAPTURE_LIST reports it. -/
def captureInfo (r : CaptureRecord) : CaptureInfo :=
  { state := r.state, endedEarly := r.endedEarly, damaged := r.damaged, entry := r.entry, ordinal := r.ordinal,
    seg := r.seg, channels := r.channels, channelCount := r.count, frames := r.frames, pageCount := r.pages.length }

/-- R155: the body of a CAPTURE_LIST reply. -/
def captureListBody (s : State) : ReplyBody :=
  .captures (s.capture.slots.toList.map (fun o => o.map captureInfo))
    (s.capture.slots.toList.filter (fun o => o.isNone)).length

/-- CAPTURE_LIST (R155). -/
def execCaptureList (tag : Byte) (body : List Byte) (s : State) : Result :=
  .next (onRequest 0x60 tag body (withLength 0 body (fun s => answer .ok (captureListBody s) s)) s)

/-- R156: a CAPTURE_READ whose length passes: its words are read through the arbiter. -/
def captureReadEffect (id offset count : Nat) (s : State) : State :=
  if 31 < id ∨ count < 1 ∨ 512 < count then answer .badValue .empty s
  else
    match slot s id with
    | none => answer .notFound .empty s
    | some r =>
      if r.frames * r.count < offset + count then answer .badValue .empty s
      else
        setJob (.captureRead
          { id := id, offset := offset, count := count, nextWord := offset / 4, stopWord := stopOf (offset + count),
            values := [], bad := 0 }) s

/-- CAPTURE_READ (R156). -/
def execCaptureRead (tag : Byte) (body : List Byte) (s : State) : Result :=
  .next (settle (onRequest 0x61 tag body (withLength 7 body
    (captureReadEffect (byteAt body 0).toNat (le32At body 1).toNat (le16At body 5).toNat)) s))

/-- R11: the writes of a capture frame still in hand for the record in slot `i` are withdrawn. -/
def withdrawWrites (i : Nat) (s : State) : State :=
  if s.capture.writing = some i then
    { s with capture.ops := [], capture.writing := none, arbiter.capture := none }
  else s

/-- R157, R152: the record leaves its slot; the capture unit then holds no record for a play still in progress. -/
def freeRecord (i : Nat) (r : CaptureRecord) (s : State) : State :=
  let s1 := s |> withdrawWrites i |> setSlot i none |> releasePages r.pages
  if s1.capture.current = some i then { s1 with capture.current := none } else s1

/-- R157: a CAPTURE_FREE whose length passes. -/
def captureFreeEffect (id : Nat) (s : State) : State :=
  if 31 < id then answer .badValue .empty s
  else
    match slot s id with
    | none => answer .notFound .empty s
    | some r =>
      if r.state = .filling then answer .inUse .empty s else s |> freeRecord id r |> answer .ok .empty

/-- CAPTURE_FREE (R157). -/
def execCaptureFree (tag : Byte) (body : List Byte) (s : State) : Result :=
  .next (settle (onRequest 0x62 tag body (withLength 1 body (captureFreeEffect (byteAt body 0).toNat)) s))

/-- R162: a SUMMARY_READ whose length passes. -/
def summaryReadEffect (s : State) : State :=
  match s.summaries.queue with
  | [] => answer .notFound .empty s
  | m :: rest => answer .ok (.summary (summaryBytes m)) { s with summaries.queue := rest }

/-- SUMMARY_READ (R162). -/
def execSummaryRead (tag : Byte) (body : List Byte) (s : State) : Result :=
  .next (onRequest 0x63 tag body (withLength 0 body summaryReadEffect) s)

end Sys2Proof.Machine
end

