-- ==== Sys2Proof/Machine/ResetOps.lean ====
section
/-! DEFINITION. What a reset leaves of each block, and the configuration store's modes
(09_start_up_and_configuration.md, R165 to R182; R9, R21, R41, R66, R67, R88, R125, R147, R163, R164, R183, R186,
R199). -/

namespace Sys2Proof.Machine

/-! ## Resets -/

/-- R41: a descriptor after a warm reset. -/
def warmDescriptor (d : Descriptor) : Descriptor :=
  match d.state with
  | .empty | .loading | .verifying => .blank
  | .ready | .damaged =>
    match d.repl with
    | none => { d with inPlay := false }
    | some r =>
      if r.state = .ready then
        { state := .ready, data := r.data, doubleErrors := 0, inPlay := false, repl := none }
      else { d with inPlay := false, repl := none }

/-- R153, R163: capture record `i` after a warm reset; `current` is the record of the play that the reset ends. -/
def warmRecord (current : Option Nat) (i : Nat) (o : Option CaptureRecord) : Option CaptureRecord :=
  match o with
  | none => none
  | some r =>
    match r.state with
    | .filling => some { r with state := .truncated, endedEarly := true }
    | .truncated => some { r with endedEarly := r.endedEarly || decide (current = some i) }
    | .complete => some r

/-- R6: the pages of a descriptor and of its replacement. -/
def descriptorPages (d : Descriptor) : List Nat :=
  d.data.pages ++ (match d.repl with
    | some r => r.data.pages
    | none => [])

/-- R6: the pages in some owner's page list. -/
def ownedPages (segments : Vector Descriptor 64) (slots : Vector (Option CaptureRecord) 32) : List Nat :=
  segments.toList.flatMap descriptorPages ++
    slots.toList.flatMap (fun o => match o with
      | some r => r.pages
      | none => [])

/-- R9: the pool rebuilt from the surviving owners' page lists. -/
def rebuiltPool (segments : Vector Descriptor 64) (slots : Vector (Option CaptureRecord) 32) : List Nat :=
  (List.range Config.storePages).filter (fun p => !(ownedPages segments slots).contains p)

/-- R182: a save that a reset or the supply's loss cuts short leaves the stored image INVALID (log entry 10). -/
def cutSave (s : State) : State :=
  match s.config.save with
  | none => s
  | some _ =>
    { s with config.stored := { bytes := Config.cutShortImage s.freeTick, crc := none, valid := false },
             config.save := none, freeTick := s.freeTick + 1 }

/-- What every reset, power-on or warm, leaves in the blocks that keep nothing: R66, R67, R88, R125, R126, R147, R164,
R183, R186, R194, R199, and the configuration store until start-up ends (R166, R167). -/
def resetVolatile (s : State) : State :=
  { s with
    timebase := { rate := 0, nextRate := 0, counter := 0 }
    arbiter := .free
    sweep := { page := 0, word := 0 }
    verifier := .idle
    schedule := []
    sequencer := .atReset
    pipeline := .atReset
    run := .atReset
    rig := .atReset
    monitors := tmk 32 Monitor.atReset
    faults := .atReset
    summaries := .atReset
    config.mode := .idle
    config.timer := none
    config.active := none
    permit := { raw := s.permit.raw, filtered := .low, timer := decide (s.permit.raw = .high) }
    supervisor := .atReset
    link := .atReset
    events := .atReset }

/-- R9, R41, R163: what a warm reset leaves of the store, the segments, the captures and the pool. -/
def warmStorage (s : State) : State :=
  let segments := tmap (fun _ d => warmDescriptor d) s.segments
  let slots := tmap (warmRecord s.capture.current) s.capture.slots
  { s with
    store := completeInStore s
    segments := segments
    capture := { slots := slots, current := none, ops := [], writing := none, closing := false }
    pool := rebuiltPool segments slots }

/-- R8, R41, R163: what a power-on reset leaves of the store, the segments, the captures and the pool. -/
def powerOnStorage (s : State) : State :=
  { s with store := .cleared, segments := Vector.replicate 64 .blank, capture := .atPowerOn, pool := List.range 512 }

/-- R165: a warm reset with its cause. A power-on start-up it cuts begins again as such, its cause still POWER. -/
def warmReset (cause : ResetCause) (s : State) : State :=
  match s.life with
  | .startUp .powerOn | .held .powerOn => resetVolatile (powerOnStorage (cutSave s))
  | _ => { resetVolatile (warmStorage (cutSave s)) with cause := cause }

/-- R165: the kind of the start-up that a reset begun in this state of life begins. -/
def resetKind (l : Life) : ResetKind :=
  match l with
  | .startUp .powerOn | .held .powerOn => .powerOn
  | _ => .warm

/-- R165: the supply falls: the device stops and PRESSURE_REQ drops; a save is cut short (R182). Nothing volatile acts
any more, which the model shows as its reset state (log entry 16). -/
def loseSupply (s : State) : State :=
  { resetVolatile (cutSave s) with
    life := .off
    permit := { raw := s.permit.raw, filtered := .low, timer := false } }

/-- R180: the state of the stored image, judged afresh. -/
def judgeStored (m : StoredImage) : StoredImage := { m with valid := decide (m.crc = some (crc16 m.bytes)) }

/-- R167: the configuration store at the end of a start-up. -/
def startConfig (c : ConfigStore) : ConfigStore :=
  let m := judgeStored c.stored
  { mode := .idle, timer := none, pending := if m.valid then imageOfBytes m.bytes else factoryImage, active := none,
    origin := if m.valid then .stored else .factory, stored := m, save := none }

/-! ## Configuration requests -/

/-- R169, R170: the time left on a running configuration timer is what it was or less (log entry 9). -/
def ageTimer (s : State) : State :=
  match s.config.timer with
  | none => s
  | some r =>
    { s with config.timer := some (min r (Config.configTimerLeft s.freeTick)), freeTick := s.freeTick + 1 }

/-- R169: the reply of a configuration request. -/
def configReply (status : Status) (extra : ConfigExtra) (s : State) : State :=
  answer status (.config (configBlock s) extra) s

/-- R169, R171: a configuration request: LOCKED comes before every other check. -/
def onConfig (effect : State → State) (s : State) : State :=
  let s1 := ageTimer s
  if s1.config.mode = .locked then configReply .locked .nothing s1 else effect s1

/-- R169: the device comes to CONFIG and the timer starts. -/
def enterConfig (s : State) : State := { s with config.mode := .config, config.timer := some Config.configMs }

/-- R173: one record of the pending image is replaced. -/
def writeRecord (sel : Selector) (b : List Byte) (s : State) : State :=
  { s with config.pending := replaceRecord s.config.pending b 2 sel }

/-- R174, R88, R67, R186: the device leaves ACTIVE for CONFIG. -/
def leaveActive (s : State) : State :=
  let s1 : State :=
    { s with
      config.pending := s.config.active.getD s.config.pending
      config.active := none
      pipeline := .atReset
      run := { RunControl.atReset with sources := s.run.sources }
      supervisor := .atReset }
  enterConfig s1

/-- R133, R137: the class an image gives fault source `k`. -/
def imageClass (g : Image) (k : Nat) : FaultClass :=
  if k < 32 then classOfByte (tget g.monitors k).cls
  else if k = 32 then classOfByte g.classes.servo
  else if k = 33 then classOfByte g.classes.rigLink
  else if k = 34 then classOfByte g.classes.heartbeat
  else if k = 35 then classOfByte g.classes.segmentMissing
  else if k = 36 then classOfByte g.classes.memory
  else .trip

/-- R133: the latching an image and the fixed table give fault source `k`. -/
def imageLatched (g : Image) (k : Nat) : Bool :=
  if k < 32 then decide ((tget g.monitors k).latching = 1) else decide (k ≠ 35)

/-- R137: the fault table takes the classes and latchings of a new image. -/
def reclassify (g : Image) (e : Vector FaultEntry 38) : Vector FaultEntry 38 :=
  tmap (fun k x => { x with cls := imageClass g k, latched := imageLatched g k }) e

/-- R137, R139: the active sources whose class is PAUSE. -/
def pauseSources (e : Vector FaultEntry 38) : List Nat :=
  (List.range 38).filter (fun k => (tget e k).active && decide ((tget e k).cls = .pause))

/-- R178, R137, R126, R88, R186: a good commit makes the device ACTIVE, the blocks taking the new image in order. -/
def enterActive (s : State) : State :=
  let g := s.config.pending
  let e := reclassify g s.faults.entries
  let on := decide (g.general.heartbeatEnable = 1)
  let s1 : State :=
    { s with
      config.active := some g
      config.mode := .active
      config.timer := none
      timebase.nextRate := g.general.rate
      rig.window := s.rig.window.map (fun w => { w with inStay := false })
      faults.entries := e
      monitors := tmap (fun k m => { m with record := tget g.monitors k, outside := 0, inside := 0 }) s.monitors
      run := { RunControl.atReset with sources := pauseSources e }
      supervisor := { running := on, windowOpen := on && decide (g.general.windowCode = 0), loop := 0 } }
  s1 |> setAction |> handAction (effectiveAction e) |> setFaultLine

/-- R184: PERMIT is raised at the entry to ACTIVE while the filtered level is LOW. -/
def permitAtEntry (s : State) : State := if s.permit.filtered = .low then raise 37 0 s else s

end Sys2Proof.Machine
end

