-- ==== Sys2Proof/Machine/Configuration.lean ====
section
/-! DEFINITION. The meanings of CONFIG_WRITE, CONFIG_READ, CONFIG_COMMIT and CONFIG_SAVE (R171 to R181). -/

namespace Sys2Proof.Machine

/-- R172: a CONFIG_WRITE body is 2 bytes and the record its selector names. -/
def configWriteFits (body : List Byte) : Bool :=
  match recordLength (byteAt body 0) with
  | some n => decide (body.length = 2 + n)
  | none => false

/-- R173, R174: a CONFIG_WRITE that names a record, by the device mode. -/
def configWriteEffect (sel : Selector) (body : List Byte) (s : State) : State :=
  match s.config.mode with
  | .idle => s |> enterConfig |> writeRecord sel body |> configReply .ok .nothing
  | .config | .locked => s |> writeRecord sel body |> configReply .ok .nothing
  | .active =>
    if s.run.state ≠ .stopped ∨ s.run.pressure = .high then configReply .wrongState .nothing s
    else s |> leaveActive |> writeRecord sel body |> configReply .ok .nothing

/-- CONFIG_WRITE (R172 to R174). -/
def execConfigWrite (tag : Byte) (body : List Byte) (s : State) : Result :=
  .next (onRequest 0x10 tag body (onConfig (fun s =>
    if !configWriteFits body then configReply .badLength .nothing s
    else
      match selectorOf (byteAt body 0) (byteAt body 1) with
      | none => configReply .badValue .nothing s
      | some sel => configWriteEffect sel body s)) s)

/-- R175, R179: a CONFIG_READ that names a record; it is returned after its selector byte and its index byte. -/
def configReadEffect (sel : Selector) (body : List Byte) (s : State) : State :=
  let record (g : Image) : ConfigExtra := .record (body.take 2 ++ recordBytes g sel)
  if byteAt body 2 = 0 then configReply .ok (record s.config.pending) s
  else if byteAt body 2 = 1 then
    match s.config.active with
    | some g => configReply .ok (record g) s
    | none => configReply .notFound .nothing s
  else configReply .badValue .nothing s

/-- CONFIG_READ (R172, R175). -/
def execConfigRead (tag : Byte) (body : List Byte) (s : State) : Result :=
  .next (onRequest 0x11 tag body (onConfig (fun s =>
    if body.length ≠ 3 then configReply .badLength .nothing s
    else
      match selectorOf (byteAt body 0) (byteAt body 1) with
      | none => configReply .badValue .nothing s
      | some sel => configReadEffect sel body s)) s)

/-- R176, R177, R178: a commit taken in CONFIG. -/
def commitEffect (crc : BitVec 16) (s : State) : State :=
  let own := crc16 (imageBytes s.config.pending)
  if own ≠ crc then configReply .badChecksum (.crc own) s
  else
    match commitFailure s.config.pending with
    | some f => configReply .badValue (.field f) s
    | none => s |> enterActive |> configReply .ok .nothing |> permitAtEntry

/-- CONFIG_COMMIT (R172, R176 to R178). -/
def execConfigCommit (tag : Byte) (body : List Byte) (s : State) : Result :=
  .next (onRequest 0x12 tag body (onConfig (fun s =>
    if body.length ≠ 2 then configReply .badLength .nothing s
    else
      match s.config.mode with
      | .active => configReply .wrongState .nothing s
      | .idle => commitEffect (le16At body 0) (enterConfig s)
      | .config | .locked => commitEffect (le16At body 0) s)) s)

/-- R181: a save begins. -/
def beginSave (g : Image) (s : State) : State :=
  { s with config.save := some (imageBytes g), config.stored := { s.config.stored with crc := none, valid := false } }
    |> configReply .accepted (.crc (crc16 (imageBytes g)))

/-- CONFIG_SAVE (R172, R181). -/
def execConfigSave (tag : Byte) (body : List Byte) (s : State) : Result :=
  .next (onRequest 0x13 tag body (onConfig (fun s =>
    if body.length ≠ 0 then configReply .badLength .nothing s
    else
      match s.config.mode, s.config.active with
      | .active, some g => if s.config.save.isSome then configReply .busy .nothing s else beginSave g s
      | _, _ => configReply .wrongState .nothing s)) s)

end Sys2Proof.Machine
end

