-- ==== Sys2Proof/Machine/MonitorOps.lean ====
section
/-! DEFINITION. The monitor bank, the rig link's judgments and the heartbeat's errors
(07_limit_monitors_and_fault_handling.md, R126 to R132; 06_the_rig_link.md, R118 to R122; R190). -/

namespace Sys2Proof.Machine

/-- R126: a monitor's window contains a value. -/
def inside (r : MonitorRec) (v : Sample) : Bool := decide (r.low.toInt ≤ v.toInt) && decide (v.toInt ≤ r.high.toInt)

/-- R128: a count rises by one, stopping at F. -/
def countTo (f c : Byte) : Byte := if c.toNat < f.toNat then c + 1 else f

/-- R128: an evaluating monitor counts a value. -/
def countValue (v : Sample) (m : Monitor) : Monitor :=
  if inside m.record v then { m with inside := countTo m.record.filter m.inside, outside := 0 }
  else { m with outside := countTo m.record.filter m.outside, inside := 0 }

/-- What a monitor does after counting (R129, R130). -/
inductive Verdict where
  | none
  | trips
  | untrips
deriving DecidableEq, Repr, Inhabited

/-- R129, R130: the verdict on a monitor that has counted; a trip is judged before an untrip, and a monitor that trips
has inside count 0. -/
def verdict (latched : Bool) (m : Monitor) : Verdict :=
  if !m.tripped then (if m.outside = m.record.filter then .trips else .none)
  else if !latched && decide (m.inside = m.record.filter) then .untrips
  else .none

/-- R129: monitor `k` trips and raises its source with its feedback channel as subject. -/
def tripMonitor (k : Nat) (s : State) : State :=
  let m := tget s.monitors k
  raise k m.record.feedback.toNat { s with monitors := tset s.monitors k { m with tripped := true } }

/-- R129, R130: one monitor's verdict is carried out. -/
def applyVerdict (k : Nat) (v : Verdict) (s : State) : State :=
  match v with
  | .none => s
  | .trips => tripMonitor k s
  | .untrips => faultEnd k s

/-- R128: one delivery of feedback: every monitor that evaluates counts its value, and then, in ascending order, the
monitors that counted trip or untrip (log entry 15). -/
def deliver (s : State) : State :=
  let counted : Vector Monitor 32 :=
    tmap (fun _ m => if evaluates s m then countValue (tget s.rig.feedback m.record.feedback.toNat) m else m) s.monitors
  let verdicts : List Verdict := (List.range 32).map (fun k =>
    if evaluates s (tget s.monitors k) then verdict (source s k).latched (tget counted k) else .none)
  (List.range 32).foldl (fun t k => applyVerdict k (verdicts.getD k .none) t) { s with monitors := counted }

/-- R122: the servo-ready check. -/
def servoCheck (s : State) : State :=
  if isActive s ∧ s.run.pressure = .high ∧ s.run.grace = .elapsed then
    match (enabledChannels s).find? (fun c => !s.rig.ready.getLsbD c) with
    | some c => raise 32 c s
    | none => s
  else s

/-- R121, R124, R178: the RIG_LINK check at the miss of a window. Whether it is made for the window that was open at the
commit is left open (log entry 44). -/
def rigLinkCheck (w : Window) (s : State) : State :=
  if isActive s ∧ (general s).missLimit.toNat ≤ s.rig.misses.toNat ∧
      (w.inStay = true ∨ Config.commitWindowChecked = true) then raise 33 w.frame.toNat s
  else s

/-- R120: the miss of a window. -/
def takeMiss (w : Window) (s : State) : State :=
  { s with rig.misses := satInc s.rig.misses } |> deliver |> rigLinkCheck w

/-- R119: the feedback values of a response. -/
def responseFeedback (b : List Byte) : Vector Sample 32 := tmk 32 (fun c => le16At b (4 + 2 * c))

/-- R119: whether the 70 bytes of a window are a good response. -/
def goodResponse (w : Window) : Bool :=
  !w.corrupt && decide (crc16 (w.bytes.take 68) = le16At w.bytes 68) && decide (le16At w.bytes 0 = w.frame)

/-- R119: a good response acts, in the rule's order. -/
def takeResponse (b : List Byte) (s : State) : State :=
  { s with rig.feedback := responseFeedback b, rig.ready := le16At b 2, rig.misses := 0 } |> deliver |> servoCheck

/-- R118: whether the byte at place `lowStop`, whose stop bit was found low, is one of the first `n` bytes. -/
def lowWithin (lowStop : Option Nat) (n : Nat) : Bool :=
  match lowStop with
  | some i => decide (i < n)
  | none => false

/-- R118, R119: bytes are taken into the open window; at its 70th byte the response is judged. Bytes after the 70th
are discarded, low stop bits among them included. -/
def takeBytes (bytes : List Byte) (lowStop : Option Nat) (s : State) : State :=
  match s.rig.window with
  | none => s
  | some w =>
    if 70 ≤ w.bytes.length then s
    else
      let low := lowWithin lowStop (min bytes.length (70 - w.bytes.length))
      let v : Window := { w with bytes := (w.bytes ++ bytes).take 70, corrupt := w.corrupt || low }
      if v.bytes.length = 70 ∧ goodResponse v then
        takeResponse v.bytes { s with rig.window := some { v with good := true } }
      else { s with rig.window := some v }

/-! ## The heartbeat supervisor (R186 to R190) -/

/-- R187: a new period begins; with window-open code 0 its window is open from the start. -/
def beginPeriod (s : State) : State := { s with supervisor.windowOpen := decide ((general s).windowCode = 0) }

/-- R190: an error of the supervisor. -/
def heartbeatError (s : State) : State :=
  let limit := (general s).loopLimit.toNat
  let n := if s.supervisor.loop < limit then s.supervisor.loop + 1 else s.supervisor.loop
  let s1 : State := { s with supervisor.loop := n }
  if n = limit then raise 34 n s1 else s1

end Sys2Proof.Machine
end

