-- ==== Sys2Proof/Machine/PipelineOps.lean ====
section
/-! DEFINITION. The setpoint pipeline: the frame kinds, the taper counter and the stages from drive sample to setpoint
(04_setpoint_generation.md, R68 to R86). -/

namespace Sys2Proof.Machine

/-- R69: what a frame is, for every enabled channel. -/
inductive FrameKind where
  | held
  | mean
  | play
  | runOut
  | dwell
  | stopTaper
  | park
deriving DecidableEq, Repr, Inhabited

/-- R69: the frame kind that the run state and the sequencer's phase select. In RUNNING and PAUSING an entry is in
force at every boundary. -/
def frameKind (s : State) : FrameKind :=
  match s.run.state with
  | .stopped | .frozen => .held
  | .starting | .paused | .holding => .mean
  | .running | .pausing =>
    match s.pipeline.params with
    | some (.play p) => if s.sequencer.position < p.length then .play else .runOut
    | some (.dwell _) => .dwell
    | none => .mean
  | .parking | .unloading => if s.pipeline.stopTaper then .stopTaper else .park

/-- R71: whether a frame is a play frame; run-out frames are. -/
def isPlayFrame (k : FrameKind) : Bool := decide (k = .play) || decide (k = .runOut)

/-! ## The taper counter (R80 to R85) -/

/-- R80: the two steps of the rising rule; `horizon` none is unlimited. -/
def risingTaper (previous nt : Nat) (horizon : Option Nat) : Nat :=
  let least :=
    match horizon with
    | none => min (previous + 1) nt
    | some h => min (min (previous + 1) nt) h
  max least (previous - 1)

/-- R80, R81: the horizon of the play frame at a drive position. -/
def horizonOf (p : PlayParams) (s : State) : Option Nat :=
  if p.edge = .butted ∧ s.pipeline.continuation then none else some (p.length - 1 - s.sequencer.position)

/-- R80 to R84: the taper counter of the frame now formed. -/
def frameTaper (k : FrameKind) (s : State) : Nat :=
  match k with
  | .play =>
    if s.run.state = .pausing then s.pipeline.taper - 1
    else
      match s.pipeline.params with
      | some (.play p) =>
        if s.sequencer.position = 0 ∧ p.byJoin = false then s.pipeline.taper
        else risingTaper s.pipeline.taper (general s).nt.toNat (horizonOf p s)
      | _ => s.pipeline.taper
  | .runOut | .stopTaper => s.pipeline.taper - 1
  | .held | .mean | .dwell | .park => s.pipeline.taper

/-! ## The stages (R72 to R78) -/

/-- R73: interpolation at sub-step `k` of ratio `l`. -/
def interpolate (s0 s1 : Int) (k l : Nat) : Int := s0 + ((s1 - s0) * (k : Int) + ((l / 2 : Nat) : Int)) / (l : Int)

/-- R74: the gain stage. -/
def gainStage (v : Int) (g : BitVec 16) : Int := (v * (g.toNat : Int) + 8192) / 16384

/-- R75: the taper factor. -/
def taperFactor (i nt : Nat) : Nat := 1024 * i / nt

/-- R75: the taper stage. -/
def taperStage (u : Int) (t : Nat) : Int := (u * (t : Int) + 512) / 1024

/-- R77: the clamp stage. -/
def clampStage (r : ChannelRec) (x : Int) : Int :=
  if r.hi.toInt < x then r.hi.toInt else if x < r.lo.toInt then r.lo.toInt else x

/-- R78: the slew stage. -/
def slewStage (r : ChannelRec) (previous x : Int) : Int :=
  let limit : Int := r.slew.toNat
  if x - previous > limit then previous + limit
  else if x - previous < -limit then previous - limit
  else x

/-- R69, R79: a played channel of the play in progress. -/
def isPlayed (s : State) (p : PlayParams) (c : Nat) : Bool := p.channels.getLsbD c && !s.run.holdOut.contains c

/-- R72: the drive sample of channel `c` in drive frame `n`. -/
def driveSample (s : State) (p : PlayParams) (n c : Nat) : Int :=
  (fetchedSample s.sequencer.fetch.samples (n * maskCount p.channels + maskRank p.channels c)).toInt

/-- R72, R73: the interpolated value of a played channel on a play frame or, with the final sample, a run-out frame. -/
def playedValue (s : State) (p : PlayParams) (k : FrameKind) (c : Nat) : Int :=
  if k = .runOut then interpolate (driveSample s p p.last c) (driveSample s p p.last c) 0 p.ratio
  else
    let n := p.first + s.sequencer.position / p.ratio
    interpolate (driveSample s p n c) (driveSample s p (if n = p.last then n else n + 1) c)
      (s.sequencer.position % p.ratio) p.ratio

/-- R74, R79: the gain-stage result of channel `c` on a play frame, 0 for a channel not played. -/
def gainResult (s : State) (k : FrameKind) (c : Nat) : Int :=
  match s.pipeline.params with
  | some (.play p) => if isPlayed s p c then gainStage (playedValue s p k c) p.gain else 0
  | _ => 0

/-- R69, R76, R84: the target of channel `c` before the clamp, at taper counter `i`. -/
def targetOf (s : State) (k : FrameKind) (i c : Nat) : Int :=
  let r := channelRec s c
  match k with
  | .play | .runOut => r.mean.toInt + taperStage (gainResult s k c) (taperFactor i (general s).nt.toNat)
  | .stopTaper =>
    r.mean.toInt + taperStage (tget s.pipeline.channels c).held (taperFactor i (general s).nt.toNat)
  | .mean | .dwell => r.mean.toInt
  | .park | .held => r.park.toInt

/-- R86: a count that rises by one when `b`. -/
def countIf (b : Bool) (n : BitVec 32) : BitVec 32 := if b then satInc n else n

/-- R68, R70, R74, R77, R78, R86: channel `c` after the frame now formed. A channel not enabled has no state (R67). -/
def formChannel (s : State) (k : FrameKind) (i c : Nat) (ch : DriveChannel) : DriveChannel :=
  if !enabled s c then ch
  else
    let r := channelRec s c
    match ch.previous with
    | none => { ch with previous := some r.park.toInt }
    | some y =>
      if k = .held then ch
      else
        let x := targetOf s k i c
        let z := clampStage r x
        let next := slewStage r y z
        if isPlayFrame k then
          { previous := some next
            clampCount := countIf (decide (z ≠ x)) ch.clampCount
            slewCount := countIf (decide (next ≠ z)) ch.slewCount
            held := gainResult s k c }
        else { ch with previous := some next }

/-- R68: the pipeline forms the frame: every channel's setpoint and the counter. The stop-taper flag clears after the
stop-taper frame whose counter is 0 (R84). -/
def formFrame (s : State) : State :=
  let k := frameKind s
  let i := frameTaper k s
  { s with
    pipeline.channels := tmap (formChannel s k i) s.pipeline.channels
    pipeline.taper := i
    pipeline.stopTaper := s.pipeline.stopTaper && !(decide (k = .stopTaper) && decide (i = 0)) }

/-- R71: whether every enabled channel's setpoint equals the value `f` gives for its record. -/
def allAt (f : ChannelRec → Sample) (s : State) : Bool :=
  (enabledChannels s).all (fun c => (tget s.pipeline.channels c).previous == some (f (channelRec s c)).toInt)

end Sys2Proof.Machine
end

