-- ==== Sys2Proof/Machine/FrameOps.lean ====
section
/-! DEFINITION. What a frame boundary does after the setpoints are formed: the setpoint frame, the status snapshot, the
reports to the sequencer, the capture unit and the run controller, and the receive window (R71, R91, R96, R101, R102,
R117, R118, R197). -/

namespace Sys2Proof.Machine

/-! ## The setpoint frame (R117) -/

/-- R117: the setpoint of channel `c` as the frame carries it. -/
def sentSetpoint (s : State) (c : Nat) : Int :=
  if enabled s c then (tget s.pipeline.channels c).previous.getD 0 else 0

/-- R117: the enabled flags, bit `c` for drive channel `c`. -/
def enabledFlags (s : State) : BitVec 16 :=
  (enabledChannels s).foldl (fun m c => m ||| (1#16 <<< c)) 0

/-- R117: bytes 0 to 37 of a setpoint frame. -/
def frameBody (s : State) : List Byte :=
  le16 (s.timebase.counter.setWidth 16) ++
    [if isActive s then runCode s.run.state else 0,
     if isActive s ∧ s.run.pressure = .high then 1 else 0] ++
    le16 (enabledFlags s) ++
    (List.range 16).flatMap (fun c => le16 (BitVec.ofInt 16 (sentSetpoint s c)))

/-- R117: the 40 bytes of a setpoint frame. -/
def setpointFrame (s : State) : List Byte := withCrc (frameBody s)

/-! ## The status snapshot (R197) -/

/-- R197: the snapshot of the state as it stands. -/
def snapshot (s : State) : Snapshot :=
  let b := runBlock s
  { mode := s.config.mode, run := b.state, cause := causeCode s.cause, counter := s.timebase.counter,
    cursor := s.sequencer.cursor, position := s.sequencer.position,
    taper := if isActive s then s.pipeline.taper else 0, pause := b.pause, heldFaults := heldSources s,
    holdOut := b.holdOut, pressure := b.pressure, permit := s.permit.filtered,
    setpoints := (List.range 16).map (fun c => (enabled s c, sentSetpoint s c)), feedback := s.rig.feedback,
    freePages := s.pool.length, corrected := s.store.corrected, eventCount := s.events.records.length,
    eventDiscards := s.events.discards, summaryCount := s.summaries.queue.length,
    summaryDiscards := s.summaries.discards, loop := s.supervisor.loop, badFrames := s.link.badFrames }

/-- R197: a STATUS in hand has its snapshot latched, and its OK reply is formed. -/
def latchSnapshot (s : State) : State :=
  match s.link.inHand with
  | some { kind := _, tag := _, job := .awaitSnapshot } =>
    s |> answer .ok (.snapshot (snapshot s)) |> setJob .answered
  | _ => s

/-! ## The reports (R71) -/

/-- R150: whether a play frame is a captured frame: its sub-step is 0, or it is a run-out frame. -/
def isCaptured (k : FrameKind) (s : State) : Bool :=
  match s.pipeline.params with
  | some (.play p) => decide (k = .runOut) || decide (s.sequencer.position % p.ratio = 0)
  | _ => false

/-- R71: the report of a play frame to the accumulator and the capture unit. -/
def reportEvidence (k : FrameKind) (s : State) : State :=
  if isPlayFrame k then
    let s1 := accumulate s
    if isCaptured k s then captureFrame s1 else s1
  else s

/-- R71, R59, R61: the report of a frame to the sequencer. -/
def reportSequencer (k : FrameKind) (s : State) : State :=
  match k, s.pipeline.params with
  | .play, some (.play p) =>
    let s1 : State := { s with sequencer.position := s.sequencer.position + 1 }
    if s1.sequencer.position = p.length then lastDriveFrame p s1 else s1
  | .runOut, some (.play p) => if s.pipeline.taper = 0 then endEntry p s else s
  | .dwell, some (.dwell d) =>
    let s1 : State := { s with sequencer.position := s.sequencer.position + 1 }
    if d ≤ s1.sequencer.position then endDwell s1 else s1
  | _, _ => s

/-- R92: the run enters STOPPED; HOST leaves the pause-reason set. -/
def enterStopped (s : State) : State := { s with run.state := .stopped, run.host := false }

/-- R102: the unload delay of UNLOADING has run out. -/
def endUnloadDelay (s : State) : State :=
  { enterStopped (pressureFall s) with run.unload := .idle } |> raiseEvent .unloadDone s.sequencer.cursor 0

/-- R101, R102: the first park frame of PARKING or UNLOADING at which every channel stands at its park value. -/
def parkArrival (s : State) : State :=
  match s.run.state with
  | .parking => s |> enterStopped |> raiseEvent .runStopped s.sequencer.cursor 0
  | .unloading =>
    if s.run.unload = .idle then
      if s.run.pressure = .high then
        if (general s).unloadMs = 0 then endUnloadDelay s else { s with run.unload := .inUnloading }
      else s |> enterStopped |> raiseEvent .unloadDone s.sequencer.cursor 1
    else s
  | _ => s

/-- R71, R91, R96, R101, R102: the report of a frame, formed in run state `was` with the counter value `i`, to the run
controller. -/
def reportRun (k : FrameKind) (was : RunState) (i : Nat) (s : State) : State :=
  match was with
  | .starting =>
    if s.run.state = .starting ∧ allAt ChannelRec.mean s then
      if pauseEmpty s then enterRunning s else enterPaused s
    else s
  | .pausing => if s.run.state = .pausing ∧ i = 0 then enterPaused s else s
  | .parking | .unloading => if k = .park ∧ allAt ChannelRec.park s then parkArrival s else s
  | _ => s

/-- R71: the reports on the frame formed with kind `k`, in run state `was`, at counter value `i`. -/
def reports (k : FrameKind) (was : RunState) (i : Nat) (s : State) : State :=
  s |> reportEvidence k |> reportSequencer k |> reportRun k was i

/-! ## The boundary (R68, R114 to R120) -/

/-- R114, R115: the boundary of the timebase. -/
def tick (s : State) : State :=
  { s with timebase := { rate := s.timebase.nextRate, nextRate := s.timebase.nextRate,
                         counter := s.timebase.counter + 1 } }

/-- R118: the window that closed without a good response, if one did. -/
def missedWindow (s : State) : Option Window :=
  match s.rig.window with
  | some w => if w.good then none else some w
  | none => none

/-- R118: the boundary closes the window and opens the next. -/
def openWindow (s : State) : State :=
  { s with rig.window := some { frame := s.timebase.counter.setWidth 16, bytes := [], corrupt := false,
                                good := false, inStay := isActive s } }

/-- R120: the miss of the window the boundary closes, if it is one. -/
def missOf (w : Option Window) (s : State) : State :=
  match w with
  | some w => takeMiss w s
  | none => s

/-- R116, R117: the setpoint frame is sent. -/
def sendFrame (s : State) : State := { s with rig.sent := setpointFrame s }

/-- R68, R71, R117, R197: the frame is formed and sent, the snapshot latched, and the reports made. Outside ACTIVE the
pipeline forms nothing. -/
def giveFrame (s : State) : State :=
  if isActive s then
    let f := formFrame s
    f |> sendFrame |> latchSnapshot |> reports (frameKind s) s.run.state f.pipeline.taper
  else s |> sendFrame |> latchSnapshot

/-- R68, R114 to R120, R197: a frame boundary, its steps in the order of log entry 12. Where a miss taken before the frame
is formed has started a play, or let one go on, the reads of that frame complete first (R12, R72). -/
def boundary (missFirst : Bool) (s : State) : State :=
  let w := missedWindow s
  let s1 := openWindow (tick (drain drainFuel s))
  let s2 := if missFirst then s1 |> missOf w |> drain drainFuel |> giveFrame else s1 |> giveFrame |> missOf w
  settle (callReads s2)

end Sys2Proof.Machine
end

