-- ==== Sys2Proof/Machine/FaultRequests.lean ====
section
/-! DEFINITION. The meanings of CLEAR_FAULTS and FAULTS_READ (R142 to R146). -/

namespace Sys2Proof.Machine

/-- R143: whether the condition of source `k` is absent. -/
def conditionAbsent (s : State) (k : Nat) : Bool :=
  if k < 32 then
    let m := tget s.monitors k
    !evaluates s m || ((source s k).latched && decide (m.inside = m.record.filter))
  else if k = 32 then
    (enabledChannels s).all (fun c => s.rig.ready.getLsbD c) || decide (s.run.pressure = .low)
  else if k = 33 then decide (s.rig.misses = 0)
  else if k = 34 then true
  else if k = 35 then false
  else if k = 36 then true
  else decide (s.permit.filtered = .high)

/-- R142: the sources a CLEAR_FAULTS ends, ascending: each active LATCHED source and SELF_CLEARING monitor whose
condition is absent. -/
def endedSources (s : State) : List Nat :=
  (List.range 38).filter (fun k => (source s k).active && conditionAbsent s k)

/-- R142, step 2: the ends are made, and ending HEARTBEAT sets the loop counter to 0. -/
def endSources (ended : List Nat) (s : State) : State :=
  let s1 := ended.foldl (fun t k => endSource k t) s
  if ended.contains 34 then { s1 with supervisor.loop := 0 } else s1

/-- R142, step 6; R106, R92: a FROZEN run with no TRIP held becomes STOPPED, and a set that became empty resumes the
run. -/
def respondToClearing (removed : Bool) (s : State) : State :=
  if s.run.state = .frozen then
    if tripHeld s then s else s |> enterStopped |> raiseEvent .runStopped s.sequencer.cursor 1
  else if removed then pauseEmptied s
  else s

/-- R142: the clearing, steps 1 to 5. -/
def clearSources (s : State) : State :=
  let ended := endedSources s
  let s1 := endSources ended s
  let s2 : State := { s1 with run.sources := s1.run.sources.filter (fun k => !ended.contains k) }
  s2 |> formAction |> setFaultLine

/-- R142: whether a source that the clearing ends is a member of the pause-reason set. -/
def clearsMember (s : State) : Bool := s.run.sources.any (fun k => (endedSources s).contains k)

/-- R142: a CLEAR_FAULTS whose length passes. The held sources of the reply are those that stand once steps 1 to 5 are
done, before the run controller responds (log entry 45). -/
def clearFaultsEffect (s : State) : State :=
  if !isActive s then answer .wrongState .empty s
  else
    let t := clearSources s
    t |> respondToClearing (clearsMember s) |> answer .ok (.cleared (heldSources t))

/-- CLEAR_FAULTS (R142). -/
def execClearFaults (tag : Byte) (body : List Byte) (s : State) : Result :=
  .next (settle (onRequest 0x50 tag body (withLength 0 body clearFaultsEffect) s))

/-- R146: source `k` as FAULTS_READ reports it. -/
def sourceInfo (e : FaultEntry) : SourceInfo :=
  { active := e.active, cls := e.cls, latched := e.latched, subject := if e.active then some e.subject else none }

/-- R146: a monitor as FAULTS_READ reports it. -/
def monitorInfo (s : State) (m : Monitor) : MonitorInfo :=
  { enabled := decide (m.record.enabled = 1), evaluating := evaluates s m,
    suspended := suspendedBy s.run.holdOut m.record, tripped := m.tripped, outside := m.outside, inside := m.inside }

/-- R146: the body of a FAULTS_READ reply. -/
def faultsInfo (s : State) : FaultsInfo :=
  { action := s.faults.action, faultN := s.faults.faultN, sources := s.faults.entries.toList.map sourceInfo,
    monitors := s.monitors.toList.map (monitorInfo s) }

/-- FAULTS_READ (R146). -/
def execFaultsRead (tag : Byte) (body : List Byte) (s : State) : Result :=
  .next (onRequest 0x51 tag body (withLength 0 body (fun s => answer .ok (.faults (faultsInfo s)) s)) s)

end Sys2Proof.Machine
end

