-- ==== Sys2Proof/Machine/Frames.lean ====
section
/-! DEFINITION. The meanings of FRAME_BOUNDARY (R68) and RESPONSE_FRAME (R119). -/

namespace Sys2Proof.Machine

/-- FRAME_BOUNDARY (R68, R114 to R120). No boundary comes unless the device is up (R114). -/
def execFrameBoundary (missFirst : Bool) (s : State) : Result :=
  if isUp s then .next (boundary missFirst s) else .next s

/-- RESPONSE_FRAME (R118, R119). No byte is assembled unless the device is up (R125). -/
def execResponseFrame (bytes : List Byte) (lowStop : Option Nat) (s : State) : Result :=
  if isUp s then .next (settle (takeBytes bytes lowStop s)) else .next s

end Sys2Proof.Machine
end

