-- ==== Sys2Proof/Machine/Link.lean ====
section
/-! DEFINITION. The meanings of the control link's framing, of replies, and of IDENTIFY, STATUS, EVENTS_READ, RESET and
HEARTBEAT (R192 to R200, R188). -/

namespace Sys2Proof.Machine

/-- FRAME_MARKER (R192). -/
def execFrameMarker (s : State) : Result :=
  if isUp s ∧ s.link.assembly = .hunting then .next { s with link.assembly := .assembling, link.collected := [] }
  else .next s

/-- REQUEST_FRAME_DISCARDED (R192): bytes of the frame in assembly arrive, and the frame is discarded where they show it
to fail, for its length, a stop bit or its CRC-16 (`frameFails`). -/
def execRequestFrameDiscarded (s : State) (bytes : List Byte := []) (lowStop : Option Nat := none) : Result :=
  if isUp s ∧ s.link.assembly = .assembling then .next (takeFrameBytes bytes lowStop s) else .next s

/-- CONTROL_BYTE_GAP (R192): a gap of more than 1 ms inside a frame. -/
def execControlByteGap (s : State) : Result :=
  if isUp s ∧ s.link.assembly = .assembling then .next (discardFrame s) else .next s

/-- UNKNOWN_REQUEST (R193): a taken request whose kind is not in the catalogue. -/
def execUnknownRequest (kind tag : Byte) (body : List Byte) (s : State) : Result :=
  if knownKind kind then .next s else .next (onRequest kind tag body (answer .unknown .empty) s)

/-- BUSY_REQUEST (R194): a complete request that finds the interface occupied. -/
def execBusyRequest (kind tag : Byte) (s : State) : Result :=
  if isUp s ∧ occupied s then .next (answerBusy kind tag s) else .next s

/-- R194: the oldest owed reply has left: that of the request in hand if its reply is formed, else the oldest BUSY
answer. With none left the interface is free. -/
def replyLeaves (s : State) : State :=
  if s.link.inHand.isSome ∨ s.link.reply.isSome then { s with link.inHand := none, link.reply := none }
  else { s with link.busy := s.link.busy.tail }

/-- R194: no BUSY answer leaves before the reply of the request in hand, so nothing leaves until that reply is formed. -/
def replyFormed (s : State) : Bool := s.link.inHand.isNone || s.link.reply.isSome

/-- R198: whether the request in hand is a RESET whose reply is owed. -/
def resetInHand (s : State) : Bool :=
  match s.link.inHand with
  | some h => decide (h.job = .resetAfter)
  | none => false

/-- REPLY_SENT (R194, R198): the last byte of the oldest owed reply is sent (log entry 21); after a RESET reply the warm
reset begins, and what is owed after it is not sent. -/
def execReplySent (s : State) : Result :=
  if isUp s ∧ replyFormed s then
    if resetInHand s then .next { warmReset .request s with life := .startUp .warm } else .next (replyLeaves s)
  else .next s

/-- R196: the figures IDENTIFY gives. -/
def identity : Identity :=
  { vendor := 0x4C50#16, part := 416, revision := Config.revision, pages := Config.storePages,
    pageSamples := Config.pageSamples, segments := 64, entries := Config.maxEntries, driveChannels := 16,
    feedbackChannels := 32, monitors := 32, captureSlots := 32, eventCapacity := Config.maxEvents,
    summaryCapacity := Config.maxSummaries, largestBody := Config.largestBody }

/-- IDENTIFY (R196). -/
def execIdentify (tag : Byte) (body : List Byte) (s : State) : Result :=
  .next (onRequest 0x01 tag body (withLength 0 body (answer .ok (.identity identity))) s)

/-- STATUS (R197): the snapshot is latched at the next boundary. -/
def execStatus (tag : Byte) (body : List Byte) (s : State) : Result :=
  .next (onRequest 0x02 tag body (withLength 0 body (setJob .awaitSnapshot)) s)

/-- R199: the 18 bytes of an event record. -/
def eventBytes (r : EventRecord) : List Byte :=
  le16 r.seq ++ le64 r.stamp ++ le16 (eventCode r.kind) ++ le16 r.subject ++ le32 r.value

/-- R200: the oldest `n` records leave the queue and are returned. -/
def readEvents (n : Nat) (s : State) : State :=
  let out := s.events.records.take n
  let left := s.events.records.drop n
  answer .ok (.events left.length s.events.discards (out.map eventBytes)) { s with events.records := left }

/-- EVENTS_READ (R200). -/
def execEventsRead (tag : Byte) (body : List Byte) (s : State) : Result :=
  .next (onRequest 0x03 tag body (withLength 1 body (fun s =>
    let n := (byteAt body 0).toNat
    if n < 1 ∨ 8 < n then answer .badValue .empty s
    else if s.events.records.isEmpty then answer .notFound .empty s
    else readEvents n s)) s)

/-- RESET (R198): answered OK; the reset begins when the reply is sent. -/
def execReset (tag : Byte) (body : List Byte) (s : State) : Result :=
  .next (onRequest 0x04 tag body (withLength 0 body (fun s => s |> answer .ok .empty |> setJob .resetAfter)) s)

/-- R188: a beat is judged by the moment it is taken, and a new period begins. -/
def judgeBeat (s : State) : State :=
  if s.supervisor.running then
    if s.supervisor.windowOpen then
      let s1 : State := beginPeriod { s with supervisor.loop := s.supervisor.loop - 1 }
      answer .ok (.beat (judgmentCode .good) s1.supervisor.loop) s1
    else
      let s1 := heartbeatError (beginPeriod s)
      answer .ok (.beat (judgmentCode .early) s1.supervisor.loop) s1
  else answer .ok (.beat (judgmentCode .unsupervised) s.supervisor.loop) s

/-- HEARTBEAT (R188). -/
def execHeartbeat (tag : Byte) (body : List Byte) (s : State) : Result :=
  .next (settle (onRequest 0x70 tag body (withLength 0 body judgeBeat) s))

end Sys2Proof.Machine
end

