-- ==== Sys2Proof/Machine/Memory.lean ====
section
/-! DEFINITION. The meanings of the arbiter's four completions: MEMORY_READ, WHOLE_WORD_WRITE, PARTIAL_WORD_WRITE, SCRUB
(R13, R14, R15, R18). A completion of a kind that is not granted changes nothing (log entry 2). -/

namespace Sys2Proof.Machine

/-- The granted operation completes if its word exists (R3), and the next is granted. -/
def completeInside (found : ReadOutcome) (op : MemOp) (s : State) : Result :=
  if opWord op < Config.storeWords then .next (settle (completeGranted found s)) else .fault .outsideStore

/-- The granted operation, while the device is up. -/
def grantedOp (s : State) : Option MemOp := if isUp s then s.arbiter.granted.map (fun g => g.op) else none

/-- MEMORY_READ (R13). -/
def execMemoryRead (found : ReadOutcome) (s : State) : Result :=
  match grantedOp s with
  | some (.read w i q) => completeInside found (.read w i q) s
  | _ => .next s

/-- WHOLE_WORD_WRITE (R14). -/
def execWholeWordWrite (s : State) : Result :=
  match grantedOp s with
  | some (.write w lanes) => if isWhole lanes then completeInside .clean (.write w lanes) s else .next s
  | _ => .next s

/-- PARTIAL_WORD_WRITE (R15). -/
def execPartialWordWrite (found : ReadOutcome) (s : State) : Result :=
  match grantedOp s with
  | some (.write w lanes) => if isWhole lanes then .next s else completeInside found (.write w lanes) s
  | _ => .next s

/-- SCRUB (R18). -/
def execScrub (found : ReadOutcome) (s : State) : Result :=
  match grantedOp s with
  | some (.scrub p w) => completeInside found (.scrub p w) s
  | _ => .next s

end Sys2Proof.Machine
end

