-- ==== Sys2Proof/Machine/Power.lean ====
section
/-! DEFINITION. The meanings of the resets, start-up and the supply: POWER_ON, RESET_N_LOW, RESET_N_HIGH, START_UP_END,
SUPPLY_LOSS (R165 to R167). -/

namespace Sys2Proof.Machine

/-- POWER_ON (R165, R8): a power-on reset with cause POWER; while RESET_N is low the device is held. -/
def execPowerOn (s : State) : Result :=
  .next { resetVolatile (powerOnStorage (cutSave s)) with
    cause := .power
    life := if s.resetN = .low then .held .powerOn else .startUp .powerOn }

/-- RESET_N_LOW (R165, R9): a warm reset with cause LINE, held while the line is low. -/
def execResetNLow (s : State) : Result :=
  match s.resetN, s.life with
  | .low, _ => .next s
  | .high, .off => .next { s with resetN := .low }
  | .high, l => .next { warmReset .line s with resetN := .low, life := .held (resetKind l) }

/-- RESET_N_HIGH (R165): the held start-up begins. -/
def execResetNHigh (s : State) : Result :=
  match s.life with
  | .held k => .next { s with resetN := .high, life := .startUp k }
  | _ => .next { s with resetN := .high }

/-- START_UP_END (R166, R167, R114): the configuration store is set, and the device takes frames. -/
def execStartUpEnd (s : State) : Result :=
  match s.life with
  | .startUp _ => .next (settle { s with life := .up, config := startConfig s.config })
  | _ => .next s

/-- SUPPLY_LOSS (R165, R107, R182). -/
def execSupplyLoss (s : State) : Result :=
  match s.life with
  | .off => .next s
  | _ => .next (loseSupply s)

end Sys2Proof.Machine
end

