-- ==== Sys2Proof/Machine/Run.lean ====
section
/-! DEFINITION. The meanings of the run, pressure and hold-out requests (R89 to R112). -/

namespace Sys2Proof.Machine

/-- R89: the reply of a run, pressure or hold-out request, with the state as it stands after it. -/
def runReply (status : Status) (s : State) : State := answer status (.run (runBlock s)) s

/-- R89: the checks of length and mode, then the request's own. -/
def onRun (n : Nat) (body : List Byte) (effect : State → State) (s : State) : State :=
  if body.length ≠ n then runReply .badLength s
  else if !isActive s then runReply .wrongState s
  else effect s

/-- R90, R53: what an accepted RUN_START does. -/
def startRun (i : Nat) (s : State) : State :=
  let s1 : State :=
    { s with
      run.state := .starting
      schedule := reloadCounters s.schedule
      summaries.ordinal := 0 }
  s1 |> stand .awaiting i |> raiseEvent .runStarted i 0

/-- R90: a RUN_START whose length and mode pass. -/
def runStartEffect (i : Nat) (s : State) : State :=
  if s.run.state ≠ .stopped then runReply .wrongState s
  else if s.schedule.isEmpty then runReply .badValue s
  else if s.schedule.length ≤ i then runReply .badValue s
  else if stopOrTripHeld s then runReply .faultsPresent s
  else if s.run.pressure = .low then runReply .wrongState s
  else if s.run.grace = .counting ∨ s.run.unload = .inStopped then runReply .busy s
  else s |> startRun i |> runReply .ok

/-- RUN_START (R90). -/
def execRunStart (tag : Byte) (body : List Byte) (s : State) : Result :=
  .next (onRequest 0x40 tag body (onRun 2 body (runStartEffect (le16At body 0).toNat)) s)

/-- R93, R92: HOST joins the pause-reason set. -/
def joinHost (s : State) : State :=
  if s.run.host then s
  else { s with run.host := true } |> raiseEvent .runPaused s.sequencer.cursor 0 |> pauseJoined

/-- R93: a RUN_PAUSE whose length and mode pass. -/
def runPauseEffect (s : State) : State :=
  match s.run.state with
  | .starting | .running | .pausing | .paused => s |> joinHost |> runReply .ok
  | .stopped | .holding | .parking | .unloading | .frozen => runReply .wrongState s

/-- RUN_PAUSE (R93). -/
def execRunPause (tag : Byte) (body : List Byte) (s : State) : Result :=
  .next (settle (onRequest 0x41 tag body (onRun 0 body runPauseEffect) s))

/-- R94: HOST leaves the pause-reason set. -/
def leaveHost (s : State) : State :=
  if s.run.host then pauseEmptied { s with run.host := false } else s

/-- RUN_RESUME (R94). -/
def execRunResume (tag : Byte) (body : List Byte) (s : State) : Result :=
  .next (settle (onRequest 0x42 tag body (onRun 0 body (fun s => s |> leaveHost |> runReply .ok)) s))

/-- R99: a RUN_STOP whose length and mode pass. -/
def runStopEffect (s : State) : State :=
  match s.run.state with
  | .starting | .running | .pausing | .paused | .holding => s |> enterParking |> runReply .ok
  | .stopped | .parking | .unloading | .frozen => runReply .ok s

/-- RUN_STOP (R99). -/
def execRunStop (tag : Byte) (body : List Byte) (s : State) : Result :=
  .next (settle (onRequest 0x43 tag body (onRun 0 body runStopEffect) s))

/-- R100: a RUN_UNLOAD whose length and mode pass. -/
def runUnloadEffect (s : State) : State :=
  match s.run.state with
  | .starting | .running | .pausing | .paused | .holding | .parking => s |> enterUnloading |> runReply .ok
  | .stopped => if s.run.unload = .inStopped then runReply .ok s else s |> enterUnloading |> runReply .ok
  | .unloading | .frozen => runReply .ok s

/-- RUN_UNLOAD (R100). -/
def execRunUnload (tag : Byte) (body : List Byte) (s : State) : Result :=
  .next (settle (onRequest 0x44 tag body (onRun 0 body runUnloadEffect) s))

/-- R107, R108, R110: PRESSURE_REQ rises and the ready grace starts; a grace of 0 elapses at once. -/
def pressureRise (s : State) : State :=
  { s with run.pressure := .high, run.grace := if (general s).graceMs = 0 then .elapsed else .counting }

/-- R108: a PRESSURE_ON whose length and mode pass. -/
def pressureOnEffect (s : State) : State :=
  if s.run.state ≠ .stopped then runReply .wrongState s
  else if s.permit.filtered = .low then runReply .wrongState s
  else if stopOrTripHeld s then runReply .faultsPresent s
  else if s.run.unload = .inStopped then runReply .busy s
  else if s.run.pressure = .low then s |> pressureRise |> runReply .ok
  else runReply .ok s

/-- PRESSURE_ON (R108). -/
def execPressureOn (tag : Byte) (body : List Byte) (s : State) : Result :=
  .next (onRequest 0x45 tag body (onRun 0 body pressureOnEffect) s)

/-- R109: a PRESSURE_OFF whose length and mode pass. -/
def pressureOffEffect (s : State) : State :=
  if s.run.state ≠ .stopped then runReply .wrongState s
  else if s.run.pressure = .low then runReply .ok s
  else runReply .ok { pressureFall s with run.unload := .idle }

/-- PRESSURE_OFF (R109). -/
def execPressureOff (tag : Byte) (body : List Byte) (s : State) : Result :=
  .next (onRequest 0x46 tag body (onRun 0 body pressureOffEffect) s)

/-- R111: the run states in which the hold-out set may change. -/
def holdOutAllowed (s : State) : Bool :=
  decide (s.run.state = .stopped) || decide (s.run.state = .paused) || decide (s.run.state = .holding)

/-- R112, R132: the counters of the monitors owned by drive channel `c` become 0. -/
def zeroOwned (c : Nat) (s : State) : State :=
  { s with
    monitors := tmap (fun _ m => if m.record.owner.toNat = c then { m with outside := 0, inside := 0 } else m) s.monitors }

/-- R111, R112: drive channel `c` is held out. -/
def addHoldOut (c : Nat) (s : State) : State :=
  if s.run.holdOut.contains c then s else zeroOwned c { s with run.holdOut := insertNum c s.run.holdOut }

/-- R111, R112: drive channel `c` is restored. -/
def dropHoldOut (c : Nat) (s : State) : State :=
  if s.run.holdOut.contains c then zeroOwned c { s with run.holdOut := s.run.holdOut.filter (fun k => k ≠ c) } else s

/-- R111: a HOLD_OUT whose length and mode pass. -/
def holdOutEffect (c : Nat) (s : State) : State :=
  if 15 < c then runReply .badValue s
  else if !holdOutAllowed s then runReply .wrongState s
  else if !enabled s c || decide ((channelRec s c).holdOutPermitted ≠ 1) then runReply .badValue s
  else s |> addHoldOut c |> runReply .ok

/-- HOLD_OUT (R111). -/
def execHoldOut (tag : Byte) (body : List Byte) (s : State) : Result :=
  .next (onRequest 0x47 tag body (onRun 1 body (holdOutEffect (byteAt body 0).toNat)) s)

/-- R111: a RESTORE whose length and mode pass. -/
def restoreEffect (c : Nat) (s : State) : State :=
  if 15 < c then runReply .badValue s
  else if !holdOutAllowed s then runReply .wrongState s
  else if !enabled s c then runReply .badValue s
  else s |> dropHoldOut c |> runReply .ok

/-- RESTORE (R111). -/
def execRestore (tag : Byte) (body : List Byte) (s : State) : Result :=
  .next (onRequest 0x48 tag body (onRun 1 body (restoreEffect (byteAt body 0).toNat)) s)

end Sys2Proof.Machine
end

