-- ==== Sys2Proof/Machine/Schedule.lean ====
section
/-! DEFINITION. The meanings of the schedule requests (R47 to R51). -/

namespace Sys2Proof.Machine

/-- R65: an append redoes a lookahead that stands at "end of schedule". -/
def redoAtEnd (s : State) : State :=
  match s.sequencer.lookahead with
  | some { successor := none, continues := _, reach := _, prefetch := _ } => redoLookahead s
  | _ => s

/-- R48: the checked entries join the list. -/
def appendEntries (es : List Entry) (s : State) : State :=
  if Config.maxEntries < s.schedule.length + es.length then answer .full .empty s
  else
    { s with schedule := s.schedule ++ es } |> redoAtEnd
      |> answer .ok (.schedCount (s.schedule.length + es.length))

/-- SCHED_APPEND (R48). -/
def execSchedAppend (tag : Byte) (body : List Byte) (s : State) : Result :=
  .next (settle (onRequest 0x30 tag body (fun s =>
    if !schedAppendFits body then answer .badLength .empty s
    else
      match appendedEntries body s.schedule.length with
      | .error k => answer .badValue (.schedPosition k) s
      | .ok es => appendEntries es s) s))

/-- R49: whether a truncation at `k` would reach the cursor or the entry in force of a run. -/
def truncationRefused (k : Nat) (s : State) : Bool :=
  isActive s && decide (s.run.state ≠ .stopped) &&
    (decide (k ≤ s.sequencer.cursor) ||
      match s.sequencer.entry with
      | some e => decide (k ≤ e)
      | none => false)

/-- R65: a truncation at `k` redoes a lookahead whose reach it touches. -/
def redoReaching (k : Nat) (s : State) : State :=
  match s.sequencer.lookahead with
  | some l => if k ≤ l.reach then redoLookahead s else s
  | none => s

/-- R49: a SCHED_TRUNCATE whose length passes. -/
def truncateEffect (k : Nat) (s : State) : State :=
  if s.schedule.length < k then answer .badValue .empty s
  else if truncationRefused k s then answer .inUse .empty s
  else { s with schedule := s.schedule.take k } |> redoReaching k |> answer .ok (.schedCount k)

/-- SCHED_TRUNCATE (R49). -/
def execSchedTruncate (tag : Byte) (body : List Byte) (s : State) : Result :=
  .next (settle (onRequest 0x31 tag body (withLength 2 body (truncateEffect (le16At body 0).toNat)) s))

/-- R50: a SCHED_CLEAR whose length passes. -/
def clearEffect (s : State) : State :=
  if isActive s ∧ s.run.state ≠ .stopped then answer .wrongState .empty s
  else
    { s with schedule := [], sequencer.cursor := 0, sequencer.phase := .idle, sequencer.position := 0 }
      |> answer .ok .empty

/-- SCHED_CLEAR (R50). -/
def execSchedClear (tag : Byte) (body : List Byte) (s : State) : Result :=
  .next (onRequest 0x32 tag body (withLength 0 body clearEffect) s)

/-- R51: the lookahead's successor as SCHED_READ reports it. -/
def successorInfo (s : State) : SuccessorInfo :=
  match s.sequencer.lookahead with
  | none => .absent
  | some l =>
    match l.successor with
    | none => .endOfSchedule
    | some j => .index j

/-- R51: the body of a SCHED_READ reply. -/
def schedInfo (start count : Nat) (s : State) : SchedInfo :=
  { count := s.schedule.length, cursor := s.sequencer.cursor, phase := s.sequencer.phase,
    position := s.sequencer.position, successor := successorInfo s, entries := (s.schedule.drop start).take count }

/-- R51: a SCHED_READ whose length passes. -/
def schedReadEffect (start count : Nat) (s : State) : State :=
  if 255 < start ∨ count < 1 ∨ 8 < count then answer .badValue .empty s
  else if s.schedule.length ≤ start then answer .notFound .empty s
  else answer .ok (.schedule (schedInfo start count s)) s

/-- SCHED_READ (R51). -/
def execSchedRead (tag : Byte) (body : List Byte) (s : State) : Result :=
  .next (onRequest 0x33 tag body (withLength 3 body
    (schedReadEffect (le16At body 0).toNat (byteAt body 2).toNat)) s)

end Sys2Proof.Machine
end

