-- ==== Sys2Proof/Machine/Segments.lean ====
section
/-! DEFINITION. The meanings of the segment requests (R25 to R35). -/

namespace Sys2Proof.Machine

/-- R25: the checks of length and id, then the request's own. -/
def onSegment (fits : Bool) (body : List Byte) (effect : Nat → State → State) (s : State) : State :=
  if !fits then answer .badLength .empty s
  else if 63 < (byteAt body 0).toNat then answer .badValue .empty s
  else effect (byteAt body 0).toNat s

/-- The data a SEG_OPEN gives its target (R26). -/
def openedData (a : SegOpenArgs) (pages : List Nat) : SegData :=
  { channels := a.channels, frames := a.frames, ratio := a.ratio, pages := pages, expected := 0, dataCrc := none }

/-- R26: SEG_OPEN without the replace flag. -/
def openPlain (a : SegOpenArgs) (s : State) : State :=
  if !segValuesOk a then answer .badValue .empty s
  else if (descriptor s a.id).state ≠ .empty then answer .wrongState .empty s
  else
    match allocateBlock (pagesNeeded a.channels a.frames) s with
    | none => answer .noSpace .empty s
    | some (pages, s1) =>
      s1 |> setDescriptor a.id
              { state := .loading, data := openedData a pages, doubleErrors := 0, inPlay := false, repl := none }
        |> answer .ok .empty

/-- R27: SEG_OPEN with the replace flag. -/
def openReplacement (a : SegOpenArgs) (s : State) : State :=
  let d := descriptor s a.id
  if !segValuesOk a then answer .badValue .empty s
  else if d.state ≠ .ready ∧ d.state ≠ .damaged then answer .wrongState .empty s
  else if d.repl.isSome then answer .inUse .empty s
  else
    match allocateBlock (pagesNeeded a.channels a.frames) s with
    | none => answer .noSpace .empty s
    | some (pages, s1) =>
      s1 |> setDescriptor a.id { d with repl := some { state := .loading, data := openedData a pages } }
        |> answer .ok .empty

/-- R25 to R27: a SEG_OPEN, by its replace flag. -/
def segOpenEffect (body : List Byte) (s : State) : State :=
  onSegment (body.length == 9) body (fun _ s =>
    let a := segOpenArgs body
    if a.replace then openReplacement a s else openPlain a s) s

/-- SEG_OPEN, replace flag clear (R26). -/
def execSegOpen (tag : Byte) (body : List Byte) (s : State) : Result :=
  .next (settle (onRequest 0x20 tag body (segOpenEffect body) s))

/-- SEG_OPEN, replace flag set (R27). -/
def execSegOpenReplace (tag : Byte) (body : List Byte) (s : State) : Result :=
  .next (settle (onRequest 0x20 tag body (segOpenEffect body) s))

/-- R23: the loading target of segment `id`, its data, and whether it is in LOADING. -/
def loadingTarget (id : Nat) (s : State) : Target × SegData × Bool :=
  match (descriptor s id).repl with
  | some r => ({ seg := id, repl := true }, r.data, decide (r.state = .loading))
  | none =>
    ({ seg := id, repl := false }, (descriptor s id).data, decide ((descriptor s id).state = .loading))

/-- R28: a SEG_DATA whose length and id pass: the run is written through the arbiter. -/
def segDataEffect (body : List Byte) (id : Nat) (s : State) : State :=
  let t := loadingTarget id s
  let offset := (le32At body 1).toNat
  let samples := segDataSamples body
  if !t.2.2 then answer .wrongState .empty s
  else if t.2.1.size < offset + samples.length then answer .badValue .empty s
  else setJob (.segData (runOps t.2.1.pages offset samples)) s

/-- SEG_DATA (R28). -/
def execSegData (tag : Byte) (body : List Byte) (s : State) : Result :=
  .next (settle (onRequest 0x21 tag body (onSegment (segDataFits body) body (segDataEffect body)) s))

/-- R29: the loading target becomes VERIFYING with its expected CRC. -/
def setVerifying (id : Nat) (crc : BitVec 32) (s : State) : State :=
  let d := descriptor s id
  match d.repl with
  | some r => setDescriptor id { d with repl := some { state := .verifying, data := { r.data with expected := crc } } } s
  | none => setDescriptor id { d with state := .verifying, data := { d.data with expected := crc } } s

/-- R29: a SEG_CLOSE whose length and id pass. -/
def segCloseEffect (body : List Byte) (id : Nat) (s : State) : State :=
  let t := loadingTarget id s
  if !t.2.2 then answer .wrongState .empty s
  else
    let s1 := setVerifying id (le32At body 1) s
    answer .accepted .empty { s1 with verifier.queue := s1.verifier.queue ++ [t.1] }

/-- SEG_CLOSE (R29). -/
def execSegClose (tag : Byte) (body : List Byte) (s : State) : Result :=
  .next (settle (onRequest 0x22 tag body (onSegment (body.length == 5) body (segCloseEffect body)) s))

/-- R33: a SEG_ABANDON whose length and id pass. -/
def segAbandonEffect (id : Nat) (s : State) : State :=
  let d := descriptor s id
  match d.repl with
  | some r =>
    let s1 := if r.state = .verifying then dropTarget { seg := id, repl := true } s else s
    s1 |> removeReplacement id |> segChanged id |> answer .ok .empty |> recheckMissing id
  | none =>
    match d.state with
    | .loading => s |> emptyDescriptor id |> answer .ok .empty |> recheckMissing id
    | .verifying =>
      s |> dropTarget { seg := id, repl := false } |> emptyDescriptor id |> answer .ok .empty |> recheckMissing id
    | .empty | .ready | .damaged => answer .wrongState .empty s

/-- SEG_ABANDON (R33). -/
def execSegAbandon (tag : Byte) (body : List Byte) (s : State) : Result :=
  .next (settle (onRequest 0x23 tag body (onSegment (body.length == 1) body segAbandonEffect) s))

/-- R34: a SEG_FREE whose length and id pass. -/
def segFreeEffect (id : Nat) (s : State) : State :=
  if references s id ≠ 0 then answer .inUse .empty s
  else
    match (descriptor s id).state with
    | .loading | .verifying => answer .wrongState .empty s
    | .empty => answer .ok .empty s
    | .ready | .damaged =>
      s |> dropTarget { seg := id, repl := true } |> removeReplacement id |> emptyDescriptor id |> answer .ok .empty
        |> recheckMissing id

/-- SEG_FREE (R34). -/
def execSegFree (tag : Byte) (body : List Byte) (s : State) : Result :=
  .next (settle (onRequest 0x24 tag body (onSegment (body.length == 1) body segFreeEffect) s))

/-- R35: the samples of a VERIFYING target entered into the CRC, 0 while it waits in the queue. -/
def verifiedCount (t : Target) (verifying : Bool) (s : State) : Nat :=
  if verifying ∧ s.verifier.queue.head? = some t then s.verifier.entered else 0

/-- R35: what SEG_QUERY tells of a replacement. -/
def replInfo (id : Nat) (r : Replacement) (s : State) : ReplInfo :=
  { state := r.state, channels := r.data.channels, frames := r.data.frames, ratio := r.data.ratio,
    pageCount := r.data.pages.length, dataCrc := r.data.dataCrc,
    verified := verifiedCount { seg := id, repl := true } (decide (r.state = .verifying)) s }

/-- R35: the body of a SEG_QUERY reply. -/
def segInfo (id : Nat) (s : State) : SegInfo :=
  let d := descriptor s id
  { state := d.state, channels := d.data.channels, frames := d.data.frames, ratio := d.data.ratio,
    pageCount := d.data.pages.length, dataCrc := d.data.dataCrc, doubleErrors := d.doubleErrors, inPlay := d.inPlay,
    references := references s id,
    verified := verifiedCount { seg := id, repl := false } (decide (d.state = .verifying)) s,
    repl := d.repl.map (fun r => replInfo id r s) }

/-- SEG_QUERY (R35). -/
def execSegQuery (tag : Byte) (body : List Byte) (s : State) : Result :=
  .next (onRequest 0x25 tag body (onSegment (body.length == 1) body (fun id s => answer .ok (.segment (segInfo id s)) s)) s)

end Sys2Proof.Machine
end

