-- ==== Sys2Proof/Machine/Timers.lean ====
section
/-! DEFINITION. The meanings of the PERMIT input's, the heartbeat supervisor's and the timers' moments, and of the end of
a save (R102, R105, R110, R170, R181, R183, R187, R189). A moment whose timer is not running changes nothing
(log entry 2). -/

namespace Sys2Proof.Machine

/-- The other level. -/
def flipLevel : Level → Level
  | .low => .high
  | .high => .low

/-- PERMIT_LINE_CHANGE (R183): the raw level changes; the filter timer runs while it differs from the filtered level,
and not without supply. -/
def execPermitLineChange (s : State) : Result :=
  .next { s with permit := { raw := flipLevel s.permit.raw, filtered := s.permit.filtered,
                             timer := decide (flipLevel s.permit.raw ≠ s.permit.filtered) &&
                               decide (s.life ≠ .off) } }

/-- PERMIT_FILTER_EXPIRY (R183, R184): the filtered level takes the raw level; its fall in ACTIVE raises PERMIT. -/
def execPermitFilterExpiry (s : State) : Result :=
  if s.permit.timer then
    let s1 : State := { s with permit := { raw := s.permit.raw, filtered := s.permit.raw, timer := false } }
    if s.permit.filtered = .high ∧ s.permit.raw = .low then .next (settle (raise 37 0 s1)) else .next s1
  else .next s

/-- HEARTBEAT_WINDOW_OPEN (R187). -/
def execHeartbeatWindowOpen (s : State) : Result :=
  if s.supervisor.running then .next { s with supervisor.windowOpen := true } else .next s

/-- HEARTBEAT_PERIOD_EXPIRY (R189): a LATE error, and a new period begins. -/
def execHeartbeatPeriodExpiry (s : State) : Result :=
  if s.supervisor.running then .next (settle (heartbeatError (beginPeriod s))) else .next s

/-- READY_GRACE_EXPIRY (R110). -/
def execReadyGraceExpiry (s : State) : Result :=
  if s.run.grace = .counting then .next { s with run.grace := .elapsed } else .next s

/-- UNLOAD_DELAY_EXPIRY (R102): the unload delay counting in UNLOADING runs out. -/
def execUnloadDelayExpiry (s : State) : Result :=
  if s.run.unload = .inUnloading then .next (endUnloadDelay s) else .next s

/-- STOPPED_UNLOAD_DELAY_EXPIRY (R105): the unload delay counting in STOPPED runs out. -/
def execStoppedUnloadDelayExpiry (s : State) : Result :=
  if s.run.unload = .inStopped then .next (endStoppedDelay s) else .next s

/-- CONFIG_TIMER_EXPIRY (R170): the mode becomes LOCKED, the timer stops and CONFIG_LOCKED is raised. -/
def execConfigTimerExpiry (s : State) : Result :=
  if s.config.mode = .config ∧ s.config.timer.isSome then
    .next (raiseEvent .configLocked 0 0 { s with config.mode := .locked, config.timer := none })
  else .next s

/-- R181: the first byte at which two byte lists differ. -/
def firstDifference : List Byte → List Byte → Nat
  | a :: as, b :: bs => if a = b then firstDifference as bs + 1 else 0
  | _, _ => 0

/-- CONFIG_SAVE_END (R181): the read-back equals the copy or differs from it. -/
def execConfigSaveEnd (readBack : List Byte) (s : State) : Result :=
  match s.config.save with
  | none => .next s
  | some copy =>
    if readBack = copy then
      .next (raiseEvent .saveDone (crc16 copy).toNat 0
        { s with config.stored := { bytes := readBack, crc := some (crc16 copy), valid := true }, config.save := none })
    else
      .next (raiseEvent .saveFailed (firstDifference copy readBack) 0
        { s with config.stored := { bytes := readBack, crc := none, valid := false }, config.save := none })

end Sys2Proof.Machine
end

