-- ==== Sys2Proof/Machine/Dispatch.lean ====
section
/-! DEFINITION. The dispatch of every command to its meaning, one arm per constructor of Instr. -/

namespace Sys2Proof.Machine

def exec (i : Instr) (s : State) : Host.Outcome State Fault Refusal :=
  match i with
  | .powerOn => Sys2Proof.Machine.execPowerOn s
  | .resetNLow => Sys2Proof.Machine.execResetNLow s
  | .resetNHigh => Sys2Proof.Machine.execResetNHigh s
  | .startUpEnd => Sys2Proof.Machine.execStartUpEnd s
  | .frameBoundary m => Sys2Proof.Machine.execFrameBoundary m s
  | .responseFrame b c => Sys2Proof.Machine.execResponseFrame b c s
  | .permitLineChange => Sys2Proof.Machine.execPermitLineChange s
  | .permitFilterExpiry => Sys2Proof.Machine.execPermitFilterExpiry s
  | .heartbeatWindowOpen => Sys2Proof.Machine.execHeartbeatWindowOpen s
  | .heartbeatPeriodExpiry => Sys2Proof.Machine.execHeartbeatPeriodExpiry s
  | .readyGraceExpiry => Sys2Proof.Machine.execReadyGraceExpiry s
  | .unloadDelayExpiry => Sys2Proof.Machine.execUnloadDelayExpiry s
  | .stoppedUnloadDelayExpiry => Sys2Proof.Machine.execStoppedUnloadDelayExpiry s
  | .configTimerExpiry => Sys2Proof.Machine.execConfigTimerExpiry s
  | .configSaveEnd r => Sys2Proof.Machine.execConfigSaveEnd r s
  | .memoryRead o => Sys2Proof.Machine.execMemoryRead o s
  | .wholeWordWrite => Sys2Proof.Machine.execWholeWordWrite s
  | .partialWordWrite o => Sys2Proof.Machine.execPartialWordWrite o s
  | .scrub o => Sys2Proof.Machine.execScrub o s
  | .requestFrameDiscarded bytes lowStop => Sys2Proof.Machine.execRequestFrameDiscarded s bytes lowStop
  | .controlByteGap => Sys2Proof.Machine.execControlByteGap s
  | .unknownRequest k t b => Sys2Proof.Machine.execUnknownRequest k t b s
  | .busyRequest k t => Sys2Proof.Machine.execBusyRequest k t s
  | .replySent => Sys2Proof.Machine.execReplySent s
  | .identify t b => Sys2Proof.Machine.execIdentify t b s
  | .status t b => Sys2Proof.Machine.execStatus t b s
  | .eventsRead t b => Sys2Proof.Machine.execEventsRead t b s
  | .reset t b => Sys2Proof.Machine.execReset t b s
  | .configWrite t b => Sys2Proof.Machine.execConfigWrite t b s
  | .configRead t b => Sys2Proof.Machine.execConfigRead t b s
  | .configCommit t b => Sys2Proof.Machine.execConfigCommit t b s
  | .configSave t b => Sys2Proof.Machine.execConfigSave t b s
  | .segOpen t b => Sys2Proof.Machine.execSegOpen t b s
  | .segOpenReplace t b => Sys2Proof.Machine.execSegOpenReplace t b s
  | .segData t b => Sys2Proof.Machine.execSegData t b s
  | .segClose t b => Sys2Proof.Machine.execSegClose t b s
  | .segAbandon t b => Sys2Proof.Machine.execSegAbandon t b s
  | .segFree t b => Sys2Proof.Machine.execSegFree t b s
  | .segQuery t b => Sys2Proof.Machine.execSegQuery t b s
  | .schedAppend t b => Sys2Proof.Machine.execSchedAppend t b s
  | .schedTruncate t b => Sys2Proof.Machine.execSchedTruncate t b s
  | .schedClear t b => Sys2Proof.Machine.execSchedClear t b s
  | .schedRead t b => Sys2Proof.Machine.execSchedRead t b s
  | .runStart t b => Sys2Proof.Machine.execRunStart t b s
  | .runPause t b => Sys2Proof.Machine.execRunPause t b s
  | .runResume t b => Sys2Proof.Machine.execRunResume t b s
  | .runStop t b => Sys2Proof.Machine.execRunStop t b s
  | .runUnload t b => Sys2Proof.Machine.execRunUnload t b s
  | .pressureOn t b => Sys2Proof.Machine.execPressureOn t b s
  | .pressureOff t b => Sys2Proof.Machine.execPressureOff t b s
  | .holdOut t b => Sys2Proof.Machine.execHoldOut t b s
  | .restore t b => Sys2Proof.Machine.execRestore t b s
  | .clearFaults t b => Sys2Proof.Machine.execClearFaults t b s
  | .faultsRead t b => Sys2Proof.Machine.execFaultsRead t b s
  | .captureList t b => Sys2Proof.Machine.execCaptureList t b s
  | .captureRead t b => Sys2Proof.Machine.execCaptureRead t b s
  | .captureFree t b => Sys2Proof.Machine.execCaptureFree t b s
  | .summaryRead t b => Sys2Proof.Machine.execSummaryRead t b s
  | .heartbeat t b => Sys2Proof.Machine.execHeartbeat t b s
  | .frameMarker => Sys2Proof.Machine.execFrameMarker s
  | .supplyLoss => Sys2Proof.Machine.execSupplyLoss s

end Sys2Proof.Machine
end

