-- ==== Sys2Proof/Safety.lean ====
section
/-! DEFINITION. What counts as a safe state of the device, in the manual's own laws, and the terms the statements are
written in: the control link after a request is taken or answered, which commands are requests. -/

namespace Sys2Proof.Machine

/-! ## The terms of the statements -/

/-- R194: the device takes frames and its interface is free. -/
def linkFree (s : State) : Bool := isUp s && !occupied s

/-- R193, R194: the link once a request is taken, with what it still has to do. -/
def taken (s : State) (kind tag : Byte) (job : LinkJob) : ControlLink :=
  { s.link with assembly := .hunting, collected := [], inHand := some { kind := kind, tag := tag, job := job } }

/-- R193: the link once a request is taken and its reply formed. -/
def answered (s : State) (kind tag : Byte) (status : Status) (body : ReplyBody) : ControlLink :=
  { taken s kind tag .answered with reply := some { kind := kind, tag := tag, status := status, body := body } }

/-- R194: the link once a complete request has found the interface occupied. -/
def busied (s : State) (kind tag : Byte) : ControlLink :=
  if s.link.busy.length < 8 then
    { s.link with assembly := .hunting, collected := [], busy := s.link.busy ++ [(kind, tag)] }
  else { s.link with assembly := .hunting, collected := [], badFrames := satInc s.link.badFrames }

/-- R195: the kind, tag and body of a command that is a request of the catalogue; none for every other command. -/
def requestOf : Instr → Option (Byte × Byte × List Byte)
  | .identify t b => some (0x01, t, b)
  | .status t b => some (0x02, t, b)
  | .eventsRead t b => some (0x03, t, b)
  | .reset t b => some (0x04, t, b)
  | .configWrite t b => some (0x10, t, b)
  | .configRead t b => some (0x11, t, b)
  | .configCommit t b => some (0x12, t, b)
  | .configSave t b => some (0x13, t, b)
  | .segOpen t b => some (0x20, t, b)
  | .segOpenReplace t b => some (0x20, t, b)
  | .segData t b => some (0x21, t, b)
  | .segClose t b => some (0x22, t, b)
  | .segAbandon t b => some (0x23, t, b)
  | .segFree t b => some (0x24, t, b)
  | .segQuery t b => some (0x25, t, b)
  | .schedAppend t b => some (0x30, t, b)
  | .schedTruncate t b => some (0x31, t, b)
  | .schedClear t b => some (0x32, t, b)
  | .schedRead t b => some (0x33, t, b)
  | .runStart t b => some (0x40, t, b)
  | .runPause t b => some (0x41, t, b)
  | .runResume t b => some (0x42, t, b)
  | .runStop t b => some (0x43, t, b)
  | .runUnload t b => some (0x44, t, b)
  | .pressureOn t b => some (0x45, t, b)
  | .pressureOff t b => some (0x46, t, b)
  | .holdOut t b => some (0x47, t, b)
  | .restore t b => some (0x48, t, b)
  | .clearFaults t b => some (0x50, t, b)
  | .faultsRead t b => some (0x51, t, b)
  | .captureList t b => some (0x60, t, b)
  | .captureRead t b => some (0x61, t, b)
  | .captureFree t b => some (0x62, t, b)
  | .summaryRead t b => some (0x63, t, b)
  | .heartbeat t b => some (0x70, t, b)
  | .powerOn => none
  | .resetNLow => none
  | .resetNHigh => none
  | .startUpEnd => none
  | .frameBoundary _ => none
  | .responseFrame _ _ => none
  | .permitLineChange => none
  | .permitFilterExpiry => none
  | .heartbeatWindowOpen => none
  | .heartbeatPeriodExpiry => none
  | .readyGraceExpiry => none
  | .unloadDelayExpiry => none
  | .stoppedUnloadDelayExpiry => none
  | .configTimerExpiry => none
  | .configSaveEnd _ => none
  | .memoryRead _ => none
  | .wholeWordWrite => none
  | .partialWordWrite _ => none
  | .scrub _ => none
  | .requestFrameDiscarded _ _ => none
  | .controlByteGap => none
  | .unknownRequest _ _ _ => none
  | .busyRequest _ _ => none
  | .replySent => none
  | .frameMarker => none
  | .supplyLoss => none

/-- R182, R167: the configuration store from the beginning of a reset until start-up ends; the cut-short bytes are the
free value of log entry 10. -/
def configAtReset (s : State) : ConfigStore :=
  { s.config with
    mode := .idle, timer := none, active := none, save := none
    stored :=
      if s.config.save.isSome then { bytes := Config.cutShortImage s.freeTick, crc := none, valid := false }
      else s.config.stored }

/-- The free-value counter after a reset: one value more is used if a save was cut short (log entry 10). -/
def tickAtReset (s : State) : Nat := if s.config.save.isSome then s.freeTick + 1 else s.freeTick

/-- R183: the PERMIT input from the beginning of a reset. -/
def permitAtReset (s : State) : Permit :=
  { raw := s.permit.raw, filtered := .low, timer := decide (s.permit.raw = .high) }

/-- R8, R165: the device from the beginning of a power-on reset, in this state of life. -/
def powerOnOf (life : Life) (s : State) : State :=
  { State.reset with
    life := life, resetN := s.resetN, cause := .power, permit := permitAtReset s, config := configAtReset s,
    freeTick := tickAtReset s, pending := s.pending }

/-- R9, R41, R163, R165: `t` is the device `s` from the beginning of a warm reset: everything as after power-on but for
the store, the segments and the capture records, and the pool rebuilt from what they own. -/
def WarmResetOf (cause : ResetCause) (life : Life) (line : Level) (s t : State) : Prop :=
  t = { powerOnOf life s with
        resetN := line, cause := cause, store := completeInStore s, segments := t.segments, capture := t.capture,
        pool := (List.range 512).filter (fun p => !(ownedPages t.segments t.capture.slots).contains p) } ∧
  (∀ id, id < 64 →
    match (descriptor s id).state, (descriptor s id).repl with
    | .ready, none | .damaged, none => descriptor t id = { descriptor s id with inPlay := false }
    | .ready, some r | .damaged, some r =>
      descriptor t id =
        if r.state = .ready then
          { state := .ready, data := r.data, doubleErrors := 0, inPlay := false, repl := none }
        else { descriptor s id with inPlay := false, repl := none }
    | _, _ => descriptor t id = .blank) ∧
  t.capture.current = none ∧ t.capture.ops = [] ∧ t.capture.writing = none ∧ t.capture.closing = false ∧
  ∀ i, i < 32 →
    match slot s i with
    | none => slot t i = none
    | some r =>
      slot t i = some
        (match r.state with
         | .filling => { r with state := .truncated, endedEarly := true }
         | .truncated => { r with endedEarly := r.endedEarly || decide (s.capture.current = some i) }
         | .complete => r)

/-- R12, R151: the next boundary waits for no memory operation: no write of a capture frame is in hand and no read of the
play in progress is due (what it would wait for completes first: log entry 4). -/
def nothingDue (s : State) : Prop :=
  s.capture.ops = [] ∧
    ∀ p, s.pipeline.params = some (.play p) → s.sequencer.fetch.dueWord ≤ s.sequencer.fetch.nextWord

/-- R118, R120: the next boundary closes no window as a miss. -/
def closesNoMiss (s : State) : Prop := ∀ w, s.rig.window = some w → w.good = true

/-! ## The laws of a state -/

/-- R161, R194, R199: the queues keep within their capacities, and the store is in its canonical form. -/
def queuesBounded (s : State) : Bool :=
  decide (s.events.records.length ≤ Config.maxEvents) && decide (s.summaries.queue.length ≤ Config.maxSummaries) &&
    decide (s.link.busy.length ≤ Config.maxBusy)

/-- R107: PRESSURE_REQ is asserted only while the device is in ACTIVE mode, PERMIT is high and no TRIP-class fault is
held. -/
def pressureLaw (s : State) : Bool :=
  decide (s.run.pressure = .high → s.config.mode = .active ∧ s.permit.filtered = .high ∧ tripHeld s = false)

/-- R140: FAULT_N is low exactly while a LATCHED source of class PAUSE, STOP or TRIP is held. -/
def faultLineLaw (s : State) : Bool := decide (s.faults.faultN = faultLine s.faults.entries)

/-- R138: the effective action stands as the active sources form it. -/
def actionLaw (s : State) : Bool := decide (s.faults.action = effectiveAction s.faults.entries)

/-- R139: a fault source is in the pause-reason set exactly while it is active with class PAUSE. -/
def pauseSetLaw (s : State) : Bool :=
  (List.range 38).all (fun k =>
    decide (k ∈ s.run.sources ↔ (source s k).active = true ∧ (source s k).cls = .pause))

/-- R167, R169, R178: there is an active image exactly in ACTIVE, and the configuration timer runs exactly in CONFIG. -/
def modeLaw (s : State) : Bool :=
  decide (s.config.mode = .active ↔ s.config.active.isSome = true) &&
    decide (s.config.mode = .config ↔ s.config.timer.isSome = true)

/-- R107, R133, R166: what the pressure law rests on: PERMIT's class is TRIP, and a device that is not up holds no
pressure. -/
def pressureGround (s : State) : Bool :=
  decide ((source s 37).cls = .trip) && decide (s.life ≠ .up → s.run.pressure = .low)

/-- R45: the entry at index `r` is one that SCHED_APPEND admits, and a REPEAT's remaining counter lies between 0 and its
count minus one. -/
def entryLawful (r : Nat) : Entry → Bool
  | .play p =>
    decide (p.seg ≤ 63) && (match p.range with
      | none => true
      | some (a, b) => decide (a ≤ b) && decide (b ≤ 1048575))
  | .dwell d => decide (1 ≤ d) && decide (d ≤ 16777215)
  | .rep j c m => decide (j < r) && decide (1 ≤ c) && decide (c ≤ 65535) && decide (m ≤ c - 1)
  | .mark _ => true

/-- R42, R45: at most 256 entries, each lawful at its index. -/
def scheduleLaw (es : List Entry) : Bool :=
  decide (es.length ≤ 256) && (List.range es.length).all (fun r =>
    match es[r]? with
    | some e => entryLawful r e
    | none => true)

/-- R177, R77: Lo does not exceed M or Pk, and neither exceeds Hi. -/
def limitsLawful (r : ChannelRec) : Bool :=
  decide (r.lo.toInt ≤ r.mean.toInt) && decide (r.mean.toInt ≤ r.hi.toInt) && decide (r.lo.toInt ≤ r.park.toInt) &&
    decide (r.park.toInt ≤ r.hi.toInt)

/-- R77, R80: in ACTIVE every previous setpoint lies within its channel's limits and the taper counter within 0 and Nt;
outside ACTIVE there is no previous setpoint and the counter is 0. -/
def setpointLaw (s : State) : Prop :=
  match s.config.active with
  | none => s.config.mode ≠ .active ∧ s.pipeline.taper = 0 ∧
      ∀ c, c < 16 → (tget s.pipeline.channels c).previous = none
  | some g => s.config.mode = .active ∧ s.life = .up ∧ s.pipeline.taper ≤ g.general.nt.toNat ∧
      ∀ c, c < 16 → limitsLawful (tget g.channels c) = true ∧
        ∀ y, (tget s.pipeline.channels c).previous = some y →
          (tget g.channels c).lo.toInt ≤ y ∧ y ≤ (tget g.channels c).hi.toInt

/-- R106, R166: only a device that is up is in ACTIVE; in FROZEN it is in ACTIVE, PRESSURE_REQ is low, both timers are
IDLE, the taper counter is 0 and the sequencer stands in IDLE with no entry. -/
def frozenLaw (s : State) : Bool :=
  decide (s.config.mode = .active → s.life = .up) &&
  decide (s.run.state = .frozen →
    s.config.mode = .active ∧ s.run.pressure = .low ∧ s.run.grace = .idle ∧ s.run.unload = .idle ∧
      s.pipeline.taper = 0 ∧ s.sequencer.phase = .idle ∧ s.sequencer.joinPending = false ∧ s.pipeline.params = none)

/-- R104, R138: while the effective action is TRIP the run is FROZEN. -/
def tripLaw (s : State) : Bool := decide (s.faults.action = some .trip → s.run.state = .frozen)

/-- R52, R67, R69, R88, R102, R166: only a device that is up is in ACTIVE, and outside ACTIVE the run is STOPPED; entry
parameters stand exactly in IN_ENTRY, and an entry in force, or a joined successor still to begin, only in RUNNING, PAUSING
and PAUSED; the unload delay of UNLOADING counts only there. -/
def sequencerLaw (s : State) : Bool :=
  decide (s.config.mode = .active → s.life = .up) &&
    decide (s.run.state ≠ .stopped → s.config.mode = .active) &&
    decide (s.pipeline.params.isSome = true ↔ s.sequencer.phase = .inEntry) &&
    decide (s.sequencer.phase = .inEntry ∨ s.sequencer.joinPending = true →
      s.run.state = .running ∨ s.run.state = .pausing ∨ s.run.state = .paused) &&
    decide (s.sequencer.joinPending = true → s.sequencer.phase ≠ .inEntry) &&
    decide (s.run.unload = .inUnloading → s.run.state = .unloading)

/-- R148: a capture record's values fit its pages, and so will those of the capture frame in hand. -/
def captureLaw (s : State) : Prop :=
  ∀ i r, i < 32 → slot s i = some r →
    r.frames * r.count ≤ Config.pageSamples * r.pages.length ∧ r.count ≤ 32 ∧ 1 ≤ r.pages.length ∧
      (s.capture.writing = some i → s.capture.ops ≠ [] →
        (r.frames + 1) * r.count ≤ Config.pageSamples * r.pages.length)

/-- R22, R23, R29: what the law of pages rests on: an EMPTY descriptor holds no pages, only a READY or DAMAGED one has a
replacement, and the verification queue lists VERIFYING targets without duplicates. -/
def segmentLaw (s : State) : Prop :=
  (∀ id, id < 64 → ((descriptor s id).state = .empty → (descriptor s id).data.pages = []) ∧
    ((descriptor s id).repl ≠ none → (descriptor s id).state = .ready ∨ (descriptor s id).state = .damaged)) ∧
  s.verifier.queue.Nodup ∧
  ∀ t, t ∈ s.verifier.queue → t.seg < 64 ∧
    (t.repl = false → (descriptor s t.seg).state = .verifying) ∧
    (t.repl = true → ∃ r, (descriptor s t.seg).repl = some r ∧ r.state = .verifying)

/-- R6: every page is in exactly one place: the pool, or the page list of one descriptor, replacement or capture
record; and the pool is in ascending order. -/
def pageLaw (s : State) : Prop :=
  s.pool.Pairwise (· < ·) ∧ (s.pool ++ ownedPages s.segments s.capture.slots).Perm (List.range 512)

end Sys2Proof.Machine
end

