-- ==== Sys2Proof/WellFormed.lean ====
section
/-! DEFINITION. Which commands are well formed: the limits the manual's layouts put on a command's operands before
any state is looked at. A meaning is total without them. -/

namespace Sys2Proof

/-- R192: a frame whose body length is above 1,040 is discarded, so no complete request has a longer body. -/
def bodyFits (body : List Byte) : Bool := body.length ≤ 1040

/-- R195: the kind codes of the catalogue. -/
def requestKinds : List Byte :=
  [0x01, 0x02, 0x03, 0x04, 0x10, 0x11, 0x12, 0x13, 0x20, 0x21, 0x22, 0x23, 0x24, 0x25, 0x30, 0x31, 0x32, 0x33,
   0x40, 0x41, 0x42, 0x43, 0x44, 0x45, 0x46, 0x47, 0x48, 0x50, 0x51, 0x60, 0x61, 0x62, 0x63, 0x70]

/-- R195: bit 0 of byte 8 of a SEG_OPEN body is the replace flag (a body too short to hold it has none). -/
def replaceFlag (body : List Byte) : Bool := (body.getD 8 0).getLsbD 0

/-- A command whose operands the manual's layouts admit. -/
def Instr.wellFormed : Instr → Bool
  | .powerOn => true
  | .resetNLow => true
  | .resetNHigh => true
  | .startUpEnd => true
  | .frameBoundary _ => true
  | .responseFrame bytes lowStop => decide (∀ i ∈ lowStop, i < bytes.length)
  | .permitLineChange => true
  | .permitFilterExpiry => true
  | .heartbeatWindowOpen => true
  | .heartbeatPeriodExpiry => true
  | .readyGraceExpiry => true
  | .unloadDelayExpiry => true
  | .stoppedUnloadDelayExpiry => true
  | .configTimerExpiry => true
  | .configSaveEnd readBack => decide (readBack.length = 533)
  | .memoryRead _ => true
  | .wholeWordWrite => true
  | .partialWordWrite _ => true
  | .scrub _ => true
  | .requestFrameDiscarded bytes lowStop => decide (∀ i ∈ lowStop, i < bytes.length)
  | .controlByteGap => true
  | .unknownRequest kind _ body => bodyFits body && !requestKinds.contains kind
  | .busyRequest _ _ => true
  | .replySent => true
  | .identify _ body => bodyFits body
  | .status _ body => bodyFits body
  | .eventsRead _ body => bodyFits body
  | .reset _ body => bodyFits body
  | .configWrite _ body => bodyFits body
  | .configRead _ body => bodyFits body
  | .configCommit _ body => bodyFits body
  | .configSave _ body => bodyFits body
  | .segOpen _ body => bodyFits body && !replaceFlag body
  | .segOpenReplace _ body => bodyFits body && replaceFlag body
  | .segData _ body => bodyFits body
  | .segClose _ body => bodyFits body
  | .segAbandon _ body => bodyFits body
  | .segFree _ body => bodyFits body
  | .segQuery _ body => bodyFits body
  | .schedAppend _ body => bodyFits body
  | .schedTruncate _ body => bodyFits body
  | .schedClear _ body => bodyFits body
  | .schedRead _ body => bodyFits body
  | .runStart _ body => bodyFits body
  | .runPause _ body => bodyFits body
  | .runResume _ body => bodyFits body
  | .runStop _ body => bodyFits body
  | .runUnload _ body => bodyFits body
  | .pressureOn _ body => bodyFits body
  | .pressureOff _ body => bodyFits body
  | .holdOut _ body => bodyFits body
  | .restore _ body => bodyFits body
  | .clearFaults _ body => bodyFits body
  | .faultsRead _ body => bodyFits body
  | .captureList _ body => bodyFits body
  | .captureRead _ body => bodyFits body
  | .captureFree _ body => bodyFits body
  | .summaryRead _ body => bodyFits body
  | .heartbeat _ body => bodyFits body
  | .frameMarker => true
  | .supplyLoss => true

end Sys2Proof
end

