-- ==== Sys2Proof/Certificates/Slice0/Obligations.lean ====
section
/-! DEFINITION. The statements for the provers. `settle` is the arbiter's work after a command (R10): the requestors
present and, when the store is free, the waiting request of highest priority is granted. `answered`, `taken` and
`busied` (Safety.lean) are the control link after a request. -/

section Statements
open Sys2Proof Sys2Proof.Machine

/-! ## The queue of commands -/

/-- 95_what_each_step_holds.md: a command is carried out whole. Step runs the command at the front of the queue on the
state with the queue's rest; that an empty queue idles is the model's choice (log entry 17). -/
def Obligations.StepTakesFrontCommand : Prop :=
  (∀ (c : Instr) (rest : List Instr) (s : State),
    s.pending = c :: rest → step s = exec c { s with pending := rest }) ∧
  ∀ s : State, s.pending = [] → step s = .next s

/-! ## Resets and the supply (chapter 9) -/

/-- R8, R41, R66, R67, R88, R125, R147, R163, R164, R167, R183, R186, R192, R199: the values the spec states for the
reset state; and that state satisfies every law stated below of what commands keep.
(`State.reset` is the device with its start-up ended: log entry 1.) -/
def Obligations.ResetLeavesStatedValues : Prop :=
  let s := State.reset
  (∀ p, sampleAt s.store p = 0) ∧ (∀ w, markOf s.store w = .clean) ∧ s.store.corrected = 0 ∧
  s.pool = List.range 512 ∧ s.arbiter = .free ∧ s.sweep = { page := 0, word := 0 } ∧
  (∀ id, id < 64 → (descriptor s id).state = .empty ∧ (descriptor s id).repl = none) ∧ s.verifier.queue = [] ∧
  s.schedule = [] ∧ s.sequencer.cursor = 0 ∧ s.sequencer.phase = .idle ∧ s.sequencer.position = 0 ∧
  s.sequencer.lookahead = none ∧
  (∀ c, c < 16 → (tget s.pipeline.channels c).previous = none) ∧ s.pipeline.taper = 0 ∧ s.pipeline.params = none ∧
  s.pipeline.continuation = false ∧ s.pipeline.stopTaper = false ∧
  s.run.state = .stopped ∧ pauseSet s = [] ∧ s.run.holdOut = [] ∧ s.run.grace = .idle ∧ s.run.unload = .idle ∧
  s.run.pressure = .low ∧
  s.timebase.counter = 0 ∧ s.timebase.rate = 0 ∧ (∀ c, c < 32 → tget s.rig.feedback c = 0) ∧ s.rig.ready = 0 ∧
  s.rig.misses = 0 ∧ s.rig.window = none ∧
  (∀ k, k < 32 → (tget s.monitors k).tripped = false ∧ (tget s.monitors k).outside = 0 ∧
    (tget s.monitors k).inside = 0) ∧
  (∀ k, k < 38 → (source s k).active = false) ∧ s.faults.action = none ∧ s.faults.faultN = .high ∧
  (∀ i, i < 32 → slot s i = none) ∧ s.capture.current = none ∧
  s.summaries.ordinal = 0 ∧ s.summaries.opened = none ∧ s.summaries.queue = [] ∧ s.summaries.discards = 0 ∧
  s.config.mode = .idle ∧ s.config.timer = none ∧ s.config.active = none ∧ s.config.pending = factoryImage ∧
  s.config.origin = .factory ∧ s.config.save = none ∧
  s.permit.filtered = .low ∧ s.permit.timer = false ∧ s.supervisor.running = false ∧ s.supervisor.loop = 0 ∧
  s.link.assembly = .hunting ∧ s.link.badFrames = 0 ∧ occupied s = false ∧
  s.events.records = [] ∧ s.events.discards = 0 ∧ s.events.nextSeq = 0 ∧ attn s = .low ∧
  faultLineLaw s = true ∧ actionLaw s = true ∧ pauseSetLaw s = true ∧ pressureLaw s = true ∧ pressureGround s = true ∧
  scheduleLaw s.schedule = true ∧ queuesBounded s = true ∧ modeLaw s = true ∧ s.store.wf = true ∧ setpointLaw s ∧
  captureLaw s ∧ segmentLaw s ∧ pageLaw s ∧ frozenLaw s = true ∧ tripLaw s = true ∧ sequencerLaw s = true

/-- R8, R165, R182, R107: POWER_ON begins a power-on start-up, or is held while RESET_N is low, with every block
cleared; the stored image survives, cut short if a save was running. When the supply falls the device stops and
PRESSURE_REQ is low.
(The model's choices: a fall of the supply without supply changes nothing, log entry 2; the volatile state shown as
its reset state without supply, log entry 16; the bytes and the free value of a save cut short, log entry 10; the mode
IDLE from a reset's beginning on, log entry 23; the monitors' factory records and the sources' classes and latching at
reset, log entry 7.) -/
def Obligations.PowerOnClearsSupplyLossStops : Prop :=
  (∀ s : State,
    exec .powerOn s = .next (powerOnOf (if s.resetN = .low then .held .powerOn else .startUp .powerOn) s)) ∧
  ((∀ s : State, s.life ≠ .off →
    exec .supplyLoss s = .next
      { powerOnOf .off s with
        cause := s.cause, store := s.store, pool := s.pool, segments := s.segments, capture := s.capture,
        permit := { raw := s.permit.raw, filtered := .low, timer := false } }) ∧
  ∀ s : State, s.life = .off → exec .supplyLoss s = .next s)

/-- R9, R41, R163, R165: RESET_N_LOW begins a warm reset with cause LINE and holds the device; one that cuts a
power-on start-up begins that again; one without supply, or on a line already low, changes at most the line. R166,
R167: RESET_N_HIGH begins the start-up that the line held; START_UP_END brings the device up in IDLE, the stored image
pending if its CRC agrees and the factory image otherwise, and the arbiter takes up its work.
(The model's choices: a line that has the level already, and a start-up's end outside start-up, change nothing but the
line, log entry 2; the bytes of a save cut short, log entry 10; the monitor records and classes at reset, log entry 7;
the mode IDLE from the reset's beginning on, log entry 23; ended-early on a TRUNCATED record of the play that the
reset ends, log entry 35; no new disturbance found by the operation that the reset completes, log entry 42.) -/
def Obligations.ResetLineAndStartUp : Prop :=
  ((∀ s : State, s.resetN = .high → (s.life = .up ∨ s.life = .startUp .warm ∨ s.life = .held .warm) →
    ∃ t, exec .resetNLow s = .next t ∧ WarmResetOf .line (.held .warm) .low s t) ∧
  (∀ s : State, s.resetN = .high → (s.life = .startUp .powerOn ∨ s.life = .held .powerOn) →
    exec .resetNLow s = .next { powerOnOf (.held .powerOn) s with resetN := .low, cause := s.cause }) ∧
  (∀ s : State, s.resetN = .high → s.life = .off → exec .resetNLow s = .next { s with resetN := .low }) ∧
  ∀ s : State, s.resetN = .low → exec .resetNLow s = .next s) ∧
  ((∀ (k : ResetKind) (s : State), s.life = .held k →
    exec .resetNHigh s = .next { s with resetN := .high, life := .startUp k }) ∧
  (∀ s : State, (∀ k, s.life ≠ .held k) → exec .resetNHigh s = .next { s with resetN := .high }) ∧
  (∀ (k : ResetKind) (s : State), s.life = .startUp k →
    let good := decide (s.config.stored.crc = some (crc16 s.config.stored.bytes))
    exec .startUpEnd s = .next (settle
      { s with
        life := .up
        config :=
          { mode := .idle, timer := none, active := none, save := none
            stored := { s.config.stored with valid := good }
            pending := if good then imageOfBytes s.config.stored.bytes else factoryImage
            origin := if good then .stored else .factory } })) ∧
  ∀ s : State, (∀ k, s.life ≠ .startUp k) → exec .startUpEnd s = .next s)

/-! ## The control link (chapter 11) -/

/-- R192, R194, R166: a marker begins a frame while HUNTING; in ASSEMBLING the bytes of the frame join those
collected, and an oversize length, a framing error, a bad CRC or a byte gap discards it, returns the assembly to
HUNTING and raises the bad-frame count by one, which stops at 65,535. A request frame is 7 to 1,047 bytes and a reply
frame 8 to 1,048, each with the CRC-16 of what follows its marker; a frame so laid out does not fail, one with another
CRC, a length above 1,040 or a low stop bit among its bytes does. A complete request that finds the interface occupied
is answered BUSY, or discarded and counted when 8 BUSY answers are owed, and nothing else changes but what the arbiter
may grant meanwhile; one longer than a frame can carry is discarded. While the device is not up no request is taken
and none is answered.
(While the device is not up the three framing commands change nothing, nor do frame bytes while HUNTING: log entry 2.
An oversize body, and bytes that are a request's whole frame, are log entry 18's.) -/
def Obligations.FramesAreJudgedAndCounted : Prop :=
  let discarded (s : State) : State :=
    { s with link := { s.link with
        assembly := .hunting
        collected := []
        badFrames := if s.link.badFrames = 65535 then 65535 else s.link.badFrames + 1 } }
  ((∀ s : State, s.life = .up → s.link.assembly = .hunting →
    exec .frameMarker s = .next { s with link := { s.link with assembly := .assembling, collected := [] } }) ∧
  (∀ (bytes : List Byte) (low : Option Nat) (s : State), s.life = .up → s.link.assembly = .assembling →
    let all := s.link.collected ++ bytes
    let fails : Bool := frameFails all (low.map (fun i => s.link.collected.length + i))
    let whole : Prop := 4 ≤ all.length ∧ 6 + (le16At all 2).toNat ≤ all.length
    (fails = true → exec (.requestFrameDiscarded bytes low) s = .next (discarded s)) ∧
    (fails = false → ¬ whole →
      exec (.requestFrameDiscarded bytes low) s = .next { s with link := { s.link with collected := all } }) ∧
    (fails = false → whole → exec (.requestFrameDiscarded bytes low) s = .next s)) ∧
  (∀ (bytes : List Byte) (low : Option Nat) (s : State), s.link.assembly = .hunting →
    exec (.requestFrameDiscarded bytes low) s = .next s) ∧
  (∀ s : State, s.life = .up → s.link.assembly = .assembling → exec .controlByteGap s = .next (discarded s)) ∧
  ∀ (bytes : List Byte) (low : Option Nat) (s : State), s.life ≠ .up →
    exec .frameMarker s = .next s ∧ exec (.requestFrameDiscarded bytes low) s = .next s ∧
      exec .controlByteGap s = .next s) ∧
  (∀ (kind tag : Byte) (status : Status) (crc : BitVec 16) (body : List Byte), body.length ≤ 1040 →
    let head : List Byte := [kind, tag] ++ le16 (BitVec.ofNat 16 body.length) ++ body
    requestFrame kind tag body = 0xA7 :: (head ++ le16 (crc16 head)) ∧
    (requestFrame kind tag body).length = 7 + body.length ∧
    (replyFrame kind tag status body).length = 8 + body.length ∧
    (frameFails (head ++ le16 crc) none = true ↔ crc ≠ crc16 head)) ∧
  (∀ (kind tag : Byte) (n : BitVec 16) (rest bytes : List Byte) (low : Option Nat) (i : Nat),
    (1040 < n.toNat → frameFails ([kind, tag] ++ le16 n ++ rest) low = true) ∧
    (i < frameEnd bytes → frameFails bytes (some i) = true)) ∧
  (∀ (c : Instr) (kind tag : Byte) (body : List Byte) (s : State), requestOf c = some (kind, tag, body) →
    (s.life = .up → (occupied s = true ∨ 1040 < body.length) →
      ∃ t, exec c s = .next t ∧
        t = { (if 1040 < body.length then discarded s else { s with link := busied s kind tag }) with
              arbiter := t.arbiter, sweep := t.sweep }) ∧
    (s.life ≠ .up → exec c s = .next s)) ∧
  ∀ (kind tag : Byte) (s : State),
    (s.life = .up → occupied s = true →
      exec (.busyRequest kind tag) s = .next { s with link := busied s kind tag }) ∧
    (s.life ≠ .up → exec (.busyRequest kind tag) s = .next s)

/-- R193, R89, R25, R47, R172, R195: a request whose kind is not in the catalogue is answered UNKNOWN, and one whose
body length does not fit its kind BAD_LENGTH, in every mode and run state; neither changes anything else. A run
request's reply carries the run block; a configuration request is answered BAD_LENGTH outside LOCKED.
(The time left that a running configuration timer shows is the free value of log entry 9.) -/
def Obligations.UnfitRequestsChangeNothing : Prop :=
  ∀ (tag : Byte) (body : List Byte) (s : State), linkFree s = true → body.length ≤ 1040 →
    let bad (c : Instr) (kind : Byte) : Prop := exec c s = .next { s with link := answered s kind tag .badLength .empty }
    let badSettled (c : Instr) (kind : Byte) : Prop :=
      exec c s = .next (settle { s with link := answered s kind tag .badLength .empty })
    let badRun (c : Instr) (kind : Byte) : Prop :=
      exec c s = .next { s with link := answered s kind tag .badLength (.run (runBlock s)) }
    let badRunSettled (c : Instr) (kind : Byte) : Prop :=
      exec c s = .next (settle { s with link := answered s kind tag .badLength (.run (runBlock s)) })
    let badConfig (c : Instr) (kind : Byte) : Prop := s.config.mode ≠ .locked →
      (s.config.timer = none →
        exec c s = .next { s with link := answered s kind tag .badLength (.config (configBlock s) .nothing) }) ∧
      ∀ r, s.config.timer = some r → ∃ left, left ≤ r ∧
        exec c s = .next
          { s with
            config := { s.config with timer := some left }, freeTick := s.freeTick + 1
            link := answered s kind tag .badLength (.config
              { mode := s.config.mode, remaining := left, storedValid := s.config.stored.valid,
                saving := s.config.save.isSome, origin := s.config.origin } .nothing) }
    (∀ kind : Byte, kind ∉ requestKinds →
      exec (.unknownRequest kind tag body) s = .next { s with link := answered s kind tag .unknown .empty }) ∧
    (body.length ≠ 0 →
      bad (.identify tag body) 0x01 ∧ bad (.status tag body) 0x02 ∧ bad (.reset tag body) 0x04 ∧
      bad (.schedClear tag body) 0x32 ∧ bad (.faultsRead tag body) 0x51 ∧ bad (.captureList tag body) 0x60 ∧
      bad (.summaryRead tag body) 0x63 ∧ badSettled (.clearFaults tag body) 0x50 ∧
      badSettled (.heartbeat tag body) 0x70 ∧ badConfig (.configSave tag body) 0x13 ∧
      badRunSettled (.runPause tag body) 0x41 ∧ badRunSettled (.runResume tag body) 0x42 ∧
      badRunSettled (.runStop tag body) 0x43 ∧ badRunSettled (.runUnload tag body) 0x44 ∧
      badRun (.pressureOn tag body) 0x45 ∧ badRun (.pressureOff tag body) 0x46) ∧
    (body.length ≠ 1 →
      bad (.eventsRead tag body) 0x03 ∧ badSettled (.segAbandon tag body) 0x23 ∧ badSettled (.segFree tag body) 0x24 ∧
      bad (.segQuery tag body) 0x25 ∧ badRun (.holdOut tag body) 0x47 ∧ badRun (.restore tag body) 0x48 ∧
      badSettled (.captureFree tag body) 0x62) ∧
    (body.length ≠ 2 →
      badSettled (.schedTruncate tag body) 0x31 ∧ badRun (.runStart tag body) 0x40 ∧
      badConfig (.configCommit tag body) 0x12) ∧
    (body.length ≠ 3 → bad (.schedRead tag body) 0x33 ∧ badConfig (.configRead tag body) 0x11) ∧
    (body.length ≠ 5 → badSettled (.segClose tag body) 0x22) ∧
    (body.length ≠ 7 → badSettled (.captureRead tag body) 0x61) ∧
    (body.length ≠ 9 → badSettled (.segOpen tag body) 0x20 ∧ badSettled (.segOpenReplace tag body) 0x20) ∧
    ((body.length < 7 ∨ 1029 < body.length ∨ body.length % 2 = 0) → badSettled (.segData tag body) 0x21) ∧
    ((body.length < 16 ∨ 128 < body.length ∨ body.length % 16 ≠ 0) → badSettled (.schedAppend tag body) 0x30) ∧
    ((∀ n, recordLength (byteAt body 0) = some n → body.length ≠ 2 + n) → badConfig (.configWrite tag body) 0x10)

/-- R194, R198: the replies owed leave one by one, that of the request in hand before the BUSY answers; the last that
leaves sets the interface free. No BUSY answer leaves before the reply in hand is formed. RESET is answered OK and
stays in hand until its reply is sent; then a warm reset with cause REQUEST begins, its start-up running, and the BUSY
answers still owed are not sent.
(That each reply's end is one REPLY_SENT is log entry 21, and that one changes nothing while the device is not up or
with nothing owed log entry 2's. The reset's clause rests on the model's choices of log entries 7, 10, 23, 35 and 42.) -/
def Obligations.ReplySentFreesOrResets : Prop :=
  ((∀ (s : State), s.life = .up → s.link.reply ≠ none →
    (∀ h, s.link.inHand = some h → h.job ≠ .resetAfter) →
    ∃ t, exec .replySent s = .next t ∧ t = { s with link := { s.link with inHand := none, reply := none } } ∧
      (linkFree t = true ↔ s.link.busy = [])) ∧
  (∀ (s : State), s.life = .up → s.link.inHand = none → s.link.reply = none →
    ∃ t, exec .replySent s = .next t ∧ t = { s with link := { s.link with busy := s.link.busy.drop 1 } } ∧
      (linkFree t = true ↔ s.link.busy.length ≤ 1)) ∧
  (∀ s : State, (s.life ≠ .up ∨ (s.link.inHand ≠ none ∧ s.link.reply = none)) → exec .replySent s = .next s) ∧
  ∀ (s : State) (h : InHand), s.life = .up → s.link.inHand = some h → h.job = .resetAfter → s.link.reply ≠ none →
    ∃ t, exec .replySent s = .next t ∧ WarmResetOf .request (.startUp .warm) s.resetN s t) ∧
  (∀ (tag : Byte) (s : State), linkFree s = true →
    exec (.reset tag []) s = .next
      { s with link := { taken s 0x04 tag .resetAfter with
          reply := some { kind := 0x04, tag := tag, status := .ok, body := .empty } } })

/-- R197: STATUS is taken with nothing latched; the first boundary after it latches a snapshot and forms the OK reply,
and the setpoint frame sent at that boundary carries the snapshot's own counter, run state, pressure, enabled flags
and setpoints. The other fields are those that stand at the boundary: the mode, the reset cause by its code, the
filtered PERMIT level, the feedback, the loop counter and the bad-frame count; and, at a boundary that closes no
missed window and waits for no memory operation, the sequencer's, the run's and the fault table's, the frame's taper
counter, and the counts of the store and the queues. The setpoints are those of the channels enabled in the active
image, each as the pipeline formed it at that boundary. -/
def Obligations.StatusSnapshotMatchesFrame : Prop :=
  (∀ (tag : Byte) (s : State), linkFree s = true →
    exec (.status tag []) s = .next { s with link := taken s 0x02 tag .awaitSnapshot }) ∧
  ∀ (missFirst : Bool) (tag : Byte) (s : State), s.life = .up →
    s.link.inHand = some { kind := 0x02, tag := tag, job := .awaitSnapshot } →
    ∃ (t : State) (d : Snapshot) (flags : BitVec 16), exec (.frameBoundary missFirst) s = .next t ∧
      t.link.inHand = some { kind := 0x02, tag := tag, job := .answered } ∧
      t.link.reply = some { kind := 0x02, tag := tag, status := .ok, body := .snapshot d } ∧
      d.counter = s.timebase.counter + 1 ∧ d.setpoints.length = 16 ∧
      (∀ c, c < 16 → flags.getLsbD c = (d.setpoints.getD c (false, 0)).1) ∧
      (∀ c, c < 16 → d.setpoints.getD c (false, 0) =
        if (channelRec s c).enabled = 1 then (true, (tget t.pipeline.channels c).previous.getD 0) else (false, 0)) ∧
      let body : List Byte := le16 (d.counter.setWidth 16) ++ [runCode d.run, if d.pressure = .high then 1 else 0] ++ le16 flags ++
        d.setpoints.flatMap (fun x => le16 (BitVec.ofInt 16 x.2))
      t.rig.sent = body ++ le16 (crc16 body) ∧
      d.mode = s.config.mode ∧
      d.cause = (match s.cause with | .power => 0 | .line => 1 | .request => 2) ∧ d.permit = s.permit.filtered ∧
      d.feedback = s.rig.feedback ∧ d.loop = s.supervisor.loop ∧ d.badFrames = s.link.badFrames ∧
      ((∀ w, s.rig.window = some w → w.good = true) → s.capture.ops = [] →
        (∀ p, s.pipeline.params = some (.play p) → s.sequencer.fetch.dueWord ≤ s.sequencer.fetch.nextWord) →
        d.cursor = s.sequencer.cursor ∧ d.position = s.sequencer.position ∧
        d.heldFaults =
          (List.range 38).filter (fun k => (source s k).active && decide ((source s k).cls ≠ .note)) ∧
        d.freePages = s.pool.length ∧ d.corrected = s.store.corrected ∧
        d.eventCount = s.events.records.length ∧ d.eventDiscards = s.events.discards ∧
        d.summaryCount = s.summaries.queue.length ∧ d.summaryDiscards = s.summaries.discards ∧
        (if s.config.mode = .active then
          d.run = s.run.state ∧ d.taper = frameTaper (frameKind s) s ∧ d.pause = pauseSet s ∧
            d.holdOut = s.run.holdOut ∧ d.pressure = s.run.pressure
        else d.run = .stopped ∧ d.taper = 0 ∧ d.pause = [] ∧ d.holdOut = [] ∧ d.pressure = .low))

/-- R196, R35, R51, R146, R155: IDENTIFY, SEG_QUERY, SCHED_READ, FAULTS_READ and CAPTURE_LIST are answered with the
state as it stands when they are taken, and change nothing else. (The revision that IDENTIFY gives is the free value
of log entry 8.) -/
def Obligations.ReadRequestsReportState : Prop :=
  (∀ (tag : Byte) (s : State), linkFree s = true →
    exec (.identify tag []) s = .next
      { s with link := answered s 0x01 tag .ok (.identity
          { vendor := 0x4C50#16, part := 416, revision := Config.revision, pages := 512, pageSamples := 32768,
            segments := 64, entries := 256, driveChannels := 16, feedbackChannels := 32, monitors := 32,
            captureSlots := 32, eventCapacity := 64, summaryCapacity := 16, largestBody := 1040 }) }) ∧
  (∀ (tag id : Byte) (s : State), linkFree s = true → id.toNat ≤ 63 →
    let d := descriptor s id.toNat
    let entered (repl verifying : Bool) : Nat :=
      if verifying = true ∧ s.verifier.queue.head? = some { seg := id.toNat, repl := repl } then s.verifier.entered else 0
    exec (.segQuery tag [id]) s = .next
      { s with link := answered s 0x25 tag .ok (.segment
          { state := d.state, channels := d.data.channels, frames := d.data.frames, ratio := d.data.ratio,
            pageCount := d.data.pages.length, dataCrc := d.data.dataCrc, doubleErrors := d.doubleErrors,
            inPlay := d.inPlay, references := (s.schedule.filter (names id.toNat)).length,
            verified := entered false (decide (d.state = .verifying)),
            repl := d.repl.map (fun r =>
              { state := r.state, channels := r.data.channels, frames := r.data.frames, ratio := r.data.ratio,
                pageCount := r.data.pages.length, dataCrc := r.data.dataCrc,
                verified := entered true (decide (r.state = .verifying)) }) }) }) ∧
  (∀ (tag id : Byte) (s : State), linkFree s = true → 63 < id.toNat →
    exec (.segQuery tag [id]) s = .next { s with link := answered s 0x25 tag .badValue .empty }) ∧
  (∀ (tag count : Byte) (start : BitVec 16) (s : State), linkFree s = true →
    exec (.schedRead tag (le16 start ++ [count])) s = .next
      { s with link :=
          if 255 < start.toNat ∨ count.toNat < 1 ∨ 8 < count.toNat then answered s 0x33 tag .badValue .empty
          else if s.schedule.length ≤ start.toNat then answered s 0x33 tag .notFound .empty
          else answered s 0x33 tag .ok (.schedule
            { count := s.schedule.length, cursor := s.sequencer.cursor, phase := s.sequencer.phase,
              position := s.sequencer.position
              successor :=
                match s.sequencer.lookahead with
                | none => .absent
                | some l => match l.successor with
                  | none => .endOfSchedule
                  | some j => .index j
              entries := (s.schedule.drop start.toNat).take count.toNat }) }) ∧
  (∀ (tag : Byte) (s : State), linkFree s = true →
    exec (.faultsRead tag []) s = .next
      { s with link := answered s 0x51 tag .ok (.faults
          { action := s.faults.action, faultN := s.faults.faultN
            sources := s.faults.entries.toList.map (fun e =>
              { active := e.active, cls := e.cls, latched := e.latched,
                subject := if e.active then some e.subject else none })
            monitors := s.monitors.toList.map (fun m =>
              { enabled := decide (m.record.enabled = 1), evaluating := evaluates s m,
                suspended := suspendedBy s.run.holdOut m.record, tripped := m.tripped, outside := m.outside,
                inside := m.inside }) }) }) ∧
  ∀ (tag : Byte) (s : State), linkFree s = true →
    exec (.captureList tag []) s = .next
      { s with link := answered s 0x60 tag .ok (.captures
          (s.capture.slots.toList.map (fun o => o.map (fun r =>
            { state := r.state, endedEarly := r.endedEarly, damaged := r.damaged, entry := r.entry,
              ordinal := r.ordinal, seg := r.seg, channels := r.channels, channelCount := r.count,
              frames := r.frames, pageCount := r.pages.length })))
          (s.capture.slots.toList.filter (fun o => o.isNone)).length) }

/-! ## Events and summaries (R161, R162, R199, R200) -/

/-- R199, R161: a raised event enters at the newest end with the queue's number and the frame counter, the number then
rising by one, wrapping; a closed summary enters the summary queue and raises SUMMARY_QUEUED. Each queue keeps its
newest 64 or 16 and counts what it loses. R200, R162: EVENTS_READ removes the oldest records, at most the count, and
returns them oldest first in 18 bytes each, with the number left and the discard count; SUMMARY_READ removes the oldest
summary and returns it in 470 bytes: a header of 22 bytes, 12 bytes for each drive channel and 8 for each feedback
channel. An empty queue is answered NOT_FOUND. -/
def Obligations.QueuesKeepNewestGiveOldest : Prop :=
  ((∀ (kind : EventKind) (subject value : Nat) (s : State), s.events.records.length ≤ 64 →
    let r : EventRecord :=
      { seq := s.events.nextSeq, stamp := s.timebase.counter, kind := kind, subject := BitVec.ofNat 16 subject,
        value := BitVec.ofNat 32 value }
    raiseEvent kind subject value s =
      { s with events :=
          { records := (s.events.records ++ [r]).drop (s.events.records.length + 1 - 64)
            discards :=
              if s.events.records.length = 64 then
                (if s.events.discards = 65535 then 65535 else s.events.discards + 1)
              else s.events.discards
            nextSeq := s.events.nextSeq + 1 } }) ∧
  (∀ (m : Summary) (s : State), s.summaries.queue.length ≤ 16 →
    queueSummary m s = raiseEvent .summaryQueued m.entry m.ordinal.toNat
      { s with summaries :=
          { s.summaries with
            queue := (s.summaries.queue ++ [m]).drop (s.summaries.queue.length + 1 - 16)
            discards :=
              if s.summaries.queue.length = 16 then
                (if s.summaries.discards = 65535 then 65535 else s.summaries.discards + 1)
              else s.summaries.discards } })) ∧
  ((∀ (tag n : Byte) (s : State), linkFree s = true → 1 ≤ n.toNat → n.toNat ≤ 8 → s.events.records ≠ [] →
    exec (.eventsRead tag [n]) s = .next
      { s with
        events := { s.events with records := s.events.records.drop n.toNat }
        link := answered s 0x03 tag .ok
          (.events (s.events.records.length - n.toNat) s.events.discards
            ((s.events.records.take n.toNat).map (fun r =>
              le16 r.seq ++ le64 r.stamp ++ le16 (eventCode r.kind) ++ le16 r.subject ++ le32 r.value))) }) ∧
  (∀ (tag n : Byte) (s : State), linkFree s = true → n = 0 ∨ 8 < n.toNat →
    exec (.eventsRead tag [n]) s = .next { s with link := answered s 0x03 tag .badValue .empty }) ∧
  ∀ (tag n : Byte) (s : State), linkFree s = true → 1 ≤ n.toNat → n.toNat ≤ 8 → s.events.records = [] →
    exec (.eventsRead tag [n]) s = .next { s with link := answered s 0x03 tag .notFound .empty }) ∧
  ((∀ (tag : Byte) (m : Summary) (rest : List Summary) (s : State), linkFree s = true →
    s.summaries.queue = m :: rest →
    exec (.summaryRead tag []) s = .next
      { s with
        summaries := { s.summaries with queue := rest }
        link := answered s 0x63 tag .ok (.summary (summaryBytes m)) }) ∧
  (∀ m : Summary,
    let b := summaryBytes m
    let flag (x : Bool) (v : BitVec 16) : BitVec 16 := if x then v else 0
    b.length = 470 ∧
    b.take 22 =
      le32 m.ordinal ++ le32 m.playFrames ++ le64 m.counter ++ le16 (BitVec.ofNat 16 m.entry) ++
        [BitVec.ofNat 8 m.seg, (m.captureId.map (BitVec.ofNat 8)).getD 255] ++
        le16 (flag m.aborted 1 ||| flag m.noSamples 2 ||| flag m.joined 4) ∧
    (∀ c, c < 16 → (b.drop (22 + 12 * c)).take 12 =
      le32 (tget m.drive c).clampCount ++ le32 (tget m.drive c).slewCount ++ le32 (tget m.drive c).memoryErrors) ∧
    ∀ f, f < 32 → (b.drop (214 + 8 * f)).take 8 =
      le16 (tget m.feedback f).least ++ le16 (tget m.feedback f).greatest ++ le32 (tget m.feedback f).meanSquare) ∧
  ∀ (tag : Byte) (s : State), linkFree s = true → s.summaries.queue = [] →
    exec (.summaryRead tag []) s = .next { s with link := answered s 0x63 tag .notFound .empty })

/-! ## Heartbeat (chapter 10) -/

/-- R187 to R190: a beat after the window has opened is GOOD and lowers the loop counter, not below 0; one that no
supervisor judges is UNSUPERVISED. An early beat and a period's expiry are errors that raise it by one, and where it
reaches the loop limit HEARTBEAT becomes active, with the counter as subject unless it was active before. Every beat
and every expiry begins a new period, its window open at once under code 0.
(With no supervisor running its moments change nothing: log entry 2. An expiry is taken whether or not the window has
opened: log entry 32.) -/
def Obligations.BeatsAreJudgedByWindow : Prop :=
  ((∀ (tag : Byte) (s : State), linkFree s = true → s.supervisor.running = true → s.supervisor.windowOpen = true →
    exec (.heartbeat tag []) s = .next (settle
      { s with
        supervisor := { running := true, windowOpen := decide ((general s).windowCode = 0),
                        loop := s.supervisor.loop - 1 }
        link := answered s 0x70 tag .ok (.beat 0 (s.supervisor.loop - 1)) })) ∧
  (∀ (tag : Byte) (s : State), linkFree s = true → s.supervisor.running = false →
    exec (.heartbeat tag []) s = .next (settle
      { s with link := answered s 0x70 tag .ok (.beat 2 s.supervisor.loop) })) ∧
  (∀ s : State, s.supervisor.running = true →
    exec .heartbeatWindowOpen s = .next { s with supervisor := { s.supervisor with windowOpen := true } }) ∧
  ∀ s : State, s.supervisor.running = false →
    exec .heartbeatWindowOpen s = .next s ∧ exec .heartbeatPeriodExpiry s = .next s) ∧
  ((∀ (tag : Byte) (s : State), linkFree s = true → s.supervisor.running = true → s.supervisor.windowOpen = false →
    s.supervisor.loop + 1 < (general s).loopLimit.toNat →
    exec (.heartbeat tag []) s = .next (settle
      { s with
        supervisor := { running := true, windowOpen := decide ((general s).windowCode = 0),
                        loop := s.supervisor.loop + 1 }
        link := answered s 0x70 tag .ok (.beat 1 (s.supervisor.loop + 1)) })) ∧
  (∀ s : State, s.supervisor.running = true → s.supervisor.loop + 1 < (general s).loopLimit.toNat →
    exec .heartbeatPeriodExpiry s = .next (settle
      { s with supervisor := { running := true, windowOpen := decide ((general s).windowCode = 0),
                               loop := s.supervisor.loop + 1 } })) ∧
  ∀ (tag : Byte) (s : State), s.config.mode = .active → s.supervisor.running = true →
    (s.supervisor.loop + 1 = (general s).loopLimit.toNat ∨ s.supervisor.loop = (general s).loopLimit.toNat) →
    let limit := (general s).loopLimit.toNat
    let reached (t : State) : Prop :=
      t.supervisor = { running := true, windowOpen := decide ((general s).windowCode = 0), loop := limit } ∧
        (source t 34).active = true ∧
        (source t 34).subject = if (source s 34).active then (source s 34).subject else BitVec.ofNat 16 limit
    (∃ t, exec .heartbeatPeriodExpiry s = .next t ∧ reached t) ∧
    (linkFree s = true → s.supervisor.windowOpen = false →
      ∃ t, exec (.heartbeat tag []) s = .next t ∧ reached t ∧ t.link = answered s 0x70 tag .ok (.beat 1 limit)))

/-! ## Configuration (chapter 9) -/

/-- R169, R172, R173: an accepted CONFIG_WRITE replaces its record whole and is answered OK. In IDLE it first moves the
device to CONFIG and starts the timer at 30,000 ms; in CONFIG the timer has at most the time it had left (the time
itself is the free value of log entry 9). -/
def Obligations.ConfigWriteReplacesRecord : Prop :=
  ∀ (tag : Byte) (body : List Byte) (sel : Selector) (n : Nat) (s : State), linkFree s = true →
    recordLength (byteAt body 0) = some n → body.length = 2 + n →
    selectorOf (byteAt body 0) (byteAt body 1) = some sel →
    (s.config.mode = .idle → s.config.timer = none →
      exec (.configWrite tag body) s = .next
        { s with
          config := { s.config with
            mode := .config, timer := some 30000, pending := replaceRecord s.config.pending body 2 sel }
          link := answered s 0x10 tag .ok (.config
            { mode := .config, remaining := 30000, storedValid := s.config.stored.valid,
              saving := s.config.save.isSome, origin := s.config.origin } .nothing) }) ∧
    ∀ r, s.config.mode = .config → s.config.timer = some r →
      ∃ left, left ≤ r ∧
        exec (.configWrite tag body) s = .next
          { s with
            config := { s.config with timer := some left, pending := replaceRecord s.config.pending body 2 sel }
            freeTick := s.freeTick + 1
            link := answered s 0x10 tag .ok (.config
              { mode := .config, remaining := left, storedValid := s.config.stored.valid,
                saving := s.config.save.isSome, origin := s.config.origin } .nothing) }

/-- R174, R67, R88, R186: a CONFIG_WRITE taken in ACTIVE with the run STOPPED and PRESSURE_REQ low makes the pending
image a copy of the active image with the record replaced and leaves ACTIVE for CONFIG; with the run in another state or
PRESSURE_REQ high it is answered WRONG_STATE. -/
def Obligations.ConfigWriteLeavesActive : Prop :=
  ∀ (tag : Byte) (body : List Byte) (sel : Selector) (n : Nat) (g : Image) (s : State), linkFree s = true →
    recordLength (byteAt body 0) = some n → body.length = 2 + n →
    selectorOf (byteAt body 0) (byteAt body 1) = some sel →
    s.config.mode = .active → s.config.active = some g → s.config.timer = none →
    if s.run.state = .stopped ∧ s.run.pressure = .low then
      exec (.configWrite tag body) s = .next
        { s with
          config := { s.config with
            mode := .config, timer := some 30000, active := none, pending := replaceRecord g body 2 sel }
          pipeline :=
            { channels := Vector.replicate 16 { previous := none, clampCount := 0, slewCount := 0, held := 0 },
              taper := 0, params := none, continuation := false, stopTaper := false }
          run := { state := .stopped, host := false, sources := s.run.sources, holdOut := [], grace := .idle,
                   unload := .idle, pressure := .low }
          supervisor := { running := false, windowOpen := false, loop := 0 }
          link := answered s 0x10 tag .ok (.config
            { mode := .config, remaining := 30000, storedValid := s.config.stored.valid,
              saving := s.config.save.isSome, origin := s.config.origin } .nothing) }
    else
      exec (.configWrite tag body) s = .next
        { s with link := answered s 0x10 tag .wrongState (.config (configBlock s) .nothing) }

/-- R175, R173, R179: CONFIG_READ returns a record of the pending or the active image, after its selector byte and its
index byte, and changes nothing else; there is no active image outside ACTIVE, and another copy flag is answered
BAD_VALUE. A record written is read back byte for byte, and every other record reads as before. An image's
serialization takes 533 bytes, and those bytes give the image back.
(The time left that a running timer shows is the free value of log entry 9.) -/
def Obligations.RecordsAndImagesReadBack : Prop :=
  (∀ (tag a b copy : Byte) (sel : Selector) (s : State), linkFree s = true → s.config.mode ≠ .locked →
    selectorOf a b = some sel →
    let reply (block : ConfigBlock) : ControlLink :=
      if copy = 0 then
        answered s 0x11 tag .ok (.config block (.record ([a, b] ++ recordBytes s.config.pending sel)))
      else if copy = 1 then
        match s.config.active with
        | some g => answered s 0x11 tag .ok (.config block (.record ([a, b] ++ recordBytes g sel)))
        | none => answered s 0x11 tag .notFound (.config block .nothing)
      else answered s 0x11 tag .badValue (.config block .nothing)
    (s.config.timer = none →
      exec (.configRead tag [a, b, copy]) s = .next { s with link := reply (configBlock s) }) ∧
    ∀ r, s.config.timer = some r → ∃ left, left ≤ r ∧
      exec (.configRead tag [a, b, copy]) s = .next
        { s with
          config := { s.config with timer := some left }, freeTick := s.freeTick + 1
          link := reply { configBlock s with remaining := left } }) ∧
  (∀ (a b : Byte) (body : List Byte) (g : Image) (sel other : Selector) (n : Nat),
    recordLength a = some n → body.length = 2 + n → selectorOf a b = some sel →
    recordBytes (replaceRecord g body 2 sel) sel = body.drop 2 ∧
    (other ≠ sel → recordBytes (replaceRecord g body 2 sel) other = recordBytes g other)) ∧
  ∀ g : Image, (imageBytes g).length = 533 ∧ imageOfBytes (imageBytes g) = g

/-- R176, R177, R178: a CONFIG_COMMIT taken in CONFIG or, first moving the device to CONFIG, in IDLE, whose CRC
matches an image that passes every check, with no source active and PERMIT high, makes the device ACTIVE as one
change. One whose CRC differs is answered BAD_CHECKSUM with the CRC the device computed, one whose image fails a check
BAD_VALUE with the first failing field in serialization order; both stay in CONFIG with the pending image unchanged.
In ACTIVE the answer is WRONG_STATE. R137: sources still active at the commit take their new classes; a new action
TRIP freezes the run.
(The time left in a refusal's status block is the free value of log entry 9. SEGMENT_MISSING is not active outside a
run.) -/
def Obligations.CommitDecidesByImage : Prop :=
  let block (s : State) (mode : DeviceMode) (left : Nat) : ConfigBlock :=
    { mode := mode, remaining := left, storedValid := s.config.stored.valid, saving := s.config.save.isSome,
      origin := s.config.origin }
  let begun (s u : State) (left : Nat) : Prop :=
    (s.config.mode = .idle ∧ s.config.timer = none ∧ left = 30000 ∧ u = s) ∨
      ∃ r, s.config.mode = .config ∧ s.config.timer = some r ∧ left ≤ r ∧ u = { s with freeTick := s.freeTick + 1 }
  let meets (g : Image) (selector index offset : Nat) : Prop :=
    let c := tget g.channels index
    let m := tget g.monitors index
    match selector, offset with
    | 0, 0 => g.general.rate.toNat ≤ 2
    | 0, 1 => g.general.heartbeatEnable.toNat ≤ 1
    | 0, 2 => 16 ≤ g.general.nt.toNat ∧ g.general.nt.toNat ≤ 32768
    | 0, 4 => g.general.unloadMs.toNat ≤ 10000
    | 0, 6 => g.general.graceMs.toNat ≤ 10000
    | 0, 8 => 1 ≤ g.general.missLimit.toNat ∧ g.general.missLimit.toNat ≤ 15
    | 0, 9 => g.general.periodCode.toNat ≤ 3
    | 0, 10 => g.general.windowCode.toNat ≤ 3
    | 0, 11 => 2 ≤ g.general.loopLimit.toNat ∧ g.general.loopLimit.toNat ≤ 16
    | 1, 0 => c.enabled.toNat ≤ 1
    | 1, 1 => c.holdOutPermitted.toNat ≤ 1
    | 1, 2 => c.lo.toInt ≤ c.mean.toInt ∧ c.mean.toInt ≤ c.hi.toInt
    | 1, 4 => c.lo.toInt ≤ c.park.toInt ∧ c.park.toInt ≤ c.hi.toInt
    | 1, 6 => c.lo.toInt < c.hi.toInt
    | 1, 10 => 1 ≤ c.slew.toNat ∧ c.slew.toNat ≤ 32767
    | 2, 0 => m.enabled.toNat ≤ 1
    | 2, 1 => m.feedback.toNat ≤ 31
    | 2, 4 => m.low.toInt < m.high.toInt
    | 2, 6 => 1 ≤ m.filter.toNat
    | 2, 7 => m.cls.toNat ≤ 3
    | 2, 8 => m.latching.toNat ≤ 1
    | 2, 9 => m.owner.toNat ≤ 15 ∨ m.owner.toNat = 255
    | 3, 0 => g.classes.servo.toNat ≤ 3
    | 3, 1 => g.classes.rigLink.toNat ≤ 3
    | 3, 2 => g.classes.heartbeat.toNat ≤ 3
    | 3, 3 => g.classes.segmentMissing.toNat ≤ 3
    | 3, 4 => g.classes.memory.toNat ≤ 3
    | _, _ => True
  let there (selector index : Nat) : Prop := index < [1, 16, 32, 1].getD selector 0
  (∀ g : Image,
    (commitFailure g = none ↔ ∀ i j o, there i j → meets g i j o) ∧
    ∀ f, commitFailure g = some f →
      there f.selector f.index ∧ ¬ meets g f.selector f.index f.offset ∧
      ∀ i j o, there i j →
        (i < f.selector ∨ (i = f.selector ∧ (j < f.index ∨ (j = f.index ∧ o < f.offset)))) → meets g i j o) ∧
  (∀ (tag : Byte) (crc : BitVec 16) (s : State), linkFree s = true →
    ((s.config.mode = .idle ∧ s.config.timer = none) ∨ ∃ r, s.config.mode = .config ∧ s.config.timer = some r) →
    let g := s.config.pending
    let own := crc16 (imageBytes g)
    ∃ (u : State) (left : Nat), begun s u left ∧
      let refused (status : Status) (extra : ConfigExtra) : State :=
        { u with
          config := { s.config with mode := .config, timer := some left }
          link := answered s 0x12 tag status (.config (block s .config left) extra) }
      (crc ≠ own → exec (.configCommit tag (le16 crc)) s = .next (refused .badChecksum (.crc own))) ∧
      (∀ f, crc = own → commitFailure g = some f →
        exec (.configCommit tag (le16 crc)) s = .next (refused .badValue (.field f))) ∧
      (crc = own → commitFailure g = none → (∀ k, k < 38 → (source s k).active = false) → s.permit.filtered = .high →
        exec (.configCommit tag (le16 crc)) s = .next
          { u with
            config := { s.config with active := some g, mode := .active, timer := none }
            timebase := { s.timebase with nextRate := g.general.rate }
            rig := { s.rig with window := s.rig.window.map (fun w => { w with inStay := false }) }
            faults := { entries := reclassify g s.faults.entries, action := none, faultN := .high }
            monitors := tmap (fun k m => { m with record := tget g.monitors k, outside := 0, inside := 0 }) s.monitors
            run := { state := .stopped, host := false, sources := [], holdOut := [], grace := .idle, unload := .idle,
                     pressure := .low }
            supervisor :=
              { running := decide (g.general.heartbeatEnable = 1)
                windowOpen := decide (g.general.heartbeatEnable = 1) && decide (g.general.windowCode = 0), loop := 0 }
            link := answered s 0x12 tag .ok (.config (block s .active 0) .nothing) }) ∧
      (crc = own → commitFailure g = none → (source s 35).active = false → s.permit.filtered = .high →
        s.pipeline.params = none → s.sequencer.joinPending = false →
        ∃ t, exec (.configCommit tag (le16 crc)) s = .next t ∧ t.config.active = some g ∧ t.config.mode = .active ∧
          t.events = s.events ∧
          (∀ k, k < 38 →
            let cls : FaultClass :=
              if k < 32 then classOfByte (tget g.monitors k).cls
              else if k = 37 then .trip
              else classOfByte ([g.classes.servo, g.classes.rigLink, g.classes.heartbeat, g.classes.segmentMissing,
                g.classes.memory].getD (k - 32) 0)
            source t k =
              { active := (source s k).active, subject := (source s k).subject, cls := cls
                latched := if k < 32 then decide ((tget g.monitors k).latching = 1) else decide (k ≠ 35) } ∧
            (k ∈ t.run.sources ↔ (source t k).active = true ∧ cls = .pause)) ∧
          actionLaw t = true ∧ faultLineLaw t = true ∧
          t.run.state = (if t.faults.action = some .trip then .frozen else .stopped))) ∧
  ∀ (tag : Byte) (crc : BitVec 16) (s : State), linkFree s = true → s.config.mode = .active → s.config.timer = none →
    exec (.configCommit tag (le16 crc)) s = .next
      { s with link := answered s 0x12 tag .wrongState (.config (configBlock s) .nothing) }

/-- R170, R171, R172: the configuration timer's expiry in CONFIG makes the mode LOCKED, stops the timer and raises
CONFIG_LOCKED with subject 0 and value 0. In LOCKED every configuration request is answered LOCKED, before any other
check, and changes nothing. A selector and index that name no record are answered BAD_VALUE, in a CONFIG_READ and in a
CONFIG_WRITE of a fitting length, and change nothing.
(An expiry of a timer that is not running changes nothing: log entry 2. The time left that a running timer shows is the
free value of log entry 9.) -/
def Obligations.TimerExpiryLocksConfiguration : Prop :=
  ((∀ (r : Nat) (s : State), s.config.mode = .config → s.config.timer = some r →
    exec .configTimerExpiry s = .next (raiseEvent .configLocked 0 0
      { s with config := { s.config with mode := .locked, timer := none } })) ∧
  ∀ s : State, s.config.mode ≠ .config ∨ s.config.timer = none → exec .configTimerExpiry s = .next s) ∧
  ((∀ (tag : Byte) (body : List Byte) (s : State), linkFree s = true → body.length ≤ 1040 →
    s.config.mode = .locked → s.config.timer = none →
    exec (.configWrite tag body) s = .next
      { s with link := answered s 0x10 tag .locked (.config (configBlock s) .nothing) } ∧
    exec (.configRead tag body) s = .next
      { s with link := answered s 0x11 tag .locked (.config (configBlock s) .nothing) } ∧
    exec (.configCommit tag body) s = .next
      { s with link := answered s 0x12 tag .locked (.config (configBlock s) .nothing) } ∧
    exec (.configSave tag body) s = .next
      { s with link := answered s 0x13 tag .locked (.config (configBlock s) .nothing) }) ∧
  ∀ (tag : Byte) (s : State), linkFree s = true → s.config.mode ≠ .locked →
    let refused (c : Instr) (kind : Byte) : Prop :=
      (s.config.timer = none →
        exec c s = .next { s with link := answered s kind tag .badValue (.config (configBlock s) .nothing) }) ∧
      ∀ r, s.config.timer = some r → ∃ left, left ≤ r ∧
        exec c s = .next
          { s with
            config := { s.config with timer := some left }, freeTick := s.freeTick + 1
            link := answered s kind tag .badValue (.config { configBlock s with remaining := left } .nothing) }
    (∀ a b copy : Byte, selectorOf a b = none → refused (.configRead tag [a, b, copy]) 0x11) ∧
    ∀ (body : List Byte) (n : Nat), recordLength (byteAt body 0) = some n → body.length = 2 + n →
      selectorOf (byteAt body 0) (byteAt body 1) = none → refused (.configWrite tag body) 0x10)

/-- R180, R181: CONFIG_SAVE in ACTIVE copies the active image, makes the stored image INVALID and is answered ACCEPTED
with the image CRC; BUSY while a save runs, WRONG_STATE outside ACTIVE. A read-back equal to the copy leaves the
stored image VALID and raises SAVE_DONE with the CRC; one that differs raises SAVE_FAILED with the offset of the first
byte that differs.
(The end of a save that is not running changes nothing: log entry 2. The time left that a running timer shows is the
free value of log entry 9.) -/
def Obligations.SaveWritesActiveImage : Prop :=
  (∀ (tag : Byte) (s : State), linkFree s = true → s.config.mode ≠ .locked →
    (s.config.mode ≠ .active → ∀ r, s.config.timer = some r → ∃ left, left ≤ r ∧
      exec (.configSave tag []) s = .next
        { s with
          config := { s.config with timer := some left }, freeTick := s.freeTick + 1
          link := answered s 0x13 tag .wrongState
            (.config { configBlock s with remaining := left } .nothing) }) ∧
    (s.config.timer = none → ∀ g, s.config.mode = .active → s.config.active = some g → s.config.save = none →
      exec (.configSave tag []) s = .next
        { s with
          config := { s.config with
            save := some (imageBytes g), stored := { s.config.stored with crc := none, valid := false } }
          link := answered s 0x13 tag .accepted (.config
            { mode := .active, remaining := 0, storedValid := false, saving := true, origin := s.config.origin }
            (.crc (crc16 (imageBytes g)))) }) ∧
    (s.config.timer = none → ∀ g copy, s.config.mode = .active → s.config.active = some g →
      s.config.save = some copy →
      exec (.configSave tag []) s = .next
        { s with link := answered s 0x13 tag .busy (.config (configBlock s) .nothing) }) ∧
    (s.config.timer = none → s.config.mode ≠ .active →
      exec (.configSave tag []) s = .next
        { s with link := answered s 0x13 tag .wrongState (.config (configBlock s) .nothing) })) ∧
  ((∀ (copy : List Byte) (s : State), s.config.save = some copy →
    exec (.configSaveEnd copy) s = .next (raiseEvent .saveDone (crc16 copy).toNat 0
      { s with config := { s.config with
          save := none, stored := { bytes := copy, crc := some (crc16 copy), valid := true } } })) ∧
  (∀ (copy back : List Byte) (i : Nat) (s : State), s.config.save = some copy → copy.length = back.length →
    i < copy.length → copy.take i = back.take i → copy.getD i 0 ≠ back.getD i 0 →
    exec (.configSaveEnd back) s = .next (raiseEvent .saveFailed i 0
      { s with config := { s.config with
          save := none, stored := { bytes := back, crc := none, valid := false } } })) ∧
  ∀ (back : List Byte) (s : State), s.config.save = none → exec (.configSaveEnd back) s = .next s)

/-! ## The sample store and its arbiter (chapter 1) -/

/-- R4, R13, R14, R15, R17, R18: what each word operation does to a store in its canonical form, which it keeps. A word
with a double error is left as it is by all but a whole-word write, a CORRECTED outcome is counted, and a written word
reads CLEAN with the samples it was given. -/
def Obligations.WordOperationsKeepStore : Prop :=
  ∀ (st : Store) (w : Nat) (found : ReadOutcome) (lanes : List (Nat × Sample)), st.wf = true →
    (lanes.map Prod.fst).Nodup → (∀ l, l ∈ lanes → l.1 < 4) →
    let o := outcomeAt st w found
    let counted : BitVec 32 :=
      if o = .corrected then (if st.corrected = 4294967295 then 4294967295 else st.corrected + 1) else st.corrected
    let other (t : Store) : Prop := (∀ v, v ≠ w → markOf t v = markOf st v) ∧ t.wf = true
    let held (t : Store) : Prop := ∀ p, sampleAt t p = sampleAt st p
    let written (t : Store) : Prop :=
      (∀ l, l ∈ lanes → sampleAt t (4 * w + l.1) = l.2) ∧
      ∀ p, (∀ l, l ∈ lanes → p ≠ 4 * w + l.1) → sampleAt t p = sampleAt st p
    (let r := storeRead w found st;
      r.1 = o ∧ held r.2 ∧ other r.2 ∧ markOf r.2 w = o ∧ r.2.corrected = counted) ∧
    (let t := storeWriteWhole w lanes st;
      written t ∧ other t ∧ markOf t w = .clean ∧ t.corrected = st.corrected) ∧
    (let r := storeWritePart w lanes found st;
      r.1 = o ∧ other r.2 ∧ r.2.corrected = counted ∧
      (o = .uncorrectable → held r.2 ∧ markOf r.2 w = .uncorrectable) ∧
      (o ≠ .uncorrectable → written r.2 ∧ markOf r.2 w = .clean)) ∧
    (let r := storeScrub w found st;
      r.1 = o ∧ held r.2 ∧ other r.2 ∧ r.2.corrected = counted ∧
      (o = .uncorrectable → markOf r.2 w = .uncorrectable) ∧ (o ≠ .uncorrectable → markOf r.2 w = .clean))

/-- R16, R24: the word operations of a run of consecutive offsets, carried out in order over a page list without
repeats, store each sample of the run at its offset and leave every other position of the store alone; each but the
first and the last is a whole-word write. -/
def Obligations.RunWritesItsOffsetsOnly : Prop :=
  ∀ (pages : List Nat) (start : Nat) (samples : List Sample) (st : Store), st.wf = true → pages.Nodup →
    samples ≠ [] → start + samples.length ≤ 32768 * pages.length → (∀ w, markOf st w ≠ .uncorrectable) →
    let ops := runOps pages start samples
    let t := ops.foldl (fun st op => match op with
      | .write w lanes => if isWhole lanes then storeWriteWhole w lanes st else (storeWritePart w lanes .clean st).2
      | _ => st) st
    let place (o : Nat) : Nat := 4 * wordOf pages (o / 4) + o % 4
    (∀ k v, samples[k]? = some v → sampleAt t (place (start + k)) = v) ∧
    (∀ p, (∀ k, k < samples.length → p ≠ place (start + k)) → sampleAt t p = sampleAt st p) ∧
    ∀ k w lanes, ops[k]? = some (.write w lanes) → 0 < k → k + 1 < ops.length → isWhole lanes = true

/-- R10, R11: while the device is up the arbiter grants a free store to the requestor of highest priority, PLAYBACK,
CAPTURE, LINK, SCRUB in this order, that has a request waiting or presents its next; a granted operation is never
pre-empted. What they present next: PLAYBACK a read due for the play in progress before one of the lookahead's
prefetch (R55); CAPTURE the next write of its frame (R151); LINK the next word of the request in hand before a
verification read (R30); SCRUB the sweep's word, moved to the next owned page, or round to the lowest, if its page is
in the pool, and none while the pool holds every page (R19). -/
def Obligations.ArbiterGrantsByPriority : Prop :=
  (∀ s : State, s.life = .up →
    (∀ g, s.arbiter.granted = some g → (settle s).arbiter.granted = some g) ∧
    (s.arbiter.granted = none →
      (settle s).arbiter.granted =
        ((s.arbiter.playback.or (nextPlayback s)).map (fun op => { requestor := .playback, op := op, live := true })).or
        (((s.arbiter.capture.or (nextCapture s)).map (fun op => { requestor := .capture, op := op, live := true })).or
        (((s.arbiter.link.or (nextLink s)).map (fun op => { requestor := .link, op := op, live := true })).or
        ((s.arbiter.scrub.or (nextScrub s)).map (fun op => { requestor := .scrub, op := op, live := true })))))) ∧
  ∀ s : State,
    let word (pages : List Nat) (i : Nat) : Nat := pages.getD (i / 8192) 512 * 8192 + i % 8192
    let f := s.sequencer.fetch
    let due (p : PlayParams) : Prop := s.pipeline.params = some (.play p) ∧ f.nextWord < f.dueWord
    let ahead (q : Prefetch) : Prop := (∃ l, s.sequencer.lookahead = some l ∧ l.prefetch = some q) ∧ q.nextWord < q.stopWord
    let checks : Option MemOp :=
      match s.verifier.queue with
      | [] => none
      | t :: _ =>
        let d := targetData t s
        if 4 * s.verifier.nextWord < maskCount d.channels * d.frames then
          some (.read (word d.pages s.verifier.nextWord) s.verifier.nextWord .verify)
        else none
    (∀ p, due p → nextPlayback s = some (.read (word p.pages f.nextWord) f.nextWord .play)) ∧
    (∀ q, (∀ p, ¬ due p) → ahead q →
      nextPlayback s = some (.read (word q.pages q.nextWord) q.nextWord .prefetch)) ∧
    ((∀ p, ¬ due p) → (∀ q, ¬ ahead q) → nextPlayback s = none) ∧
    nextCapture s = s.capture.ops.head? ∧
    (∀ h op rest, s.link.inHand = some h → h.job = .segData (op :: rest) → nextLink s = some op) ∧
    (∀ h j r, s.link.inHand = some h → h.job = .captureRead j → j.nextWord < j.stopWord → slot s j.id = some r →
      nextLink s = some (.read (word r.pages j.nextWord) j.nextWord .captureRead)) ∧
    ((∀ h, s.link.inHand = some h → (∀ op rest, h.job ≠ .segData (op :: rest)) ∧
        ∀ j, h.job = .captureRead j → j.stopWord ≤ j.nextWord) → nextLink s = checks) ∧
    (s.sweep.page ∉ s.pool → nextScrub s = some (.scrub s.sweep.page s.sweep.word)) ∧
    (s.sweep.page ∈ s.pool → s.pool.Pairwise (· < ·) → s.pool.length ≤ 512 → (∀ x, x ∈ s.pool → x < 512) →
      (∀ q, q < 512 → q ∉ s.pool →
        ((s.sweep.page < q ∧ ∀ x, s.sweep.page < x → x < q → x ∈ s.pool) ∨
          (q < s.sweep.page ∧ (∀ x, s.sweep.page < x → x < 512 → x ∈ s.pool) ∧ ∀ x, x < q → x ∈ s.pool)) →
        nextScrub s = some (.scrub q 0)) ∧
      ((∀ q, q < 512 → q ∈ s.pool) → nextScrub s = none))

/-- R5: a block allocation takes the lowest-numbered pages in ascending order or fails with the pool unchanged; a single
allocation takes the lowest page; a release puts each page back at its place. R11: an operation granted on a page
that is released completes in the store first, and no other change is made there.
(That it finds no new disturbance is log entry 42.) -/
def Obligations.PoolGivesLowestPages : Prop :=
  ∀ (s : State), s.pool.Pairwise (· < ·) →
    (∀ (n : Nat) (pages : List Nat) (t : State), allocateBlock n s = some (pages, t) →
      pages.length = n ∧ pages ++ t.pool = s.pool ∧ (∀ p q, p ∈ pages → q ∈ t.pool → p < q) ∧
      t = { s with pool := t.pool }) ∧
    (∀ n, allocateBlock n s = none ↔ s.pool.length < n) ∧
    (∀ (p : Nat) (t : State), allocateOne s = some (p, t) →
      p :: t.pool = s.pool ∧ (∀ q, q ∈ t.pool → p < q) ∧ t = { s with pool := t.pool }) ∧
    (allocateOne s = none ↔ s.pool = []) ∧
    ∀ pages : List Nat,
      (releasePages pages s).pool.Pairwise (· < ·) ∧
      (∀ p, p ∈ (releasePages pages s).pool ↔ p ∈ s.pool ∨ p ∈ pages) ∧
      ((∃ g, s.arbiter.granted = some g ∧ opWord g.op / 8192 ∈ pages) →
        (releasePages pages s).store = completeInStore s ∧ (releasePages pages s).arbiter.granted = none) ∧
      ((∀ g, s.arbiter.granted = some g → opWord g.op / 8192 ∉ pages) →
        (releasePages pages s).store = s.store ∧ (releasePages pages s).arbiter.granted = s.arbiter.granted)

/-- R10, R13, R14, R15, R18, R3: the arbiter's completions. A granted operation of the kind that completes makes its
change to the store, and leaves the timebase, the rig link, the configuration, PERMIT and the supervisor alone.
(The model's choices: a completion of a kind that is not granted changes nothing, log entry 2; a read of a word
outside words 0 to 4,194,303 is the fault outsideStore, log entry 41; what the check code finds is the command's
operand, log entry 3.) -/
def Obligations.CompletionsChangeStore : Prop :=
  let kept (s t : State) : Prop :=
    t.life = s.life ∧ t.timebase = s.timebase ∧ t.rig = s.rig ∧ t.config = s.config ∧ t.permit = s.permit ∧
      t.supervisor = s.supervisor
  (∀ (g : Grant) (w index : Nat) (q : ReadPurpose) (found : ReadOutcome) (s : State), s.life = .up →
    s.arbiter.granted = some g → g.op = .read w index q →
    if w < 4194304 then
      ∃ t, exec (.memoryRead found) s = .next t ∧ t.store = (storeRead w found s.store).2 ∧ kept s t
    else exec (.memoryRead found) s = .fault .outsideStore) ∧
  (∀ (g : Grant) (w : Nat) (lanes : List (Nat × Sample)) (found : ReadOutcome) (s : State), s.life = .up →
    s.arbiter.granted = some g → g.op = .write w lanes → w < 4194304 →
    if lanes.length = 4 then
      (∃ t, exec .wholeWordWrite s = .next t ∧ t.store = storeWriteWhole w lanes s.store ∧ kept s t) ∧
      exec (.partialWordWrite found) s = .next s
    else
      (∃ t, exec (.partialWordWrite found) s = .next t ∧ t.store = (storeWritePart w lanes found s.store).2 ∧
        kept s t) ∧
      exec .wholeWordWrite s = .next s) ∧
  (∀ (g : Grant) (p w : Nat) (found : ReadOutcome) (s : State), s.life = .up →
    s.arbiter.granted = some g → g.op = .scrub p w → p < 512 → w < 8192 →
    (outcomeAt s.store (8192 * p + w) found ≠ .uncorrectable →
      exec (.scrub found) s = .next (settle (moveSweep p w
        { s with store := (storeScrub (8192 * p + w) found s.store).2, arbiter := { s.arbiter with granted := none } }))) ∧
    ∃ t, exec (.scrub found) s = .next t ∧ t.store = (storeScrub (8192 * p + w) found s.store).2 ∧ kept s t) ∧
  ∀ (found : ReadOutcome) (s : State), s.arbiter.granted = none →
    exec (.memoryRead found) s = .next s ∧ exec .wholeWordWrite s = .next s ∧
    exec (.partialWordWrite found) s = .next s ∧ exec (.scrub found) s = .next s

/-! ## Segments (chapter 2) -/

/-- R5, R25, R26, R27: SEG_OPEN answers BAD_VALUE to an id above 63, and then checks its values, the descriptor's
state and the pool in this order; then the descriptor, or with the replace flag its pending replacement, becomes
LOADING with the lowest ceil(C × F / 32,768) pages.
(SEG_OPEN and SEG_OPEN_REPLACE are one request, each judged by the body it carries: log entry 19.) -/
def Obligations.SegOpenTakesPages : Prop :=
  ∀ (tag : Byte) (body : List Byte) (s : State), linkFree s = true → body.length = 9 →
    (63 < (byteAt body 0).toNat → ∀ c, c ∈ [Instr.segOpen tag body, Instr.segOpenReplace tag body] →
      exec c s = .next (settle { s with link := answered s 0x20 tag .badValue .empty })) ∧
    ((byteAt body 0).toNat ≤ 63 →
      let id := (byteAt body 0).toNat
      let channels := le16At body 1
      let frames := (le32At body 3).toNat
      let ratio := (byteAt body 7).toNat
      let good := channels ≠ 0 ∧ 2 ≤ frames ∧ frames ≤ 1048576 ∧ ratio ∈ [1, 2, 4, 8]
      let n := (maskCount channels * frames + 32767) / 32768
      let d := descriptor s id
      let data : SegData :=
        { channels := channels, frames := frames, ratio := ratio, pages := s.pool.take n, expected := 0, dataCrc := none }
      let refused (c : Instr) (status : Status) : Prop :=
        exec c s = .next (settle { s with link := answered s 0x20 tag status .empty })
      let opened (c : Instr) (e : Descriptor) : Prop :=
        exec c s = .next (settle
          { s with pool := s.pool.drop n, segments := tset s.segments id e, link := answered s 0x20 tag .ok .empty })
      ((byteAt body 8).getLsbD 0 = false →
        (¬ good → refused (.segOpen tag body) .badValue) ∧
        (good → d.state ≠ .empty → refused (.segOpen tag body) .wrongState) ∧
        (good → d.state = .empty → s.pool.length < n → refused (.segOpen tag body) .noSpace) ∧
        (good → d.state = .empty → n ≤ s.pool.length →
          opened (.segOpen tag body)
            { state := .loading, data := data, doubleErrors := 0, inPlay := false, repl := none })) ∧
      ((byteAt body 8).getLsbD 0 = true →
        (¬ good → refused (.segOpenReplace tag body) .badValue) ∧
        (good → d.state ≠ .ready → d.state ≠ .damaged → refused (.segOpenReplace tag body) .wrongState) ∧
        (good → (d.state = .ready ∨ d.state = .damaged) → d.repl ≠ none →
          refused (.segOpenReplace tag body) .inUse) ∧
        (good → (d.state = .ready ∨ d.state = .damaged) → d.repl = none → s.pool.length < n →
          refused (.segOpenReplace tag body) .noSpace) ∧
        (good → (d.state = .ready ∨ d.state = .damaged) → d.repl = none → n ≤ s.pool.length →
          opened (.segOpenReplace tag body) { d with repl := some { state := .loading, data := data } })))

/-- R16, R25, R28: SEG_DATA answers BAD_VALUE to an id above 63. To a loading target in LOADING it hands the run's
word operations to the arbiter; a target not in LOADING is answered WRONG_STATE and a run past its end BAD_VALUE. The
reply is OK after the last word write, or MEMORY_ERROR at the first partial-word write that meets an uncorrectable
word, the rest then not being made. -/
def Obligations.SegDataWritesRun : Prop :=
  (∀ (tag : Byte) (body : List Byte) (s : State), linkFree s = true →
    7 ≤ body.length → body.length ≤ 1029 → body.length % 2 = 1 →
    (63 < (byteAt body 0).toNat →
      exec (.segData tag body) s = .next (settle { s with link := answered s 0x21 tag .badValue .empty })) ∧
    ((byteAt body 0).toNat ≤ 63 →
      let d := descriptor s (byteAt body 0).toNat
      let offset := (le32At body 1).toNat
      let count := (body.length - 5) / 2
      let samples := (List.range count).map (fun k => le16At body (5 + 2 * k))
      let refused (status : Status) : Prop :=
        exec (.segData tag body) s = .next (settle { s with link := answered s 0x21 tag status .empty })
      let writes (data : SegData) : Prop :=
        if maskCount data.channels * data.frames < offset + count then refused .badValue
        else exec (.segData tag body) s = .next (settle
          { s with link := taken s 0x21 tag (.segData (runOps data.pages offset samples)) })
      (∀ r, d.repl = some r → if r.state = .loading then writes r.data else refused .wrongState) ∧
      (d.repl = none → if d.state = .loading then writes d.data else refused .wrongState))) ∧
  ∀ (tag : Byte) (w : Nat) (lanes : List (Nat × Sample)) (op : MemOp) (rest : List MemOp) (found : ReadOutcome)
    (s : State), s.life = .up → w < 4194304 →
    s.arbiter.granted = some { requestor := .link, op := .write w lanes, live := true } →
    s.link.inHand = some { kind := 0x21, tag := tag, job := .segData (op :: rest) } →
    let after (store : Store) (link : ControlLink) : State :=
      settle { s with store := store, arbiter := { s.arbiter with granted := none }, link := link }
    let done (status : Status) : ControlLink :=
      { s.link with
        inHand := some { kind := 0x21, tag := tag, job := .answered }
        reply := some { kind := 0x21, tag := tag, status := status, body := .empty } }
    let going : ControlLink :=
      if rest = [] then done .ok
      else { s.link with inHand := some { kind := 0x21, tag := tag, job := .segData rest } }
    (lanes.length = 4 → exec .wholeWordWrite s = .next (after (storeWriteWhole w lanes s.store) going)) ∧
    (lanes.length ≠ 4 → exec (.partialWordWrite found) s = .next
      (after (storeWritePart w lanes found s.store).2
        (if outcomeAt s.store w found = .uncorrectable then done .memoryError else going)))

/-- R25, R29, R33, R34: an id above 63 is answered BAD_VALUE. SEG_CLOSE makes a target in LOADING VERIFYING with its
expected CRC, at the end of the verification queue. SEG_ABANDON gives up a descriptor in LOADING or VERIFYING or a
replacement in any state, SEG_FREE a READY or DAMAGED descriptor, with its replacement, that no schedule entry names;
their pages return to the pool, and a VERIFYING one leaves the verification queue, the next target beginning afresh.
Every other state is answered as its rule says, and nothing changes. R64: frames carried from data that ceases to
exist are discarded. (The clauses that give up data are stated for a device with no lookahead standing and
SEGMENT_MISSING not active, which they may otherwise redo or end. A release completes the operation granted on its
pages, which finds no new disturbance: log entries 29 and 42.) -/
def Obligations.SegTargetsCloseAndGo : Prop :=
  ∀ (tag i : Byte) (crc : BitVec 32) (s : State), linkFree s = true →
    (63 < i.toNat →
      let refused (c : Instr) (kind : Byte) : Prop :=
        exec c s = .next (settle { s with link := answered s kind tag .badValue .empty })
      refused (.segClose tag (i :: le32 crc)) 0x22 ∧ refused (.segAbandon tag [i]) 0x23 ∧ refused (.segFree tag [i]) 0x24) ∧
    (i.toNat ≤ 63 →
      let id := i.toNat
      let d := descriptor s id
      let link (kind : Byte) (status : Status) : ControlLink := answered s kind tag status .empty
      let closes (t : Target) (e : Descriptor) : Prop :=
        exec (.segClose tag (i :: le32 crc)) s = .next (settle
          { s with
            segments := tset s.segments id e
            verifier := { s.verifier with queue := s.verifier.queue ++ [t] }
            link := link 0x22 .accepted })
      let noClose : Prop :=
        exec (.segClose tag (i :: le32 crc)) s = .next (settle { s with link := link 0x22 .wrongState })
      let without (t : Target) : Verifier :=
        if s.verifier.queue.head? = some t then
          { queue := s.verifier.queue.erase t, nextWord := 0, entered := 0, crc := 0xFFFFFFFF }
        else { s.verifier with queue := s.verifier.queue.erase t }
      let gone (e : Descriptor) (repl : Bool) (status : ControlLink) : State :=
        { s with
          segments := tset s.segments id e, link := status
          sequencer := { s.sequencer with carried := (dropCarried id repl s).sequencer.carried } }
      let goneFrom (t : Target) (e : Descriptor) (repl : Bool) (status : ControlLink) : State :=
        { gone e repl status with verifier := without t, arbiter := (dropTarget t s).arbiter }
      let abandons (u : State) (pages : List Nat) : Prop :=
        exec (.segAbandon tag [i]) s = .next (settle (releasePages pages u))
      let noAbandon : Prop := exec (.segAbandon tag [i]) s = .next (settle { s with link := link 0x23 .wrongState })
      let noFree (status : Status) : Prop := exec (.segFree tag [i]) s = .next (settle { s with link := link 0x24 status })
      (∀ r, d.repl = some r →
        (r.state = .loading →
          closes { seg := id, repl := true }
            { d with repl := some { state := .verifying, data := { r.data with expected := crc } } }) ∧
        (r.state ≠ .loading → noClose) ∧
        (s.sequencer.lookahead = none → (source s 35).active = false →
          (r.state ≠ .verifying → abandons (gone { d with repl := none } true (link 0x23 .ok)) r.data.pages) ∧
          (r.state = .verifying → abandons
            (goneFrom { seg := id, repl := true } { d with repl := none } true (link 0x23 .ok)) r.data.pages))) ∧
      (d.repl = none →
        (d.state = .loading →
          closes { seg := id, repl := false } { d with state := .verifying, data := { d.data with expected := crc } }) ∧
        (d.state ≠ .loading → noClose) ∧
        ((source s 35).active = false →
          (d.state = .loading → abandons (gone .blank false (link 0x23 .ok)) d.data.pages) ∧
          (d.state = .verifying →
            abandons (goneFrom { seg := id, repl := false } .blank false (link 0x23 .ok)) d.data.pages)) ∧
        (d.state ≠ .loading → d.state ≠ .verifying → noAbandon)) ∧
      (references s id ≠ 0 → noFree .inUse) ∧
      (references s id = 0 →
        (d.state = .loading ∨ d.state = .verifying → noFree .wrongState) ∧
        (d.state = .empty → noFree .ok) ∧
        (d.state = .ready ∨ d.state = .damaged → (source s 35).active = false →
          let left := goneFrom { seg := id, repl := true } .blank false (link 0x24 .ok)
          exec (.segFree tag [i]) s = .next (settle (releasePages d.data.pages
            (match d.repl with
             | some r => releasePages r.data.pages left
             | none => left))))))

/-- R30, R31, R32: a verification read of a descriptor or of its replacement. Each read before the last enters its
samples into the CRC. After the last, with the expected CRC, the target becomes READY with that data CRC and
SEGMENT_READY is raised with value 0, or 1 for a replacement, which is swapped in at once when its segment is not in
play (R38: REPLACEMENT_APPLIED follows, and the old pages return to the pool); with another CRC, and at an
uncorrectable word, whichever it is, the target is rejected: the descriptor becomes EMPTY, the replacement ceases to
exist, its pages return to the pool, and SEGMENT_REJECTED is raised with value 1 or 2, or 3 or 4 for a replacement. A
target judged leaves the queue.
(The outcome that a read finds is log entry 3's. Stated for a device with no lookahead standing and SEGMENT_MISSING
not active.) -/
def Obligations.VerificationJudgesTarget : Prop :=
  ∀ (w index : Nat) (found : ReadOutcome) (target : Target) (rest : List Target) (s : State), s.life = .up →
    w < 4194304 → target.seg < 64 → s.sequencer.lookahead = none → (source s 35).active = false →
    s.arbiter.granted = some { requestor := .link, op := .read w index .verify, live := true } →
    s.verifier.queue = target :: rest →
    let id := target.seg
    let d := descriptor s id
    let judges (data : SegData) (t : State) (ready lost corrupt : Prop) : Prop :=
      let samples := (wordSamples s.store w).take (data.count * data.frames - s.verifier.entered)
      let crc := crc32Samples s.verifier.crc samples
      let last := data.count * data.frames ≤ 4 * (s.verifier.nextWord + 1)
      (outcomeAt s.store w found = .uncorrectable → lost ∧ ∀ p, p ∈ data.pages → p ∈ t.pool) ∧
      (outcomeAt s.store w found ≠ .uncorrectable →
        (¬ last → t.segments = s.segments ∧ t.events = s.events ∧
          t.verifier = { queue := s.verifier.queue, nextWord := s.verifier.nextWord + 1,
                         entered := s.verifier.entered + samples.length, crc := crc }) ∧
        (last → crc32Final crc = data.expected → ready) ∧
        (last → crc32Final crc ≠ data.expected → corrupt ∧ ∀ p, p ∈ data.pages → p ∈ t.pool))
    let done (t : State) (e : Descriptor) (kind : EventKind) (value : Nat) : Prop :=
      descriptor t id = e ∧ t.verifier.queue = rest ∧ t.events = (raiseEvent kind id value s).events
    ∃ t, exec (.memoryRead found) s = .next t ∧
      (∀ j, j < 64 → j ≠ id → descriptor t j = descriptor s j) ∧
      t = { s with
            store := t.store, pool := t.pool, arbiter := t.arbiter, sweep := t.sweep, segments := t.segments
            verifier := t.verifier, events := t.events
            sequencer := { s.sequencer with carried := t.sequencer.carried } } ∧
      (target.repl = false →
        judges d.data t
          (done t { d with state := .ready, data := { d.data with dataCrc := some d.data.expected } } .segmentReady 0)
          (done t .blank .segmentRejected 2) (done t .blank .segmentRejected 1)) ∧
      ∀ r, target.repl = true → d.repl = some r →
        let data : SegData := { r.data with dataCrc := some r.data.expected }
        judges r.data t
          (if d.inPlay then done t { d with repl := some { state := .ready, data := data } } .segmentReady 1
            else
              descriptor t id = { state := .ready, data := data, doubleErrors := 0, inPlay := false, repl := none } ∧
                t.verifier.queue = rest ∧ (∀ p, p ∈ d.data.pages → p ∈ t.pool) ∧
                t.events = (raiseEvent .replacementApplied id r.data.frames (raiseEvent .segmentReady id 1 s)).events)
          (done t { d with repl := none } .segmentRejected 4) (done t { d with repl := none } .segmentRejected 3)

/-- R20, R40, R154: a scrub that reports UNCORRECTABLE reaches the page's owner. The first report marks a READY
descriptor DAMAGED and raises SEGMENT_DAMAGED with value 1, and drops a READY replacement: its pages return to the
pool and SEGMENT_REJECTED is raised with value 4. In a capture record it sets DAMAGED and raises CAPTURE_DAMAGED with
value 1. A descriptor or replacement in another state, and a record already DAMAGED, is left alone.
(Stated for a device with no lookahead standing. The outcome that a scrub finds is log entry 3's. That a page's report
reaches its owner of the moment, and that one that no one owns reports to no one, are the model's choices of log
entries 29 and 39.) -/
def Obligations.ScrubReportsToOwner : Prop :=
  ∀ (g : Grant) (p w : Nat) (found : ReadOutcome) (s : State), s.life = .up → s.sequencer.lookahead = none →
    s.arbiter.granted = some g → g.op = .scrub p w → p < 512 → w < 8192 →
    outcomeAt s.store (8192 * p + w) found = .uncorrectable →
    ∃ t, exec (.scrub found) s = .next t ∧
      t = { s with
            store := t.store, pool := t.pool, arbiter := t.arbiter, sweep := t.sweep, segments := t.segments
            capture := t.capture, events := t.events
            sequencer := { s.sequencer with carried := t.sequencer.carried } } ∧
      let quiet : Prop := t.events = s.events ∧ t.segments = s.segments ∧ t.capture = s.capture ∧ t.pool = s.pool
      (∀ id, ownerOf s p = some (.segment id) → id < 64 →
        ((descriptor s id).state = .ready →
          descriptor t id = { descriptor s id with state := .damaged } ∧
          (∀ j, j < 64 → j ≠ id → descriptor t j = descriptor s j) ∧
          t.events = (raiseEvent .segmentDamaged id 1 s).events) ∧
        ((descriptor s id).state ≠ .ready → quiet)) ∧
      (∀ id r, ownerOf s p = some (.replacement id) → id < 64 → (descriptor s id).repl = some r →
        (r.state = .ready →
          descriptor t id = { descriptor s id with repl := none } ∧
          (∀ j, j < 64 → j ≠ id → descriptor t j = descriptor s j) ∧
          (∀ q, q ∈ t.pool ↔ q ∈ s.pool ∨ q ∈ r.data.pages) ∧
          t.events = (raiseEvent .segmentRejected id 4 s).events) ∧
        (r.state ≠ .ready → quiet)) ∧
      (∀ i r, ownerOf s p = some (.capture i) → i < 32 → slot s i = some r →
        (r.damaged = false →
          slot t i = some { r with damaged := true } ∧ (∀ j, j < 32 → j ≠ i → slot t j = slot s j) ∧
          t.events = (raiseEvent .captureDamaged i 1 s).events) ∧
        (r.damaged = true → quiet)) ∧
      (ownerOf s p = none → quiet)

/-! ## The schedule (chapter 3) -/

/-- R48, R195: SCHED_APPEND judges its entries in turn, then the capacity, and appends them all. One entry of each
kind is laid out here; a batch appends what its entries decode to, or names the first that fails. (With no lookahead
standing.) -/
def Obligations.SchedAppendAddsEntries : Prop :=
  ∀ (tag : Byte) (s : State), linkFree s = true → s.sequencer.lookahead = none →
    let n := s.schedule.length
    let adds (body : List Byte) (es : List Entry) : Prop :=
      exec (.schedAppend tag body) s = .next (settle
        { s with schedule := s.schedule ++ es, link := answered s 0x30 tag .ok (.schedCount (n + es.length)) })
    let refused (body : List Byte) (status : Status) (b : ReplyBody) : Prop :=
      exec (.schedAppend tag body) s = .next (settle { s with link := answered s 0x30 tag status b })
    (∀ (seg edge flags x y : Byte) (g : BitVec 16) (a b : BitVec 32), n < 256 →
      let body := [0, seg] ++ le16 g ++ [edge, flags, x, y] ++ le32 a ++ le32 b
      if seg.toNat ≤ 63 ∧ edge.toNat ≤ 1 ∧ (flags.getLsbD 1 = true → a.toNat ≤ b.toNat ∧ b.toNat ≤ 1048575) then
        adds body [.play
          { seg := seg.toNat, gain := g, range := if flags.getLsbD 1 then some (a.toNat, b.toNat) else none,
            edge := if edge = 1 then .butted else .tapered, capture := flags.getLsbD 0 }]
      else refused body .badValue (.schedPosition 0)) ∧
    (∀ (x y z : Byte) (d : BitVec 32) (pad : List Byte), n < 256 → pad.length = 8 →
      let body := [1, x, y, z] ++ le32 d ++ pad
      if 1 ≤ d.toNat ∧ d.toNat ≤ 16777215 then adds body [.dwell d.toNat]
      else refused body .badValue (.schedPosition 0)) ∧
    (∀ (x : Byte) (j c : BitVec 16) (pad : List Byte), n < 256 → pad.length = 10 →
      let body := [2, x] ++ le16 j ++ le16 c ++ pad
      if 1 ≤ c.toNat ∧ j.toNat < n then adds body [.rep j.toNat c.toNat (c.toNat - 1)]
      else refused body .badValue (.schedPosition 0)) ∧
    (∀ (x : Byte) (v : BitVec 16) (pad : List Byte), n < 256 → pad.length = 12 →
      adds ([3, x] ++ le16 v ++ pad) [.mark v]) ∧
    (∀ (k : Byte) (pad : List Byte), 3 < k.toNat → pad.length = 15 →
      refused (k :: pad) .badValue (.schedPosition 0)) ∧
    ∀ (body : List Byte) (m : Nat), 1 ≤ m → m ≤ 8 → body.length = 16 * m →
      (∀ es, appendedEntries body n = .ok es →
        es.length = m ∧ if 256 < n + m then refused body .full .empty else adds body es) ∧
      ∀ k, appendedEntries body n = .error k → k < m ∧ refused body .badValue (.schedPosition k)

/-- R49, R50: SCHED_TRUNCATE removes the entries from k on, unless k lies above n or, with a run not STOPPED, reaches
the cursor or the entry in force; SCHED_CLEAR empties the list unless a run is not STOPPED. (SCHED_TRUNCATE with no
lookahead standing.) -/
def Obligations.SchedTruncateAndClearSpareRun : Prop :=
  (∀ (tag : Byte) (k : BitVec 16) (s : State), linkFree s = true → s.sequencer.lookahead = none →
    let touches : Prop := s.config.mode = .active ∧ s.run.state ≠ .stopped ∧
      (k.toNat ≤ s.sequencer.cursor ∨ ∃ e, s.sequencer.entry = some e ∧ k.toNat ≤ e)
    let refused (status : Status) : Prop :=
      exec (.schedTruncate tag (le16 k)) s = .next (settle { s with link := answered s 0x31 tag status .empty })
    (s.schedule.length < k.toNat → refused .badValue) ∧
    (k.toNat ≤ s.schedule.length → touches → refused .inUse) ∧
    (k.toNat ≤ s.schedule.length → ¬ touches →
      exec (.schedTruncate tag (le16 k)) s = .next (settle
        { s with
          schedule := s.schedule.take k.toNat, link := answered s 0x31 tag .ok (.schedCount k.toNat) }))) ∧
  ∀ (tag : Byte) (s : State), linkFree s = true →
    exec (.schedClear tag []) s = .next
      (if s.config.mode = .active ∧ s.run.state ≠ .stopped then
        { s with link := answered s 0x32 tag .wrongState .empty }
      else
        { s with
          schedule := []
          sequencer := { s.sequencer with cursor := 0, phase := .idle, position := 0 }
          link := answered s 0x32 tag .ok .empty })

/-- R46: every advance and every walk of the lookahead through a lawful schedule ends within the steps the model allows
it: more steps change nothing. -/
def Obligations.AdvanceEndsWithinItsSteps : Prop :=
  ∀ (extra i : Nat), i ≤ 256 →
    (∀ (es : List Entry) (reach : Nat), scheduleLaw es = true →
      walk (advanceFuel + extra) es i reach = walk advanceFuel es i reach) ∧
    ∀ s : State, scheduleLaw s.schedule = true →
      advance (advanceFuel + extra) i s = advance advanceFuel i s ∧
      seek (advanceFuel + extra) i s = seek advanceFuel i s

/-- R54 to R58, R63: an entry start at the cursor, or from SPENT at the next index, made when a resumed run is RUNNING
again. A DWELL starts; a PLAY whose segment is READY with the entry's frames starts too, handed to the segment table,
the pipeline, the summaries and the capture unit, and each start resolves its lookahead. Past the last entry the
schedule ends and the run is HOLDING. A MARK is raised and passed, a REPEAT counted and followed. A missing segment is
raised as SEGMENT_MISSING: under NOTE the entry is skipped, and frames prefetched for it serve no later play (R64),
under PAUSE the run waits in PAUSED at the entry, under STOP it is UNLOADING, under TRIP FROZEN. When the missing
segment's verification ends well, SEGMENT_MISSING ends, and with no other pause reason the run is RUNNING and the
entry starts. (What follows a MARK or a REPEAT is stated for a DWELL, what follows a skipped PLAY for a DWELL and a
PLAY.) -/
def Obligations.EntriesStartByTheirKind : Prop :=
  (∀ (tag : Byte) (i : Nat) (s : State), linkFree s = true → s.config.mode = .active → s.run.state = .paused →
    s.run.host = true → s.run.sources = [] → s.sequencer.joinPending = false → s.capture.closing = false →
    ((s.sequencer.phase = .awaiting ∧ i = s.sequencer.cursor) ∨
      (s.sequencer.phase = .spent ∧ i = s.sequencer.cursor + 1)) →
    (source s 35).active = false → actionLaw s = true →
    (s.faults.action = none ∨ s.faults.action = some .note ∨ s.faults.action = some .pause) →
    let resumed := raiseEvent .runResumed s.sequencer.cursor 0 s
    let started (t : State) (k : Nat) : Prop :=
      t.run.state = .running ∧ t.sequencer.phase = .inEntry ∧ t.sequencer.cursor = k ∧ t.sequencer.position = 0 ∧
        t.sequencer.entry = some k ∧ t.sequencer.lookahead = some (resolve t) ∧ t.pipeline.taper = s.pipeline.taper
    let dwells (t : State) (k d : Nat) (events : EventQueue) : Prop :=
      started t k ∧ t.pipeline.params = some (.dwell d) ∧ t.pipeline.continuation = false ∧ t.events = events
    ∃ t, exec (.runResume tag []) s = .next t ∧ t.link = answered s 0x42 tag .ok (.run (runBlock t)) ∧
      (s.schedule[i]? = none →
        t.run.state = .holding ∧ t.sequencer.phase = .ended ∧ t.sequencer.cursor = s.schedule.length ∧
          t.sequencer.entry = none ∧ t.events = (raiseEvent .scheduleEnded s.schedule.length 0 resumed).events) ∧
      (∀ d, s.schedule[i]? = some (.dwell d) → dwells t i d resumed.events ∧ t.schedule = s.schedule) ∧
      (∀ v d, s.schedule[i]? = some (.mark v) → s.schedule[i + 1]? = some (.dwell d) →
        dwells t (i + 1) d (raiseEvent .mark v.toNat i resumed).events) ∧
      (∀ j c m d, s.schedule[i]? = some (.rep j c m) →
        let k := if 0 < m then j else i + 1
        s.schedule[k]? = some (.dwell d) →
        dwells t k d resumed.events ∧
          t.schedule = s.schedule.set i (.rep j c (if 0 < m then m - 1 else c - 1))) ∧
      ∀ p, s.schedule[i]? = some (.play p) → p.seg < 64 →
        let d := descriptor s p.seg
        let range := p.range.getD (0, d.data.frames - 1)
        let fits := d.state = .ready ∧ ∀ r, p.range = some r → r.2 < d.data.frames
        let cls := (source s 35).cls
        let missing := BitVec.ofNat 16 (i * 64 + p.seg)
        (fits → started t i ∧ descriptor t p.seg = { d with inPlay := true } ∧
          t.pipeline.params = some (.play
            { entry := i, seg := p.seg, channels := d.data.channels, ratio := d.data.ratio, pages := d.data.pages
              first := range.1, last := range.2, gain := p.gain, edge := p.edge
              length := (range.2 - range.1 + 1) * d.data.ratio, byJoin := false, joinFailed := false
              substituted := false }) ∧
          t.pipeline.continuation = (decide (p.edge = .butted) && (resolve t).continues) ∧
          (∀ c, c < 16 → (tget t.pipeline.channels c).clampCount = 0 ∧ (tget t.pipeline.channels c).slewCount = 0) ∧
          ∃ o : OpenSummary,
            o = { ordinal := satInc s.summaries.ordinal, entry := i, seg := p.seg, captureId := o.captureId
                  playFrames := 0, feedback := Vector.replicate 32 { extremes := none, sumSquares := 0 }
                  memoryErrors := Vector.replicate 16 0 } ∧
            t.summaries = { s.summaries with ordinal := satInc s.summaries.ordinal, opened := some o } ∧
            (if p.capture then
              let u := openCapture i p.seg
                { resumed with summaries := { s.summaries with
                    ordinal := satInc s.summaries.ordinal, opened := some { o with captureId := none } } }
              t.capture = u.capture ∧ t.pool = u.pool ∧ t.events = u.events ∧ t.summaries = u.summaries
            else o.captureId = none ∧ t.capture = s.capture ∧ t.events = resumed.events)) ∧
        (¬ fits →
          (cls = .note → ∀ e, s.schedule[i + 1]? = some (.dwell e) →
            dwells t (i + 1) e (raiseEvent .entrySkipped i p.seg
              (raiseEvent .faultRaised 35 missing.toNat resumed)).events ∧ (source t 35).active = false) ∧
          (cls = .note → ∀ q, s.schedule[i + 1]? = some (.play q) → q.seg < 64 →
            let e := descriptor s q.seg
            e.state = .ready → (∀ r, q.range = some r → r.2 < e.data.frames) →
            started t (i + 1) ∧ t.sequencer.fetch.samples = [] ∧
              t.sequencer.fetch.nextWord = (q.range.getD (0, e.data.frames - 1)).1 * e.data.count / 4) ∧
          (cls = .pause →
            t.run = { s.run with host := false, sources := [35] } ∧ t.sequencer.phase = .awaiting ∧
              t.sequencer.cursor = i ∧ (source t 35).active = true ∧ (source t 35).subject = missing) ∧
          (cls = .stop → t.run.state = .unloading ∧ t.sequencer.phase = .idle ∧ t.sequencer.cursor = i) ∧
          (cls = .trip → t.run.state = .frozen ∧ t.sequencer.phase = .idle ∧ t.sequencer.cursor = i))) ∧
  ∀ (w index : Nat) (found : ReadOutcome) (rest : List Target) (p : PlayEntry) (s : State), s.life = .up →
    w < 4194304 → p.seg < 64 → s.sequencer.lookahead = none → s.config.mode = .active →
    s.arbiter.granted = some { requestor := .link, op := .read w index .verify, live := true } →
    s.verifier.queue = { seg := p.seg, repl := false } :: rest → (source s 35).active = true →
    (source s 35).cls = .pause → actionLaw s = true → s.run.state = .paused → s.sequencer.phase = .awaiting →
    s.sequencer.joinPending = false → s.capture.closing = false →
    s.schedule[s.sequencer.cursor]? = some (.play p) →
    let d := (descriptor s p.seg).data
    (∀ r, p.range = some r → r.2 < d.frames) → outcomeAt s.store w found ≠ .uncorrectable →
    d.count * d.frames ≤ 4 * (s.verifier.nextWord + 1) →
    crc32Final (crc32Samples s.verifier.crc
      ((wordSamples s.store w).take (d.count * d.frames - s.verifier.entered))) = d.expected →
    ∃ t, exec (.memoryRead found) s = .next t ∧ (source t 35).active = false ∧
      (if s.run.host = false ∧ s.run.sources.filter (fun k => k ≠ 35) = [] then
        t.run = { s.run with state := .running, sources := [] } ∧ t.sequencer.phase = .inEntry ∧
          t.sequencer.cursor = s.sequencer.cursor ∧ (descriptor t p.seg).inPlay = true
      else t.run = { s.run with sources := s.run.sources.filter (fun k => k ≠ 35) } ∧
        t.sequencer.phase = .awaiting)

/-- R59 to R61, R37, R160: the last drive frame of a PLAY. With no join in prospect the entry ends at once if the
taper counter is 0, its play ending before the advance, and otherwise goes on with run-out frames at the same drive
position. A BUTTED entry whose lookahead continues makes the join: where the successor is a PLAY whose data fit, E's
play ends with the swap if one waits, its summary with the joined flag, and the successor's play begins at the
standing taper counter; where it does not, nothing is raised for it, and E runs out with the cursor at the successor.
(The successor is the next entry, and no capture record is open. That the join is made in PAUSING too is log entry
31's.)
R61, R83, R59: after a last drive frame without a join in prospect, and after each run-out frame, in RUNNING and in
PAUSING: while the counter stands above 0 the entry goes on at drive position P; a run-out frame lowers the counter by
one. After the frame of counter 0 the entry ends: its play ends first, with the swap if one waits and its summary
queued, and then in RUNNING the advance is made from the cursor, or after a failed join check the entry start at it;
in PAUSING the run becomes PAUSED and the sequencer stands in SPENT, or in AWAITING. Where the frame just given is
still to be written to its capture record, the advance waits for that (R153). R59: after the dwell frame at position D - 1 the DWELL is over:
in RUNNING the advance is made at once, in PAUSING the run becomes PAUSED and the phase SPENT. (Of what an advance
meets, the end, a DWELL, a MARK before a DWELL and a PLAY that starts are stated out; the rest is that of `advance`
from the state described. The phase in the wait for a capture is log entry 43's. The boundaries stated close no missed
window and wait for no memory operation: logs 4 and 5.) -/
def Obligations.PlaysEndOrJoin : Prop :=
  (∀ (missFirst : Bool) (p : PlayParams) (o : OpenSummary) (s : State), s.life = .up → s.config.mode = .active →
    (∀ w, s.rig.window = some w → w.good = true) → s.pipeline.params = some (.play p) → p.seg < 64 →
    s.sequencer.fetch.dueWord ≤ s.sequencer.fetch.nextWord → s.capture.ops = [] → s.capture.current = none →
    s.capture.closing = false → s.sequencer.joinPending = false →
    (s.run.state = .running ∨ s.run.state = .pausing) →
    s.sequencer.phase = .inEntry → s.sequencer.position + 1 = p.length → p.joinFailed = false → s.summaries.opened = some o →
    s.summaries.queue.length ≤ 16 →
    let c := s.sequencer.cursor
    let i := frameTaper .play s
    let moved : RunControl :=
      { s.run with state := if s.run.state = .pausing ∧ i = 0 then .paused else s.run.state }
    let prospect := p.edge = .butted ∧ ∃ l, s.sequencer.lookahead = some l ∧ l.continues = true
    let runsOut (t : State) (q : PlayParams) (k : Nat) : Prop :=
      t.pipeline.params = some (.play q) ∧ t.sequencer.phase = .inEntry ∧ t.sequencer.cursor = k ∧
        t.sequencer.position = p.length ∧ t.sequencer.lookahead = none ∧ t.segments = s.segments ∧
        t.summaries.queue = s.summaries.queue
    let closed (t : State) (joined : Bool) : Prop :=
      ∃ m, t.summaries.queue.getLast? = some m ∧ m.ordinal = o.ordinal ∧ m.aborted = false ∧ m.joined = joined ∧
        m.playFrames = satInc o.playFrames ∧ m.counter = s.timebase.counter + 1
    let dwells (t : State) (d : Nat) : Prop :=
      t.pipeline.params = some (.dwell d) ∧ t.sequencer.phase = .inEntry ∧ t.sequencer.cursor = c + 1 ∧
        t.sequencer.position = 0 ∧ (descriptor t p.seg).inPlay = false ∧ closed t false
    ∃ t, exec (.frameBoundary missFirst) s = .next t ∧ t.pipeline.taper = i ∧
      (¬ prospect →
        (i ≠ 0 → runsOut t p c) ∧
        (i = 0 → s.run.state = .running →
          (∀ d, s.schedule[c + 1]? = some (.dwell d) → dwells t d ∧ t.run = s.run) ∧
          (s.schedule[c + 1]? = none → t.run = { s.run with state := .holding } ∧ t.sequencer.phase = .ended ∧
            (descriptor t p.seg).inPlay = false ∧ closed t false))) ∧
      (prospect →
        (∀ d, s.schedule[c + 1]? = some (.dwell d) →
          (i ≠ 0 → runsOut t { p with joinFailed := true } (c + 1)) ∧
          (i = 0 → s.run.state = .running → dwells t d)) ∧
        ∀ q, s.schedule[c + 1]? = some (.play q) → q.seg < 64 →
          let d := descriptor s q.seg
          let waiting : Option SegData :=
            match d.repl with
            | some r => if q.seg = p.seg ∧ r.state = .ready then some r.data else none
            | none => none
          let data := waiting.or (if d.state = .ready then some d.data else none)
          let fits := ∃ e, data = some e ∧ ∀ r, q.range = some r → r.2 < e.frames
          (¬ fits → i ≠ 0 → runsOut t { p with joinFailed := true } (c + 1) ∧ t.events = s.events) ∧
          ∀ e, fits → data = some e →
            let range := q.range.getD (0, e.frames - 1)
            t.pipeline.params = some (.play
              { entry := c + 1, seg := q.seg, channels := e.channels, ratio := e.ratio, pages := e.pages
                first := range.1, last := range.2, gain := q.gain, edge := q.edge
                length := (range.2 - range.1 + 1) * e.ratio, byJoin := true, joinFailed := false
                substituted := false }) ∧
            t.sequencer.phase = .inEntry ∧ t.sequencer.cursor = c + 1 ∧ t.sequencer.position = 0 ∧ t.run = moved ∧
            (descriptor t q.seg).inPlay = true ∧ (descriptor t q.seg).data = e ∧
            (q.seg ≠ p.seg → (descriptor t p.seg).inPlay = false) ∧ closed t true ∧
            t.sequencer.lookahead = some (resolve t))) ∧
  ∀ (missFirst : Bool) (s : State), s.life = .up → s.config.mode = .active → nothingDue s → closesNoMiss s →
    s.sequencer.phase = .inEntry → s.sequencer.joinPending = false → s.capture.closing = false →
    (s.run.state = .running ∨ s.run.state = .pausing) →
    let c := s.sequencer.cursor
    let counted : State := { s with timebase := { s.timebase with counter := s.timebase.counter + 1 } }
    let stands (t : State) (phase : Phase) : Prop :=
      t.sequencer.phase = phase ∧ t.sequencer.cursor = c ∧ t.sequencer.position = 0 ∧ t.sequencer.entry = none ∧
        t.sequencer.lookahead = none ∧ t.pipeline.params = none ∧ t.pipeline.continuation = false ∧
        t.schedule = s.schedule
    let enters (t : State) (k : Nat) : Prop :=
      t.run = s.run ∧ t.sequencer.phase = .inEntry ∧ t.sequencer.cursor = k ∧ t.sequencer.position = 0 ∧
        t.sequencer.entry = some k ∧ t.sequencer.lookahead = some (resolve t)
    let advances (t : State) (phase : Phase) (k : Nat) (table : Nat → Descriptor) (told : State) : Prop :=
      (∃ u, t = settle (callReads (advance advanceFuel k u)) ∧ stands u phase ∧ u.run = s.run ∧ u.faults = s.faults ∧
        u.events = told.events ∧ u.config = s.config ∧ ∀ id, id < 64 → descriptor u id = table id) ∧
      (s.schedule[k]? = none →
        t.run = { s.run with state := .holding } ∧ t.sequencer.phase = .ended ∧
          t.sequencer.cursor = s.schedule.length ∧ t.sequencer.position = 0 ∧ t.pipeline.params = none ∧
          t.events = (raiseEvent .scheduleEnded s.schedule.length 0 told).events) ∧
      (∀ d, s.schedule[k]? = some (.dwell d) →
        enters t k ∧ t.pipeline.params = some (.dwell d) ∧ t.events = told.events) ∧
      (∀ v d, s.schedule[k]? = some (.mark v) → s.schedule[k + 1]? = some (.dwell d) →
        enters t (k + 1) ∧ t.pipeline.params = some (.dwell d) ∧
          t.events = (raiseEvent .mark v.toNat k told).events) ∧
      ∀ q, s.schedule[k]? = some (.play q) → q.seg < 64 →
        let e := (table q.seg).data
        let range := q.range.getD (0, e.frames - 1)
        (table q.seg).state = .ready → (∀ r, q.range = some r → r.2 < e.frames) →
        enters t k ∧ descriptor t q.seg = { table q.seg with inPlay := true } ∧
          t.pipeline.params = some (.play
            { entry := k, seg := q.seg, channels := e.channels, ratio := e.ratio, pages := e.pages
              first := range.1, last := range.2, gain := q.gain, edge := q.edge
              length := (range.2 - range.1 + 1) * e.ratio, byJoin := false, joinFailed := false
              substituted := false })
    ∃ t, exec (.frameBoundary missFirst) s = .next t ∧
      (∀ d, s.pipeline.params = some (.dwell d) → s.sequencer.position + 1 = d →
        (s.run.state = .running → advances t .spent (c + 1) (descriptor s) counted) ∧
        (s.run.state = .pausing →
          stands t .spent ∧ t.pipeline.taper = s.pipeline.taper ∧ t.events = s.events ∧
          t.run = { s.run with state := if s.pipeline.taper = 0 then .paused else .pausing })) ∧
      ∀ p o, s.pipeline.params = some (.play p) → p.seg < 64 → s.summaries.opened = some o →
        s.summaries.queue.length ≤ 16 →
        ((s.sequencer.position = p.length ∧ s.sequencer.lookahead = none ∧ s.pipeline.continuation = false) ∨
          (s.sequencer.position + 1 = p.length ∧
            ¬ (p.edge = .butted ∧ ∃ l, s.sequencer.lookahead = some l ∧ l.continues = true))) →
        let i := frameTaper (frameKind s) s
        let phase : Phase := if p.joinFailed then .awaiting else .spent
        let d := descriptor s p.seg
        let swapped : Option SegData :=
          match d.repl with
          | some r => if r.state = .ready then some r.data else none
          | none => none
        let ended : Descriptor :=
          match swapped with
          | some e => { state := .ready, data := e, doubleErrors := 0, inPlay := false, repl := none }
          | none => { d with inPlay := false }
        let applied : State :=
          match swapped with
          | some e => raiseEvent .replacementApplied p.seg e.frames counted
          | none => counted
        let closed : Prop :=
          ∃ m, t.summaries.queue.getLast? = some m ∧ m.ordinal = o.ordinal ∧ m.aborted = false ∧ m.joined = false ∧
            m.playFrames = satInc o.playFrames ∧ m.counter = s.timebase.counter + 1
        let captures (j : Nat) (r : CaptureRecord) : Prop :=
          s.capture.current = some j ∧ slot s j = some r ∧ r.state = .filling ∧
            (s.sequencer.position = p.length ∨ s.sequencer.position % p.ratio = 0)
        t.pipeline.taper = i ∧ (s.sequencer.position = p.length → i = s.pipeline.taper - 1) ∧
        (i ≠ 0 →
          t.run = s.run ∧ t.pipeline = { (formFrame s).pipeline with continuation := t.pipeline.continuation } ∧
          t.sequencer = { s.sequencer with
            position := p.length, lookahead := none, fetch := t.sequencer.fetch } ∧
          t.schedule = s.schedule ∧ t.segments = s.segments ∧ t.summaries.queue = s.summaries.queue ∧
          ∃ o', t.summaries.opened = some o' ∧ o'.ordinal = o.ordinal ∧ o'.playFrames = satInc o.playFrames) ∧
        (i = 0 →
          closed ∧
          (s.run.state = .pausing →
            stands t phase ∧ t.run = { s.run with state := .paused } ∧ descriptor t p.seg = ended) ∧
          (s.run.state = .running → (∀ j r, ¬ captures j r) →
            advances t phase (if p.joinFailed then c else c + 1)
              (fun id => if id = p.seg then ended else descriptor s id)
              (raiseEvent .summaryQueued o.entry o.ordinal.toNat applied)) ∧
          ∀ j r, s.run.state = .running → captures j r → 0 < maskCount r.channels →
            ((r.frames + 1) * maskCount r.channels ≤ 32768 * r.pages.length ∨ s.pool ≠ []) →
            stands t phase ∧ t.run = s.run ∧ descriptor t p.seg = ended ∧ t.capture.closing = true)

/-- R63: the resolution walks from cursor + 1 by the rules of an advance, on its own copy of the remaining counters,
to the first PLAY or DWELL or to the end; it continues where a PLAY's data fit. R64: a PLAY's first one or two frames
are prefetched from the data it would play; a prefetch read that fails counts in the descriptor, which becomes
DAMAGED, or drops the READY replacement it read; prefetched frames serve a play of the same data and are discarded
otherwise. R65: the lookahead is redone by an append at "end of schedule", by a truncation that touches its reach, and
by the change of the successor's segment that such a read makes.
(One MARK or REPEAT on the walk is stated. Frames the data do not have are not prefetched: log entry 22. That a
waiting READY replacement is prefetched also where its descriptor is DAMAGED is log entry 47's, and the outcome that a
read finds log entry 3's.) -/
def Obligations.LookaheadFollowsScheduleAndSegments : Prop :=
  (∀ s : State,
    let c := s.sequencer.cursor
    let ahead (k reach : Nat) : Prop :=
      (s.schedule[k]? = none →
        resolve s = { successor := none, continues := false, reach := s.schedule.length, prefetch := none }) ∧
      (∀ d, s.schedule[k]? = some (.dwell d) →
        resolve s = { successor := some k, continues := false, reach := reach, prefetch := none }) ∧
      ∀ q, s.schedule[k]? = some (.play q) →
        let d := descriptor s q.seg
        let waits (r : Replacement) : Prop :=
          d.repl = some r ∧ r.state = .ready ∧ ∃ p, s.pipeline.params = some (.play p) ∧ p.seg = q.seg
        let plays (repl : Bool) (e : SegData) : Prop :=
          let range := q.range.getD (0, e.frames - 1)
          let last := min (if range.1 < range.2 then range.1 + 1 else range.2) (e.frames - 1)
          (resolve s).successor = some k ∧ (resolve s).reach = reach ∧
          ((resolve s).continues = true ↔ ∀ r, q.range = some r → r.2 < e.frames) ∧
          (range.1 < e.frames → range.1 ≤ range.2 →
            (resolve s).prefetch = some
              { seg := q.seg, fromRepl := repl, pages := e.pages, lo := range.1 * e.count, hi := (last + 1) * e.count
                samples := [], nextWord := range.1 * e.count / 4, stopWord := ((last + 1) * e.count + 3) / 4 })
        (∀ r, waits r → plays true r.data) ∧
        ((∀ r, ¬ waits r) → d.state = .ready → plays false d.data) ∧
        ((∀ r, ¬ waits r) → d.state ≠ .ready →
          resolve s = { successor := some k, continues := false, reach := reach, prefetch := none })
    ahead (c + 1) (c + 1) ∧
    (∀ v, s.schedule[c + 1]? = some (.mark v) → ahead (c + 2) (c + 2)) ∧
    ∀ j n m, s.schedule[c + 1]? = some (.rep j n m) → j ≤ c →
      (0 < m → ahead j (c + 1)) ∧ (m = 0 → ahead (c + 2) (c + 2))) ∧
  (∀ (p : PlayParams) (f : Prefetch),
    let lo := p.first * maskCount p.channels
    let same := f.seg = p.seg ∧ f.fromRepl = false ∧ f.pages = p.pages ∧ f.lo = lo
    (same → (initialFetch p (some f)).samples = f.samples ∧ (initialFetch p (some f)).nextWord = f.nextWord) ∧
    (¬ same → (initialFetch p (some f)).samples = [] ∧ (initialFetch p (some f)).nextWord = lo / 4) ∧
    (initialFetch p none).samples = [] ∧ (initialFetch p none).nextWord = lo / 4) ∧
  (∀ (tag : Byte) (l : Lookahead) (s : State), linkFree s = true → s.sequencer.lookahead = some l →
    (∀ (body : List Byte) (es : List Entry), schedAppendFits body = true →
      appendedEntries body s.schedule.length = .ok es → s.schedule.length + es.length ≤ 256 →
      ∃ t, exec (.schedAppend tag body) s = .next t ∧ t.schedule = s.schedule ++ es ∧
        t.sequencer.lookahead = some (if l.successor = none then resolve t else l)) ∧
    ∀ k : BitVec 16, k.toNat ≤ s.schedule.length → s.sequencer.cursor < k.toNat →
      (∀ e, s.sequencer.entry = some e → e < k.toNat) →
      ∃ t, exec (.schedTruncate tag (le16 k)) s = .next t ∧ t.schedule = s.schedule.take k.toNat ∧
        t.sequencer.lookahead = some (if k.toNat ≤ l.reach then resolve t else l)) ∧
  ∀ (w index : Nat) (found : ReadOutcome) (l : Lookahead) (q : Prefetch) (s : State), s.life = .up → w < 4194304 →
    s.arbiter.granted = some { requestor := .playback, op := .read w index .prefetch, live := true } →
    s.sequencer.lookahead = some l → l.prefetch = some q → q.seg < 64 →
    (∃ j e, l.successor = some j ∧ s.schedule[j]? = some (.play e) ∧ e.seg = q.seg) →
    let d := descriptor s q.seg
    let bad := outcomeAt s.store w found = .uncorrectable
    let asked := (List.range 4).filter (fun k => decide (q.lo ≤ 4 * index + k))
    let lost := asked.filter (fun k => decide (4 * index + k < q.hi))
    let errors : BitVec 32 := satAdd d.doubleErrors lost.length
    ∃ t, exec (.memoryRead found) s = .next t ∧ t.run = s.run ∧ t.pipeline.params = s.pipeline.params ∧
      (¬ bad → t.segments = s.segments ∧ t.events = s.events ∧
        t.sequencer.lookahead = some { l with prefetch := some { q with
          nextWord := index + 1
          samples := q.samples ++ asked.map (fun k => (4 * index + k, (wordSamples s.store w).getD k 0)) } }) ∧
      (bad → q.fromRepl = false →
        (d.state = .ready →
          descriptor t q.seg = { d with state := .damaged, doubleErrors := errors } ∧
          t.events = (raiseEvent .segmentDamaged q.seg 3 s).events ∧ t.sequencer.lookahead = some (resolve t)) ∧
        (d.state ≠ .ready → descriptor t q.seg = { d with doubleErrors := errors } ∧ t.events = s.events)) ∧
      (bad → q.fromRepl = true → ∀ r, d.repl = some r → r.state = .ready →
        descriptor t q.seg = { d with repl := none } ∧ (∀ x, x ∈ r.data.pages → x ∈ t.pool) ∧
        t.events = (raiseEvent .segmentRejected q.seg 4 s).events ∧ t.sequencer.lookahead = some (resolve t))

/-! ## Run control and pressure (chapter 5) -/

/-- R89, R90: outside ACTIVE every run, pressure and hold-out request of a fitting length is answered WRONG_STATE,
with the run block of a device that has no run, and changes nothing. RUN_START makes its six checks in order; when all
pass the run is STARTING, every REPEAT's counter is set to count - 1, the cursor stands at the index in AWAITING, the
pass ordinal is 0 and RUN_STARTED is raised. -/
def Obligations.RunStartBeginsRun : Prop :=
  (∀ (tag b : Byte) (i : BitVec 16) (s : State), linkFree s = true → s.config.mode ≠ .active →
    let none : ReplyBody := .run { state := .stopped, pause := [], holdOut := [], pressure := .low }
    let reply (kind : Byte) : State := { s with link := answered s kind tag .wrongState none }
    exec (.runStart tag (le16 i)) s = .next (reply 0x40) ∧ exec (.runPause tag []) s = .next (settle (reply 0x41)) ∧
    exec (.runResume tag []) s = .next (settle (reply 0x42)) ∧ exec (.runStop tag []) s = .next (settle (reply 0x43)) ∧
    exec (.runUnload tag []) s = .next (settle (reply 0x44)) ∧ exec (.pressureOn tag []) s = .next (reply 0x45) ∧
    exec (.pressureOff tag []) s = .next (reply 0x46) ∧ exec (.holdOut tag [b]) s = .next (reply 0x47) ∧
    exec (.restore tag [b]) s = .next (reply 0x48)) ∧
  ∀ (tag : Byte) (i : BitVec 16) (s : State), linkFree s = true → s.config.mode = .active →
    let refused (status : Status) : Prop :=
      exec (.runStart tag (le16 i)) s = .next { s with link := answered s 0x40 tag status (.run (runBlock s)) }
    let held := ∃ k, k < 38 ∧ (source s k).active = true ∧ ((source s k).cls = .stop ∨ (source s k).cls = .trip)
    let waits := s.run.grace = .counting ∨ s.run.unload = .inStopped
    (s.run.state ≠ .stopped → refused .wrongState) ∧
    (s.run.state = .stopped → s.schedule.length ≤ i.toNat → refused .badValue) ∧
    (s.run.state = .stopped → i.toNat < s.schedule.length → held → refused .faultsPresent) ∧
    (s.run.state = .stopped → i.toNat < s.schedule.length → ¬ held → s.run.pressure = .low → refused .wrongState) ∧
    (s.run.state = .stopped → i.toNat < s.schedule.length → ¬ held → s.run.pressure = .high → waits →
      refused .busy) ∧
    (s.run.state = .stopped → i.toNat < s.schedule.length → ¬ held → s.run.pressure = .high → ¬ waits →
      exec (.runStart tag (le16 i)) s = .next (raiseEvent .runStarted i.toNat 0
        { s with
          run := { s.run with state := .starting }
          schedule := s.schedule.map (fun e => match e with
            | .rep j c _ => .rep j c (c - 1)
            | e => e)
          summaries := { s.summaries with ordinal := 0 }
          sequencer := { s.sequencer with
            cursor := i.toNat, phase := .awaiting, position := 0, entry := none, carried := none, joinPending := false }
          link := answered s 0x40 tag .ok (.run
            { state := .starting, pause := pauseSet s, holdOut := s.run.holdOut, pressure := .high }) }))

/-- R93, R94, R95: RUN_PAUSE puts HOST in the pause-reason set and raises RUN_PAUSED, once, and a RUNNING run becomes
PAUSING, or PAUSED with no entry in force. RUN_RESUME takes HOST out; when that empties the set of a PAUSING or PAUSED
run, the run is RUNNING again with RUN_RESUMED, its entry going on from the same drive position.
(A joined successor that waits for the capture close counts as an entry in force: log entry 12. That a RUN_PAUSE which
makes the run PAUSED discards the frames carried for a successor is the model's reading of R64: log entry 38.) -/
def Obligations.PauseAndResumeFollowHost : Prop :=
  ∀ (tag : Byte) (s : State), linkFree s = true → s.config.mode = .active →
    let goes := s.run.state = .starting ∨ s.run.state = .running ∨ s.run.state = .pausing ∨ s.run.state = .paused
    let block (state : RunState) (pause : List PauseReason) : ReplyBody :=
      .run { state := state, pause := pause, holdOut := s.run.holdOut, pressure := s.run.pressure }
    let same (c : Instr) (kind : Byte) (status : Status) : Prop :=
      exec c s = .next (settle { s with link := answered s kind tag status (.run (runBlock s)) })
    let follows : RunState :=
      if s.run.state = .running then
        (if s.sequencer.phase = .inEntry ∨ s.sequencer.joinPending = true then .pausing else .paused)
      else s.run.state
    (goes → s.run.host = true → same (.runPause tag []) 0x41 .ok) ∧
    (goes → s.run.host = false →
      exec (.runPause tag []) s = .next (settle (raiseEvent .runPaused s.sequencer.cursor 0
        { s with
          run := { s.run with host := true, state := follows }
          sequencer := { s.sequencer with
            carried := if s.run.state = .running ∧ follows = .paused then none else s.sequencer.carried }
          link := answered s 0x41 tag .ok (block follows (.host :: s.run.sources.map .source)) }))) ∧
    (¬ goes → same (.runPause tag []) 0x41 .wrongState) ∧
    (s.run.host = false → same (.runResume tag []) 0x42 .ok) ∧
    (s.run.host = true → (s.run.sources ≠ [] ∨ (s.run.state ≠ .pausing ∧ s.run.state ≠ .paused)) →
      exec (.runResume tag []) s = .next (settle
        { s with
          run := { s.run with host := false }
          link := answered s 0x42 tag .ok (block s.run.state (s.run.sources.map .source)) })) ∧
    (s.run.host = true → s.run.sources = [] → (s.run.state = .pausing ∨ s.run.state = .paused) →
      s.sequencer.phase = .inEntry → s.sequencer.joinPending = false →
      ∃ t, exec (.runResume tag []) s = .next t ∧
        t.run = { s.run with host := false, state := .running } ∧ t.pipeline = s.pipeline ∧
        t.sequencer = { s.sequencer with fetch := t.sequencer.fetch } ∧
        t.events = (raiseEvent .runResumed s.sequencer.cursor (if s.run.state = .pausing then 1 else 0) s).events ∧
        t.link = answered s 0x42 tag .ok (block .running []))

/-- R53, R62, R84, R99, R100, R135: RUN_STOP moves a run to PARKING and RUN_UNLOAD to UNLOADING: the entry in force is
aborted, the phase is IDLE with the cursor kept, SEGMENT_MISSING is no longer active, the setpoints and the taper
counter stand and the stop taper begins if that counter is above 0; the schedule, the monitors, the configuration and
every descriptor but the played segment's, or that of a joined successor still to begin, are as before, and so is the
store, but for an operation granted on a page that a swap releases, which completes first (R11). In the other states
each is answered OK and changes nothing.
(The joined successor is log entry 43's; the outcome of the completed operation log entry 42's.) -/
def Obligations.StopAndUnloadAbortEntry : Prop :=
  ∀ (tag : Byte) (s : State), linkFree s = true → s.config.mode = .active →
    let moves (c : Instr) (kind : Byte) (state : RunState) : Prop :=
      ∃ t, exec c s = .next t ∧ t.run = { s.run with state := state, sources := t.run.sources } ∧
        t.sequencer.phase = .idle ∧ t.sequencer.cursor = s.sequencer.cursor ∧ t.sequencer.entry = none ∧
        t.sequencer.lookahead = none ∧ t.pipeline.params = none ∧ t.pipeline.taper = s.pipeline.taper ∧
        t.pipeline.stopTaper = decide (0 < s.pipeline.taper) ∧
        (∀ ch, ch < 16 → (tget t.pipeline.channels ch).previous = (tget s.pipeline.channels ch).previous ∧
          (tget t.pipeline.channels ch).held = (tget s.pipeline.channels ch).held) ∧
        (source t 35).active = false ∧ t.link = answered s kind tag .ok (.run (runBlock t)) ∧
        (∀ id, id < 64 → (∀ p, s.pipeline.params = some (.play p) → p.seg ≠ id) →
          (∀ p, s.sequencer.joinPending = true → s.schedule[s.sequencer.cursor]? = some (.play p) → p.seg ≠ id) →
          descriptor t id = descriptor s id) ∧
        (t.store = s.store ∨ t.store = completeInStore s) ∧
        t = { s with
              store := t.store, arbiter := t.arbiter, sweep := t.sweep, pool := t.pool, segments := t.segments
              sequencer := t.sequencer, pipeline := t.pipeline, run := t.run, faults := t.faults, capture := t.capture, summaries := t.summaries
              events := t.events, link := t.link }
    let same (c : Instr) (kind : Byte) : Prop :=
      exec c s = .next (settle { s with link := answered s kind tag .ok (.run (runBlock s)) })
    (if s.run.state ∈ [.starting, .running, .pausing, .paused, .holding] then moves (.runStop tag []) 0x43 .parking
      else same (.runStop tag []) 0x43) ∧
    (if s.run.state ∈ [.starting, .running, .pausing, .paused, .holding, .parking] ∨
        (s.run.state = .stopped ∧ s.run.unload ≠ .inStopped) then moves (.runUnload tag []) 0x44 .unloading
      else same (.runUnload tag []) 0x44)

/-- R103, R36, R37, R86, R153, R160: a stop aborts the play in progress: its segment is no longer in play and a
waiting READY replacement is swapped in, then its summary is queued with the aborted flag and the counts the pipeline
hands over, which return to 0, and then its FILLING record closes COMPLETE with ended-early set, whatever of its last
frame is still being written. The events show the order: REPLACEMENT_APPLIED, if a swap was made, before
SUMMARY_QUEUED. (Stated with SEGMENT_MISSING not active and no joined successor waiting. A frame still being written
is log entry 26's.) -/
def Obligations.StopAbortsPlayInOrder : Prop :=
  ∀ (tag : Byte) (p : PlayParams) (o : OpenSummary) (i : Nat) (r : CaptureRecord) (s : State), linkFree s = true →
    s.config.mode = .active → (s.run.state = .running ∨ s.run.state = .pausing ∨ s.run.state = .paused) →
    s.pipeline.params = some (.play p) → p.seg < 64 → s.summaries.opened = some o → s.summaries.queue.length ≤ 16 →
    s.capture.current = some i → i < 32 → slot s i = some r → r.state = .filling → (source s 35).active = false →
    s.sequencer.joinPending = false →
    ∃ t m, exec (.runStop tag []) s = .next t ∧
      (match (descriptor s p.seg).repl with
       | some rep =>
         descriptor t p.seg =
           if rep.state = .ready then
             { state := .ready, data := rep.data, doubleErrors := 0, inPlay := false, repl := none }
           else { descriptor s p.seg with inPlay := false }
       | none => descriptor t p.seg = { descriptor s p.seg with inPlay := false }) ∧
      t.summaries.opened = none ∧ t.summaries.queue.getLast? = some m ∧
      m.aborted = true ∧ m.joined = false ∧ m.ordinal = o.ordinal ∧ m.entry = o.entry ∧ m.seg = o.seg ∧
      m.captureId = o.captureId ∧ m.playFrames = o.playFrames ∧ m.counter = s.timebase.counter ∧
      m.noSamples = decide (o.playFrames = 0) ∧
      (∀ c, c < 16 → tget m.drive c =
        { clampCount := if enabled s c then (tget s.pipeline.channels c).clampCount else 0
          slewCount := if enabled s c then (tget s.pipeline.channels c).slewCount else 0
          memoryErrors := tget o.memoryErrors c }) ∧
      (∀ c, c < 16 → (tget t.pipeline.channels c).clampCount = 0 ∧ (tget t.pipeline.channels c).slewCount = 0) ∧
      slot t i = some { r with state := .complete, endedEarly := true } ∧ t.capture.current = none ∧
      t.capture.closing = false ∧
      let applied : State :=
        match (descriptor s p.seg).repl with
        | some rep => if rep.state = .ready then raiseEvent .replacementApplied p.seg rep.data.frames s else s
        | none => s
      t.events = (raiseEvent .summaryQueued o.entry o.ordinal.toNat applied).events

/-- R108, R109, R110, R107: PRESSURE_ON makes its four checks in order and raises the line, with the ready grace
counting or, when it is 0, ELAPSED; on a line already high it changes nothing. PRESSURE_OFF in STOPPED makes the line
low at once, both timers IDLE and the monitors' counters 0. -/
def Obligations.PressureRequestsMoveLine : Prop :=
  ∀ (tag : Byte) (s : State), linkFree s = true → s.config.mode = .active →
    let same (c : Instr) (kind : Byte) (status : Status) : Prop :=
      exec c s = .next { s with link := answered s kind tag status (.run (runBlock s)) }
    let block (level : Level) : ReplyBody :=
      .run { state := .stopped, pause := pauseSet s, holdOut := s.run.holdOut, pressure := level }
    let held := ∃ k, k < 38 ∧ (source s k).active = true ∧ ((source s k).cls = .stop ∨ (source s k).cls = .trip)
    let passes := s.run.state = .stopped ∧ s.permit.filtered = .high ∧ ¬ held ∧ s.run.unload ≠ .inStopped
    (s.run.state ≠ .stopped → same (.pressureOn tag []) 0x45 .wrongState ∧ same (.pressureOff tag []) 0x46 .wrongState) ∧
    (s.run.state = .stopped → s.permit.filtered = .low → same (.pressureOn tag []) 0x45 .wrongState) ∧
    (s.run.state = .stopped → s.permit.filtered = .high → held → same (.pressureOn tag []) 0x45 .faultsPresent) ∧
    (s.run.state = .stopped → s.permit.filtered = .high → ¬ held → s.run.unload = .inStopped →
      same (.pressureOn tag []) 0x45 .busy) ∧
    (passes → s.run.pressure = .high → same (.pressureOn tag []) 0x45 .ok) ∧
    (passes → s.run.pressure = .low →
      exec (.pressureOn tag []) s = .next
        { s with
          run := { s.run with
            pressure := .high, grace := if (general s).graceMs = 0 then .elapsed else .counting }
          link := answered s 0x45 tag .ok (block .high) }) ∧
    (s.run.state = .stopped → s.run.pressure = .low → same (.pressureOff tag []) 0x46 .ok) ∧
    (s.run.state = .stopped → s.run.pressure = .high →
      exec (.pressureOff tag []) s = .next
        { s with
          run := { s.run with pressure := .low, grace := .idle, unload := .idle }
          monitors := tmap (fun _ m => { m with outside := 0, inside := 0 }) s.monitors
          link := answered s 0x46 tag .ok (block .low) })

/-- R111, R112, R132: HOLD_OUT adds an enabled channel whose hold-out is permitted to the hold-out set and RESTORE takes
an enabled channel out, in STOPPED, PAUSED and HOLDING only; each change clears the counters of the monitors the channel
owns. -/
def Obligations.HoldOutChangesSet : Prop :=
  ∀ (tag b : Byte) (s : State), linkFree s = true → s.config.mode = .active →
    let c := b.toNat
    let body (holdOut : List Nat) : ReplyBody :=
      .run { state := s.run.state, pause := pauseSet s, holdOut := holdOut, pressure := s.run.pressure }
    let same (i : Instr) (kind : Byte) (status : Status) : Prop :=
      exec i s = .next { s with link := answered s kind tag status (body s.run.holdOut) }
    let changes (i : Instr) (kind : Byte) (holdOut : List Nat) : Prop :=
      exec i s = .next
        { s with
          run := { s.run with holdOut := holdOut }
          monitors := tmap (fun _ m => if m.record.owner.toNat = c then { m with outside := 0, inside := 0 } else m)
            s.monitors
          link := answered s kind tag .ok (body holdOut) }
    let rests := s.run.state = .stopped ∨ s.run.state = .paused ∨ s.run.state = .holding
    (15 < c → same (.holdOut tag [b]) 0x47 .badValue ∧ same (.restore tag [b]) 0x48 .badValue) ∧
    (c ≤ 15 → ¬ rests → same (.holdOut tag [b]) 0x47 .wrongState ∧ same (.restore tag [b]) 0x48 .wrongState) ∧
    (c ≤ 15 → rests → (channelRec s c).enabled ≠ 1 →
      same (.holdOut tag [b]) 0x47 .badValue ∧ same (.restore tag [b]) 0x48 .badValue) ∧
    (c ≤ 15 → rests → (channelRec s c).enabled = 1 →
      (if (channelRec s c).holdOutPermitted ≠ 1 then same (.holdOut tag [b]) 0x47 .badValue
        else if c ∈ s.run.holdOut then same (.holdOut tag [b]) 0x47 .ok
        else changes (.holdOut tag [b]) 0x47 (insertNum c s.run.holdOut)) ∧
      (if c ∈ s.run.holdOut then changes (.restore tag [b]) 0x48 (s.run.holdOut.filter (fun k => k ≠ c))
        else same (.restore tag [b]) 0x48 .ok))

/-- R105, R110: the timers' expiries in ready grace, in UNLOADING and in STOPPED. R91, R96, R101, R102: what a frame
boundary's report does to the run. STARTING ends at the first frame with every enabled channel at its mean, in PAUSED
while a pause reason stands and otherwise in RUNNING; PAUSING ends after a frame of taper counter 0; PARKING ends in
STOPPED, and UNLOADING's ramp in the delay or in STOPPED, at the first park frame with every enabled channel at its
park value. (Of the entry that RUNNING starts, a DWELL is stated here.) R71, R59, R61, R82, R85: a play frame before
the last drive frame, and a dwell frame before the last, raise the drive position by one, in RUNNING and in PAUSING;
nothing else of the run, the schedule, the entry in force or the lookahead moves, but that PAUSING ends as said. R55: a
play that goes on then calls the words of its next play frame, and keeps the samples that frame and its substitutes
need. In the other run states the sequencer stands still, and in STOPPED, PAUSED, HOLDING and FROZEN the run too.
(An expiry of a timer that is not counting changes nothing: log entry 2. The boundaries stated close no missed window
and wait for no memory operation: logs 4 and 5.) -/
def Obligations.ArrivalsAndTimersMoveRun : Prop :=
  (∀ s : State,
    let quiet : Vector Monitor 32 := tmap (fun _ m => { m with outside := 0, inside := 0 }) s.monitors
    (exec .readyGraceExpiry s =
      .next (if s.run.grace = .counting then { s with run := { s.run with grace := .elapsed } } else s)) ∧
    (exec .unloadDelayExpiry s =
      .next (if s.run.unload = .inUnloading then
          raiseEvent .unloadDone s.sequencer.cursor 0
            { s with
              run := { s.run with state := .stopped, host := false, grace := .idle, unload := .idle, pressure := .low }
              monitors := quiet }
        else s)) ∧
    exec .stoppedUnloadDelayExpiry s =
      .next (if s.run.unload = .inStopped then
          raiseEvent .unloadDone s.sequencer.cursor 2
            { s with run := { s.run with grace := .idle, unload := .idle, pressure := .low }, monitors := quiet }
        else s)) ∧
  (∀ (missFirst : Bool) (s : State), s.life = .up → s.config.mode = .active → s.capture.ops = [] →
    (∀ w, s.rig.window = some w → w.good = true) → s.pipeline.params = none →
    let arrived (f : ChannelRec → Sample) : Prop := ∀ c, c < 16 → (channelRec s c).enabled = 1 →
      (tget (formFrame s).pipeline.channels c).previous = some (f (channelRec s c)).toInt
    let parked : Prop := s.pipeline.stopTaper = false ∧ arrived ChannelRec.park
    let reported (kind : EventKind) (value : Nat) : EventQueue :=
      (raiseEvent kind s.sequencer.cursor value
        { s with timebase := { s.timebase with counter := s.timebase.counter + 1 } }).events
    ∃ t, exec (.frameBoundary missFirst) s = .next t ∧
      (s.run.state = .starting →
        (¬ arrived ChannelRec.mean → t.run = s.run) ∧
        (arrived ChannelRec.mean → pauseSet s ≠ [] →
          t.run = { s.run with state := .paused } ∧ t.sequencer.phase = s.sequencer.phase) ∧
        ∀ d, arrived ChannelRec.mean → pauseSet s = [] → s.sequencer.phase = .awaiting →
          s.sequencer.joinPending = false → s.capture.closing = false →
          s.schedule[s.sequencer.cursor]? = some (.dwell d) →
          t.run = { s.run with state := .running } ∧ t.sequencer.phase = .inEntry ∧ t.sequencer.position = 0 ∧
            t.pipeline.params = some (.dwell d)) ∧
      (s.run.state = .parking →
        (¬ parked → t.run = s.run) ∧
        (parked → t.run = { s.run with state := .stopped, host := false } ∧ t.events = reported .runStopped 0)) ∧
      (s.run.state = .unloading → s.run.unload = .idle →
        (¬ parked → t.run = s.run) ∧
        (parked → s.run.pressure = .low →
          t.run = { s.run with state := .stopped, host := false } ∧ t.events = reported .unloadDone 1) ∧
        (parked → s.run.pressure = .high → (general s).unloadMs ≠ 0 → t.run = { s.run with unload := .inUnloading }) ∧
        (parked → s.run.pressure = .high → (general s).unloadMs = 0 →
          t.run = { s.run with state := .stopped, host := false, grace := .idle, pressure := .low } ∧
            t.events = reported .unloadDone 0))) ∧
  (∀ (missFirst : Bool) (s : State), s.life = .up → s.config.mode = .active → nothingDue s → closesNoMiss s →
    ∃ t, exec (.frameBoundary missFirst) s = .next t ∧
      (s.run.state ∈ [.stopped, .paused, .holding, .parking, .unloading, .frozen] →
        t.sequencer = s.sequencer ∧ t.pipeline = (formFrame s).pipeline ∧ t.schedule = s.schedule) ∧
      (s.run.state ∈ [.stopped, .paused, .holding, .frozen] → t.run = s.run ∧ t.events = s.events)) ∧
  ∀ (missFirst : Bool) (s : State), s.life = .up → s.config.mode = .active → nothingDue s → closesNoMiss s →
    (s.run.state = .running ∨ s.run.state = .pausing) →
    ∃ t, exec (.frameBoundary missFirst) s = .next t ∧
      let moved (atZero : Prop) [Decidable atZero] : RunControl :=
        { s.run with state := if s.run.state = .pausing ∧ atZero then .paused else s.run.state }
      let given : Prop :=
        t.sequencer = { s.sequencer with
          position := s.sequencer.position + 1, fetch := t.sequencer.fetch, carried := t.sequencer.carried } ∧
        t.pipeline = (formFrame s).pipeline ∧ t.schedule = s.schedule ∧ t.segments = s.segments
      (∀ p, s.pipeline.params = some (.play p) → s.sequencer.position + 1 < p.length →
        given ∧ t.run = moved (s.pipeline.taper ≤ 1) ∧
        (s.run.state = .pausing → t.pipeline.taper = s.pipeline.taper - 1) ∧
        (s.sequencer.phase = .inEntry → (s.run.state = .running ∨ 1 < s.pipeline.taper) →
          let n := p.first + (s.sequencer.position + 1) / p.ratio
          let count := maskCount p.channels
          t.sequencer.fetch.nextWord = s.sequencer.fetch.nextWord ∧
          t.sequencer.fetch.dueWord = max s.sequencer.fetch.dueWord (((min (n + 1) p.last + 1) * count + 3) / 4) ∧
          ∀ x, (n - 1) * count ≤ x →
            fetchedSample t.sequencer.fetch.samples x = fetchedSample s.sequencer.fetch.samples x)) ∧
      ∀ d, s.pipeline.params = some (.dwell d) → s.sequencer.position + 1 < d →
        given ∧ t.run = moved (s.pipeline.taper = 0) ∧ t.pipeline.taper = s.pipeline.taper ∧ t.events = s.events

/-! ## Faults and monitors (chapter 7) -/

/-- R134, R138, R139, R140: the raise of a source that is not active makes its entry active with its subject, under
the class and latching it has, and reports FAULT_RAISED first, with the class code and the subject. Under class NOTE
the effective action becomes NOTE if it was NONE, and nothing else changes, FAULT_N included. Under class PAUSE the
source joins the pause-reason set, the action is PAUSE unless it is more severe, FAULT_N falls if the source is
LATCHED, and a RUNNING run becomes PAUSING, or PAUSED with no entry in force. R105: a raise that makes the action STOP
moves a run to UNLOADING; in STOPPED with PRESSURE_REQ high and no delay counting the unload delay starts; otherwise
it changes the fault table alone. R104: one that makes it TRIP freezes the run. R135: SEGMENT_MISSING is left active
too, but where its class moves the run to UNLOADING or FROZEN: there its wait ends with it. A raise of an active
source, or outside ACTIVE, changes nothing.
(An unload delay of 0 that starts in STOPPED ends at once: log entry 14. That a run which becomes PAUSED discards the
carried frames is log entry 38's, and that a joined successor counts as in force log entry 12's.) -/
def Obligations.RaiseMakesSourceActive : Prop :=
  ∀ (k subject : Nat) (s : State), k < 38 →
    let e := source s k
    let up : FaultEntry := { e with active := true, subject := BitVec.ofNat 16 subject }
    let code : Nat := match e.cls with | .note => 0 | .pause => 1 | .stop => 2 | .trip => 3
    let reported (action : Option FaultClass) (line : Level) : State :=
      raiseEvent .faultRaised k (code * 65536 + subject % 65536)
        { s with faults := { entries := tset s.faults.entries k up, action := action, faultN := line } }
    let line : Level := if e.latched then .low else s.faults.faultN
    let severe : Prop := s.faults.action = some .stop ∨ s.faults.action = some .trip
    let goes : Prop := s.run.state ∈ [.starting, .running, .pausing, .paused, .holding, .parking]
    let delays : Prop := s.run.state = .stopped ∧ s.run.pressure = .high ∧ s.run.unload = .idle
    ((e.active = true ∨ s.config.mode ≠ .active) → raise k subject s = s) ∧
    (e.active = false → s.config.mode = .active →
      (∃ r, r ∈ (raise k subject s).events.records ∧ r.seq = s.events.nextSeq ∧ r.kind = .faultRaised ∧
        r.subject = BitVec.ofNat 16 k ∧ r.value = BitVec.ofNat 32 (code * 65536 + subject % 65536) ∧
        r.stamp = s.timebase.counter) ∧
      (k ≠ 35 → source (raise k subject s) k = up) ∧
      (k = 35 → actionLaw s = true →
        source (raise k subject s) k =
          if (e.cls = .trip ∧ s.faults.action ≠ some .trip) ∨ (e.cls = .stop ∧ ¬ severe ∧ goes) then
            { e with active := false, subject := 0 }
          else up) ∧
      (actionLaw s = true → faultLineLaw s = true →
        (e.cls = .note → raise k subject s = reported (s.faults.action.or (some .note)) s.faults.faultN) ∧
        (e.cls = .pause →
          let follows : RunState :=
            if s.run.state = .running then
              (if s.sequencer.phase = .inEntry ∨ s.sequencer.joinPending = true then .pausing else .paused)
            else s.run.state
          raise k subject s =
            { reported (if severe then s.faults.action else some .pause) line with
              run := { s.run with state := follows, sources := insertNum k s.run.sources }
              sequencer := { s.sequencer with
                carried := if s.run.state = .running ∧ follows = .paused then none else s.sequencer.carried } }) ∧
        (e.cls = .stop →
          (severe → raise k subject s = reported s.faults.action line) ∧
          (¬ severe → goes → (raise k subject s).run.state = .unloading) ∧
          (¬ severe → delays →
            raise k subject s =
              (let r := reported (some .stop) line
               if (general s).unloadMs = 0 then
                 raiseEvent .unloadDone s.sequencer.cursor 2
                   { r with
                     run := { s.run with pressure := .low, grace := .idle, unload := .idle }
                     monitors := tmap (fun _ m => { m with outside := 0, inside := 0 }) s.monitors }
               else { r with run := { s.run with unload := .inStopped } })) ∧
          (¬ severe → ¬ goes → ¬ delays → raise k subject s = reported (some .stop) line)) ∧
        (e.cls = .trip →
          (s.faults.action = some .trip → raise k subject s = reported (some .trip) line) ∧
          (s.faults.action ≠ some .trip →
            (raise k subject s).run.state = .frozen ∧ (raise k subject s).run.pressure = .low))))

/-- R142, R143: CLEAR_FAULTS ends each active source whose condition is absent, and no other. HEARTBEAT and MEMORY end
always, PERMIT with the filtered level high, RIG_LINK with the miss count at 0, SERVO with every enabled channel's
ready flag set or the pressure low, a monitor when it does not evaluate or, LATCHED, at inside count F;
SEGMENT_MISSING never. The ended sources leave the pause-reason set, ending HEARTBEAT sets the loop counter to 0, and
the reply carries the sources still held. R106: a FROZEN run with no TRIP left becomes STOPPED with RUN_STOPPED. R92:
a PAUSING run whose set the clearing has emptied is RUNNING again.
(The held sources are those before the run's response: log entry 45. Beyond its own end, SEGMENT_MISSING may follow
what the run then does.) -/
def Obligations.ClearFaultsEndsAbsentConditions : Prop :=
  ∀ (tag : Byte) (s : State), linkFree s = true →
    (s.config.mode ≠ .active →
      exec (.clearFaults tag []) s = .next (settle { s with link := answered s 0x50 tag .wrongState .empty })) ∧
    (s.config.mode = .active → actionLaw s = true → (s.faults.action = some .trip → s.run.state = .frozen) →
      let absent (k : Nat) : Bool :=
        if k < 32 then
          let m := tget s.monitors k
          !(decide (s.run.pressure = .high) && decide (m.record.enabled = 1) &&
              !(decide (m.record.owner.toNat ≤ 15) && s.run.holdOut.contains m.record.owner.toNat)) ||
            ((source s k).latched && decide (m.inside = m.record.filter))
        else if k = 32 then
          decide (s.run.pressure = .low) ||
            (List.range 16).all (fun c => decide ((channelRec s c).enabled ≠ 1) || s.rig.ready.getLsbD c)
        else if k = 33 then decide (s.rig.misses = 0)
        else if k = 37 then decide (s.permit.filtered = .high)
        else decide (k = 34) || decide (k = 36)
      let left (k : Nat) : Bool := (source s k).active && !absent k
      let held : List Nat := (List.range 38).filter (fun k => left k && decide ((source s k).cls ≠ .note))
      let sources : List Nat := s.run.sources.filter (fun k => !((source s k).active && absent k && decide (k < 38)))
      let trip : Bool := (List.range 38).any (fun k => left k && decide ((source s k).cls = .trip))
      ∃ t, exec (.clearFaults tag []) s = .next t ∧
        (∀ k, k < 38 → k ≠ 35 → (source t k).active = left k ∧ (source t k).cls = (source s k).cls ∧
          (source t k).latched = (source s k).latched) ∧
        (∀ k, k < 32 → (source s k).active = true → absent k = true → (tget t.monitors k).tripped = false) ∧
        (t.supervisor = { s.supervisor with
          loop := if (source s 34).active then 0 else s.supervisor.loop }) ∧
        t.link = answered s 0x50 tag .ok (.cleared held) ∧ faultLineLaw t = true ∧ actionLaw t = true ∧
        (s.run.state = .frozen ∨ (s.run.state = .stopped ∧ s.faults.action ≠ some .trip) →
          source t 35 = source s 35 ∧
          t.run =
            (if s.run.state = .frozen ∧ trip = false then
              { s.run with state := .stopped, host := false, sources := sources }
            else { s.run with sources := sources }) ∧
          (s.run.state = .frozen → trip = false → ∃ r, t.events.records.getLast? = some r ∧ r.kind = .runStopped ∧
            r.subject = BitVec.ofNat 16 s.sequencer.cursor ∧ r.value = 1) ∧
          t = { s with
                faults := t.faults, monitors := t.monitors, run := t.run, supervisor := t.supervisor, events := t.events
                link := t.link, arbiter := t.arbiter, sweep := t.sweep }) ∧
        (s.run.state = .pausing → s.faults.action = some .pause → s.run.host = false → s.run.sources ≠ [] →
          sources = [] → s.sequencer.phase = .inEntry → s.sequencer.joinPending = false →
          t.run = { s.run with state := .running, sources := [] } ∧ t.sequencer.position = s.sequencer.position ∧
            t.pipeline = s.pipeline))

/-- R128, R129, R130: at a delivery every evaluating monitor counts its value, and the others are left as they are.
One that is not tripped trips when its outside count reaches F, and its source becomes active with the feedback
channel as subject; a tripped SELF_CLEARING one ends when its inside count reaches F. Where none trips or ends, the
delivery changes the monitors' counts alone. R107, R126: a fall of PRESSURE_REQ that a trip brings makes every count
0.
(A trip or its end follows from the count even where an earlier monitor's trip at the same delivery has frozen the
run: log entry 15.) -/
def Obligations.MonitorsTripAtFilterCount : Prop :=
  (∀ (v : Sample) (m : Monitor), m.record.low.toInt ≤ v.toInt → v.toInt ≤ m.record.high.toInt →
    countValue v m = { m with
      outside := 0, inside := if m.inside.toNat < m.record.filter.toNat then m.inside + 1 else m.record.filter }) ∧
  (∀ (v : Sample) (m : Monitor), (v.toInt < m.record.low.toInt ∨ m.record.high.toInt < v.toInt) →
    countValue v m = { m with
      inside := 0, outside := if m.outside.toNat < m.record.filter.toNat then m.outside + 1 else m.record.filter }) ∧
  (∀ (k : Nat) (s : State), k < 32 →
    let m := tget s.monitors k
    let v := tget s.rig.feedback m.record.feedback.toNat
    let after := countValue v m
    evaluates s m = true →
    (m.tripped = false → (source s k).active = false → after.outside = m.record.filter →
      (tget (deliver s).monitors k).tripped = true ∧ (source (deliver s) k).active = true ∧
      (source (deliver s) k).subject = m.record.feedback.setWidth 16) ∧
    (m.tripped = true → (source s k).active = true → (source s k).latched = false →
      after.inside = m.record.filter →
      (tget (deliver s).monitors k).tripped = false ∧ (source (deliver s) k).active = false)) ∧
  ∀ s : State,
    let counted (k : Nat) : Monitor :=
      let m := tget s.monitors k
      if evaluates s m = true then countValue (tget s.rig.feedback m.record.feedback.toNat) m else m
    let acts (k : Nat) : Prop := evaluates s (tget s.monitors k) = true ∧
      (((counted k).tripped = false ∧ (counted k).outside = (counted k).record.filter) ∨
        ((counted k).tripped = true ∧ (source s k).latched = false ∧ (counted k).inside = (counted k).record.filter))
    let t := deliver s
    (∀ k, k < 32 →
      (tget t.monitors k).record = (tget s.monitors k).record ∧
      (¬ acts k → (tget t.monitors k).tripped = (tget s.monitors k).tripped) ∧
      (if s.run.pressure = .high ∧ t.run.pressure = .low then
        (tget t.monitors k).outside = 0 ∧ (tget t.monitors k).inside = 0
      else
        (tget t.monitors k).outside = (counted k).outside ∧ (tget t.monitors k).inside = (counted k).inside)) ∧
    ((∀ k, k < 32 → ¬ acts k) → t = { s with monitors := tmk 32 counted })

/-! ## PERMIT (chapter 10) -/

/-- R183, R184, R104: the raw line's changes run the filter timer while it differs from the filtered level; at its
expiry the filtered level takes the raw level. A fall in ACTIVE raises PERMIT: the run is FROZEN, PRESSURE_REQ,
FAULT_N low and the action TRIP. A good commit taken while the filtered level is low, in CONFIG or in IDLE, does the
same. Outside ACTIVE a fall raises nothing.
(An expiry of the filter timer while it does not run changes nothing: log entry 2. PERMIT_LINE_CHANGE flips the raw
level: log entry 24. The store after the operation that a release completes is log entries 29's and 42's.) -/
def Obligations.PermitFallFreezesRun : Prop :=
  (∀ (raw : Level) (s : State), s.life ≠ .off → raw ≠ s.permit.raw →
    exec .permitLineChange s = .next
      { s with permit := { s.permit with raw := raw, timer := decide (raw ≠ s.permit.filtered) } }) ∧
  (∀ s : State, s.permit.timer = true → (s.permit.raw = .high ∨ s.permit.filtered = .low) →
    exec .permitFilterExpiry s = .next { s with permit := { s.permit with filtered := s.permit.raw, timer := false } }) ∧
  (∀ s : State, s.permit.timer = true → s.permit.filtered = .high → s.permit.raw = .low →
    s.config.mode ≠ .active →
    exec .permitFilterExpiry s = .next
      (settle { s with permit := { raw := .low, filtered := .low, timer := false } })) ∧
  (∀ s : State, s.permit.timer = true → s.permit.filtered = .high → s.permit.raw = .low → s.config.mode = .active →
    (source s 37).active = false → (source s 37).cls = .trip → (source s 37).latched = true →
    s.faults.action ≠ some .trip →
    ∃ t, exec .permitFilterExpiry s = .next t ∧ t.permit = { raw := .low, filtered := .low, timer := false } ∧
      t.run.state = .frozen ∧ t.run.pressure = .low ∧ t.run.grace = .idle ∧ t.run.unload = .idle ∧
      t.sequencer.phase = .idle ∧ t.pipeline.taper = 0 ∧
      (∀ c, c < 16 → (tget t.pipeline.channels c).previous = (tget s.pipeline.channels c).previous) ∧
      (source t 37).active = true ∧ t.faults.action = some .trip ∧ t.faults.faultN = .low ∧
      (t.store = s.store ∨ t.store = completeInStore s) ∧
      t = { s with
            store := t.store, permit := t.permit, arbiter := t.arbiter, sweep := t.sweep, pool := t.pool, segments := t.segments
            sequencer := t.sequencer, pipeline := t.pipeline, run := t.run, monitors := t.monitors, faults := t.faults
            capture := t.capture, summaries := t.summaries, events := t.events }) ∧
  (∀ s : State, s.permit.timer = false → exec .permitFilterExpiry s = .next s) ∧
  (∀ (tag : Byte) (crc : BitVec 16) (s : State), linkFree s = true → (s.config.mode = .config ∨ s.config.mode = .idle) →
    crc = crc16 (imageBytes s.config.pending) → commitFailure s.config.pending = none → s.permit.filtered = .low →
    ∃ t, exec (.configCommit tag (le16 crc)) s = .next t ∧
      t.config.mode = .active ∧ t.config.active = some s.config.pending ∧ t.run.state = .frozen ∧
      t.run.pressure = .low ∧ (source t 37).active = true ∧ t.faults.action = some .trip ∧ t.faults.faultN = .low)

/-! ## Captures (chapter 8) -/

/-- R156, R157: CAPTURE_READ makes its checks in order and reads its words through the arbiter; CAPTURE_FREE frees a
COMPLETE or TRUNCATED record, withdraws what of its last frame still waits to be written (R11, log entry 26) and
returns its pages to the pool. Each completed read adds the requested values its word holds, or 0 for each of them
when it is uncorrectable, and goes on to the next word; the last is followed by the answer. R154: an uncorrectable
word sets the record's DAMAGED flag, and CAPTURE_DAMAGED with value 3 is raised if it was clear.
(A release completes the operation granted on its pages, which finds no new disturbance: log entries 29 and 42. The
outcome that a read finds is log entry 3's.) -/
def Obligations.CaptureReadAndFree : Prop :=
  (∀ (tag b : Byte) (o : BitVec 32) (n : BitVec 16) (s : State), linkFree s = true →
    let id := b.toNat
    let body := [b] ++ le32 o ++ le16 n
    let refused (status : Status) : Prop :=
      exec (.captureRead tag body) s = .next (settle { s with link := answered s 0x61 tag status .empty })
    let good := id ≤ 31 ∧ 1 ≤ n.toNat ∧ n.toNat ≤ 512
    (¬ good → refused .badValue) ∧
    (good → slot s id = none → refused .notFound) ∧
    (∀ r, good → slot s id = some r → r.frames * maskCount r.channels < o.toNat + n.toNat → refused .badValue) ∧
    ∀ r, good → slot s id = some r → o.toNat + n.toNat ≤ r.frames * maskCount r.channels →
      exec (.captureRead tag body) s = .next (settle
        { s with link := taken s 0x61 tag (.captureRead
          { id := id, offset := o.toNat, count := n.toNat, nextWord := o.toNat / 4,
            stopWord := (o.toNat + n.toNat + 3) / 4, values := [], bad := 0 }) })) ∧
  (∀ (tag b : Byte) (s : State), linkFree s = true →
    let id := b.toNat
    let refused (status : Status) : Prop :=
      exec (.captureFree tag [b]) s = .next (settle { s with link := answered s 0x62 tag status .empty })
    (31 < id → refused .badValue) ∧
    (id ≤ 31 → slot s id = none → refused .notFound) ∧
    ∀ r, id ≤ 31 → slot s id = some r →
      if r.state = .filling then refused .inUse
      else exec (.captureFree tag [b]) s = .next (settle (releasePages r.pages
        { s with
          capture := { s.capture with
            slots := tset s.capture.slots id none
            current := if s.capture.current = some id then none else s.capture.current
            ops := if s.capture.writing = some id then [] else s.capture.ops
            writing := if s.capture.writing = some id then none else s.capture.writing }
          arbiter := { s.arbiter with
            capture := if s.capture.writing = some id then none else s.arbiter.capture }
          link := answered s 0x62 tag .ok .empty }))) ∧
  ∀ (tag : Byte) (j : CaptureJob) (w : Nat) (found : ReadOutcome) (s : State), s.life = .up → w < 4194304 →
    s.arbiter.granted = some { requestor := .link, op := .read w j.nextWord .captureRead, live := true } →
    s.link.inHand = some { kind := 0x61, tag := tag, job := .captureRead j } → j.id < 32 →
    ∃ t, exec (.memoryRead found) s = .next t ∧
      let lost := outcomeAt s.store w found = .uncorrectable
      let samples := if lost then [0, 0, 0, 0] else wordSamples s.store w
      let asked := (List.range 4).filter (fun k =>
        decide (j.offset ≤ 4 * j.nextWord + k) && decide (4 * j.nextWord + k < j.offset + j.count))
      let values := j.values ++ asked.map (fun k => samples.getD k 0)
      let bad := if lost then j.bad + 1 else j.bad
      (j.stopWord ≤ j.nextWord + 1 →
        t.link.inHand = some { kind := 0x61, tag := tag, job := .answered } ∧
        t.link.reply = some { kind := 0x61, tag := tag, status := .ok
                              body := .captureValues j.id j.offset j.count bad values }) ∧
      (j.nextWord + 1 < j.stopWord →
        let next : CaptureJob := { j with nextWord := j.nextWord + 1, values := values, bad := bad }
        t.link = { s.link with inHand := some { kind := 0x61, tag := tag, job := .captureRead next } }) ∧
      (∀ r, slot s j.id = some r → lost →
        slot t j.id = some { r with damaged := true } ∧
        t.events = (if r.damaged then s else raiseEvent .captureDamaged j.id 3 s).events) ∧
      (¬ lost → t.capture = s.capture ∧ t.events = s.events) ∧
      ∀ i, i < 32 → i ≠ j.id → slot t i = slot s i

/-- R149 to R152: a flagged play opens a record in the lowest free slot with the pool's lowest page, or is skipped for
an empty set, for want of a slot or of a page. A play frame is captured at sub-step 0 and as a run-out frame: its
values are written at offsets frames × K on, on a new page where they need one, and where the pool has none the record
is TRUNCATED. The frame counts when the last of its writes completes, one abandoned on an uncorrectable word included,
which sets DAMAGED.
R153: a close that waited for the last write is then made, and then what waited for it: in RUNNING the advance or the
entry start, a DWELL's start stated here, and in every run state the beginning of a joined successor's play.
(The phase in that wait is log entry 43's. That a frame still being written counts in a record which
an abort has closed is log entry 26's, and the outcome that a write finds log entry 3's.) -/
def Obligations.CapturesOpenFillTruncate : Prop :=
  (∀ (entry seg : Nat) (s : State),
    let set := (general s).captureSet
    (set = 0 → openCapture entry seg s = raiseEvent .captureSkipped entry 3 s) ∧
    (set ≠ 0 → (∀ i, i < 32 → slot s i ≠ none) → openCapture entry seg s = raiseEvent .captureSkipped entry 1 s) ∧
    ∀ i, set ≠ 0 → i < 32 → slot s i = none → (∀ j, j < i → slot s j ≠ none) →
      (s.pool = [] → openCapture entry seg s = raiseEvent .captureSkipped entry 2 s) ∧
      ∀ page rest, s.pool = page :: rest →
        openCapture entry seg s =
          { s with
            pool := rest
            capture := { s.capture with
              current := some i
              slots := tset s.capture.slots i (some
                { entry := entry, ordinal := s.summaries.ordinal, seg := seg, channels := set, frames := 0
                  pages := [page], state := .filling, endedEarly := false, damaged := false }) }
            summaries := { s.summaries with
              opened := s.summaries.opened.map (fun o => { o with captureId := some i }) } }) ∧
  (∀ (i : Nat) (r : CaptureRecord) (s : State), s.capture.current = some i → i < 32 → slot s i = some r →
    let n := maskCount r.channels
    let values := ((List.range 32).filter (fun c => r.channels.getLsbD c)).map (fun c => tget s.rig.feedback c)
    let issued (pages : List Nat) : CaptureUnit :=
      { s.capture with ops := runOps pages (r.frames * n) values, writing := some i }
    (r.state ≠ .filling → captureFrame s = s) ∧
    (r.state = .filling → (r.frames + 1) * n ≤ 32768 * r.pages.length →
      captureFrame s = { s with capture := issued r.pages }) ∧
    (r.state = .filling → 32768 * r.pages.length < (r.frames + 1) * n →
      (∀ page rest, s.pool = page :: rest →
        captureFrame s = { s with
          pool := rest
          capture := { issued (r.pages ++ [page]) with
            slots := tset s.capture.slots i (some { r with pages := r.pages ++ [page] }) } }) ∧
      (s.pool = [] → captureFrame s = raiseEvent .captureTruncated i r.frames
        { s with capture := { s.capture with
            slots := tset s.capture.slots i (some { r with state := .truncated }) } }))) ∧
  (∀ (p : PlayParams) (s : State), s.pipeline.params = some (.play p) →
    reportEvidence .play s =
      (if s.sequencer.position % p.ratio = 0 then captureFrame (accumulate s) else accumulate s) ∧
    reportEvidence .runOut s = captureFrame (accumulate s) ∧
    ∀ k, k ∈ [FrameKind.held, .mean, .dwell, .stopTaper, .park] → reportEvidence k s = s) ∧
  ∀ (w i : Nat) (lanes : List (Nat × Sample)) (op : MemOp) (rest : List MemOp) (found : ReadOutcome)
    (r : CaptureRecord) (s : State), s.life = .up → w < 4194304 → i < 32 →
    s.arbiter.granted = some { requestor := .capture, op := .write w lanes, live := true } →
    s.capture.ops = op :: rest → s.capture.writing = some i → slot s i = some r →
    let lost : Bool := decide (lanes.length ≠ 4) && decide (outcomeAt s.store w found = .uncorrectable)
    let marked : CaptureRecord := { r with damaged := r.damaged || lost }
    ∃ t, exec (if lanes.length = 4 then .wholeWordWrite else .partialWordWrite found) s = .next t ∧
      (rest ≠ [] ∨ s.capture.closing = false →
        t.capture.ops = rest ∧ t.capture.closing = s.capture.closing ∧ t.capture.current = s.capture.current ∧
        t.capture.writing = (if rest = [] then none else some i) ∧
        slot t i = some { marked with frames := if rest = [] then r.frames + 1 else r.frames } ∧
        t.events = (if lost = true ∧ r.damaged = false then raiseEvent .captureDamaged i 2 s else s).events) ∧
      (rest = [] → s.capture.closing = true → s.capture.current = some i → r.state = .filling →
        slot t i = some { marked with frames := r.frames + 1, state := .complete, endedEarly := false }) ∧
      (rest = [] → s.capture.closing = true →
        (s.sequencer.joinPending = false → s.run.state ≠ .running → t.sequencer = s.sequencer) ∧
        (∀ k d, s.sequencer.joinPending = false → s.run.state = .running →
          (s.sequencer.phase = .spent ∧ k = s.sequencer.cursor + 1) ∨
            (s.sequencer.phase = .awaiting ∧ k = s.sequencer.cursor) →
          s.schedule[k]? = some (.dwell d) →
          t.pipeline.params = some (.dwell d) ∧ t.sequencer.phase = .inEntry ∧ t.sequencer.cursor = k ∧
            t.sequencer.position = 0 ∧ t.run = s.run) ∧
        ∀ q, s.sequencer.joinPending = true → s.schedule[s.sequencer.cursor]? = some (.play q) → q.seg < 64 →
          ∃ p, t.pipeline.params = some (.play p) ∧ p.seg = q.seg ∧ p.entry = s.sequencer.cursor ∧
            p.byJoin = true ∧ p.pages = (descriptor s q.seg).data.pages ∧ t.sequencer.phase = .inEntry ∧
            t.sequencer.joinPending = false ∧ t.pipeline.taper = s.pipeline.taper ∧ t.run = s.run ∧
            (descriptor t q.seg).inPlay = true)

/-- R159: each play frame of the play adds one to the open summary's play frames and enters the 32 feedback values.
R160: of the values entered, the closed summary gives the least, the greatest and the floor of the mean square, and
zeros when there were none. R39, R40: a read for the play in progress that reports UNCORRECTABLE has each of its
samples in the play's range replaced by the one before it, or 0 at the range's first frame; each substitute counts in
the descriptor's double-error count and its channel's memory-error count, a READY descriptor becomes DAMAGED, and
MEMORY is raised at the play's first.
(The outcome that a read finds is log entry 3's. The substitution is stated with MEMORY of class NOTE or PAUSE, or
already met in the play.) -/
def Obligations.SummariesAccumulateAndSubstitutesCount : Prop :=
  (∀ vs : List Sample, vs ≠ [] → vs.length < 4294967296 →
    let out := closeStat vs.length (vs.foldl (fun f v => accumulateStat v f) { extremes := none, sumSquares := 0 })
    out.least ∈ vs ∧ out.greatest ∈ vs ∧
    (∀ v, v ∈ vs → out.least.toInt ≤ v.toInt ∧ v.toInt ≤ out.greatest.toInt) ∧
    out.meanSquare.toNat = (vs.map (fun v => v.toInt.natAbs * v.toInt.natAbs)).sum / vs.length) ∧
  (∀ f, closeStat 0 f = { least := 0, greatest := 0, meanSquare := 0 }) ∧
  (∀ (missFirst : Bool) (p : PlayParams) (o : OpenSummary) (s : State), s.life = .up → s.config.mode = .active →
    (∀ w, s.rig.window = some w → w.good = true) → s.pipeline.params = some (.play p) →
    s.sequencer.fetch.dueWord ≤ s.sequencer.fetch.nextWord → s.capture.ops = [] →
    (s.run.state = .running ∨ s.run.state = .pausing) → s.sequencer.position + 1 < p.length →
    s.summaries.opened = some o →
    ∃ t, exec (.frameBoundary missFirst) s = .next t ∧
      t.summaries.opened = some
        { o with
          playFrames := if o.playFrames = 4294967295 then 4294967295 else o.playFrames + 1
          feedback := tmk 32 (fun c => accumulateStat (tget s.rig.feedback c) (tget o.feedback c)) }) ∧
  ∀ (w index : Nat) (found : ReadOutcome) (p : PlayParams) (o : OpenSummary) (s : State), s.life = .up →
    s.config.mode = .active → w < 4194304 → p.seg < 64 →
    s.arbiter.granted = some { requestor := .playback, op := .read w index .play, live := true } →
    s.pipeline.params = some (.play p) → s.summaries.opened = some o →
    outcomeAt s.store w found = .uncorrectable → actionLaw s = true →
    ((source s 36).cls = .note ∨ (source s 36).cls = .pause ∨ p.substituted = true) →
    let n := maskCount p.channels
    let lost := ((List.range 4).map (fun k => 4 * index + k)).filter
      (fun x => decide (p.first * n ≤ x) && decide (x < (p.last + 1) * n))
    let d := descriptor s p.seg
    ∃ t, exec (.memoryRead found) s = .next t ∧
      (∀ x, x ∈ lost → x ∉ s.sequencer.fetch.samples.map Prod.fst →
        fetchedSample t.sequencer.fetch.samples x =
          if x < (p.first + 1) * n then 0 else fetchedSample t.sequencer.fetch.samples (x - n)) ∧
      t.sequencer.fetch.nextWord = index + 1 ∧
      (∀ x, (x ∉ lost ∨ x ∈ s.sequencer.fetch.samples.map Prod.fst) →
        fetchedSample t.sequencer.fetch.samples x = fetchedSample s.sequencer.fetch.samples x) ∧
      descriptor t p.seg = { d with
        doubleErrors := satAdd d.doubleErrors lost.length
        state := if d.state = .ready then .damaged else d.state } ∧
      (∃ e, t.summaries.opened = some { o with memoryErrors := e } ∧ ∀ c, c < 16 →
        tget e c = satAdd (tget o.memoryErrors c)
          (lost.filter (fun x => (maskList p.channels).getD (x % n) 0 = c)).length) ∧
      t.pipeline.params = some (.play { p with substituted := true }) ∧
      (p.substituted = false → (source t 36).active = true ∧
        ((source s 36).active = false → (source t 36).subject = BitVec.ofNat 16 p.seg)) ∧
      (p.substituted = true → source t 36 = source s 36)

/-! ## Frames (chapters 4 and 6) -/

/-- R114, R115, R117, R118: a frame boundary raises the frame counter by one, takes the rate code for the intervals
from it on, opens the window of the new frame and sends a 40-byte setpoint frame with its number; outside ACTIVE every
other field of that frame is 0. The configuration, PERMIT and the supervisor are left alone. R68, R117: in ACTIVE the
frame carries the run-state code, the pressure flag, an enabled flag for exactly the channels enabled in the active
image, and for each of those the setpoint formed at this boundary, which is its previous setpoint from then on, and 0
for the others. Code and flag are those of the state in which the frame is formed: the state before the boundary's
miss where the frame comes first, and where a miss that raises RIG_LINK of class TRIP comes first, FROZEN with
PRESSURE_REQ low and the held setpoints.
(Which of the two comes first is the operand of log entry 5. A memory operation that the boundary waits for completes
first: log entry 4; code and flag are stated for a boundary that waits for none. Whether the window open at the commit
is checked against the miss limit is log entry 44's. R114 gives no boundary unless the device is up; that FRAME_BOUNDARY then changes nothing is log entry 2's.) -/
def Obligations.BoundaryBeginsFrame : Prop :=
  (∀ (missFirst : Bool) (s : State), s.life = .up →
    ∃ t, exec (.frameBoundary missFirst) s = .next t ∧ t.timebase.counter = s.timebase.counter + 1 ∧
      t.timebase.rate = s.timebase.nextRate ∧ t.life = .up ∧ t.config = s.config ∧ t.permit = s.permit ∧
      t.supervisor = s.supervisor ∧
      t.rig.window = some
        { frame := (s.timebase.counter + 1).setWidth 16, bytes := [], corrupt := false, good := false
          inStay := decide (s.config.mode = .active) } ∧
      t.rig.sent.length = 40 ∧ t.rig.sent.take 2 = le16 ((s.timebase.counter + 1).setWidth 16) ∧
      (s.config.mode ≠ .active → s.config.active = none →
        let body : List Byte := le16 ((s.timebase.counter + 1).setWidth 16) ++ List.replicate 36 0
        t.rig.sent = body ++ le16 (crc16 body))) ∧
  (∀ (missFirst : Bool) (s : State), s.life = .up → s.config.mode = .active →
    ∃ (t : State) (run : RunState) (pressure : Level) (flags : BitVec 16) (setpoint : Nat → Int),
      exec (.frameBoundary missFirst) s = .next t ∧
      (let body : List Byte := le16 ((s.timebase.counter + 1).setWidth 16) ++
          [runCode run, if pressure = .high then 1 else 0] ++ le16 flags ++
          (List.range 16).flatMap (fun c => le16 (BitVec.ofInt 16 (setpoint c)))
       t.rig.sent = body ++ le16 (crc16 body)) ∧
      (∀ c, c < 16 →
        (flags.getLsbD c = true ↔ (channelRec s c).enabled = 1) ∧
        ((channelRec s c).enabled = 1 → (tget t.pipeline.channels c).previous = some (setpoint c)) ∧
        ((channelRec s c).enabled ≠ 1 → setpoint c = 0)) ∧
      (nothingDue s → (missFirst = false ∨ closesNoMiss s) → run = s.run.state ∧ pressure = s.run.pressure) ∧
      ∀ w, nothingDue s → missFirst = true → s.rig.window = some w → w.good = false →
        (w.inStay = true ∨ Config.commitWindowChecked = true) →
        (general s).missLimit.toNat ≤ (if s.rig.misses = 255 then 255 else s.rig.misses + 1).toNat →
        (source s 33).active = false → (source s 33).cls = .trip →
        actionLaw s = true → tripLaw s = true → frozenLaw s = true →
        run = .frozen ∧ pressure = .low ∧
          ∀ c y, c < 16 → (tget s.pipeline.channels c).previous = some y →
            (tget t.pipeline.channels c).previous = some y) ∧
  ∀ (missFirst : Bool) (s : State), s.life ≠ .up → exec (.frameBoundary missFirst) s = .next s

/-- R69: the kind of a frame, by run state, entry in force, drive position and stop-taper flag. R70, R72 to R79, R86:
the setpoint of an enabled channel at a frame. On a play or run-out frame a played channel's samples pass
interpolation, gain, taper, offset, clamp and slew, and an unplayed channel goes to its mean; the counts rise where
the clamp or the slew limit acts. The first frame of a stay sends Pk, a held frame repeats the previous setpoint, and
the other frames move toward M or Pk, a stop-taper frame toward M and the tapered held value. A channel not enabled is
left alone. R83 to R85: the taper counter falls by one on a run-out or stop-taper frame and stands on the others but
play frames, and the stop-taper flag clears after the stop-taper frame of counter 0. R68: at a boundary in ACTIVE every
channel's previous setpoint becomes the one so formed, from the state that stands there: before the boundary's miss is
taken, or after it where the miss comes first.
(A sample no read has supplied is the free value of log entry 11. That a channel whose previous setpoint is absent has
its first frame of the stay is log entry 33's. That the memory operations which a boundary waits for complete first,
those that a miss brings included, is log entry 4's, and which of miss and frame comes first is the operand of log
entry 5.) -/
def Obligations.FrameFormsSetpoints : Prop :=
  (∀ (missFirst : Bool) (s : State), s.life = .up → s.config.mode = .active →
    ∃ t, exec (.frameBoundary missFirst) s = .next t ∧
      let formedIn (u : State) : Prop := ∀ c, c < 16 →
        (tget t.pipeline.channels c).previous = (tget (formFrame u).pipeline.channels c).previous
      let ready := drain drainFuel s
      (nothingDue s → (missFirst = false ∨ closesNoMiss s) → formedIn s) ∧
      ((missFirst = false ∨ closesNoMiss s) → formedIn ready) ∧
      ∀ w, missFirst = true → s.rig.window = some w → w.good = false →
        formedIn (drain drainFuel (takeMiss w
          { ready with
            timebase := { rate := s.timebase.nextRate, nextRate := s.timebase.nextRate,
                          counter := s.timebase.counter + 1 }
            rig := { s.rig with
              window := some { frame := (s.timebase.counter + 1).setWidth 16, bytes := [], corrupt := false
                               good := false, inStay := true } } }))) ∧
  (∀ s : State,
    let f := formFrame s
    f = { s with pipeline := { s.pipeline with
      channels := f.pipeline.channels, taper := f.pipeline.taper, stopTaper := f.pipeline.stopTaper } } ∧
    (∀ c, c < 16 → (channelRec s c).enabled ≠ 1 → tget f.pipeline.channels c = tget s.pipeline.channels c) ∧
    f.pipeline.taper =
      (match frameKind s with
       | .play => frameTaper .play s
       | .runOut | .stopTaper => s.pipeline.taper - 1
       | .held | .mean | .dwell | .park => s.pipeline.taper) ∧
    f.pipeline.stopTaper =
      (s.pipeline.stopTaper && !(decide (frameKind s = .stopTaper) && decide (s.pipeline.taper ≤ 1)))) ∧
  (∀ s : State,
    (s.run.state ∈ [.stopped, .frozen] → frameKind s = .held) ∧
    (s.run.state ∈ [.starting, .paused, .holding] → frameKind s = .mean) ∧
    (s.run.state ∈ [.running, .pausing] →
      (∀ p, s.pipeline.params = some (.play p) →
        (s.sequencer.position < p.length → frameKind s = .play) ∧
        (p.length ≤ s.sequencer.position → frameKind s = .runOut)) ∧
      ∀ d, s.pipeline.params = some (.dwell d) → frameKind s = .dwell) ∧
    (s.run.state ∈ [.parking, .unloading] →
      (s.pipeline.stopTaper = true → frameKind s = .stopTaper) ∧
      (s.pipeline.stopTaper = false → frameKind s = .park))) ∧
  ∀ (c : Nat) (s : State), c < 16 → (channelRec s c).enabled = 1 →
    let r := channelRec s c
    let ch := tget s.pipeline.channels c
    let clamp (x : Int) : Int := if r.hi.toInt < x then r.hi.toInt else if x < r.lo.toInt then r.lo.toInt else x
    let slew (y x : Int) : Int :=
      if (r.slew.toNat : Int) < x - y then y + r.slew.toNat
      else if x - y < -(r.slew.toNat : Int) then y - r.slew.toNat else x
    let formed := tget (formFrame s).pipeline.channels c
    (ch.previous = none → formed = { ch with previous := some r.park.toInt }) ∧
    ∀ y, ch.previous = some y →
      (frameKind s = .held → formed = ch) ∧
      (frameKind s = .mean ∨ frameKind s = .dwell →
        formed = { ch with previous := some (slew y (clamp r.mean.toInt)) }) ∧
      (frameKind s = .park → formed = { ch with previous := some (slew y (clamp r.park.toInt)) }) ∧
      (frameKind s = .stopTaper →
        let factor : Nat := 1024 * (s.pipeline.taper - 1) / (general s).nt.toNat
        formed = { ch with previous := some (slew y (clamp (r.mean.toInt + (ch.held * factor + 512) / 1024))) }) ∧
      ∀ p, s.pipeline.params = some (.play p) → 1 ≤ p.ratio → (frameKind s = .play ∨ frameKind s = .runOut) →
        let n := p.first + s.sequencer.position / p.ratio
        let k := s.sequencer.position % p.ratio
        let sample (f : Nat) : Int :=
          (fetchedSample s.sequencer.fetch.samples (f * maskCount p.channels + maskRank p.channels c)).toInt
        let s0 := sample n
        let s1 := if n = p.last then s0 else sample (n + 1)
        let v :=
          if frameKind s = .runOut then sample p.last else s0 + ((s1 - s0) * k + (p.ratio / 2 : Nat)) / p.ratio
        let u := if p.channels.getLsbD c ∧ c ∉ s.run.holdOut then (v * p.gain.toNat + 8192) / 16384 else 0
        let factor : Nat := 1024 * frameTaper (frameKind s) s / (general s).nt.toNat
        let x := r.mean.toInt + (u * factor + 512) / 1024
        let z := clamp x
        let y' := slew y z
        formed =
          { previous := some y'
            clampCount := if z = x then ch.clampCount else satInc ch.clampCount
            slewCount := if y' = z then ch.slewCount else satInc ch.slewCount
            held := u }

/-- R73: interpolation at sub-step k of ratio L is s0 plus the floor of (d × k + L/2) / L; it is s0 at k = 0, so for
L = 1 always, and lies between the two drive samples. Of 16-bit samples, d lies within ±65,535 and the value within
16 bits. -/
def Obligations.InterpolationStaysBetweenSamples : Prop :=
  ∀ (s0 s1 : Int) (k l : Nat), l ∈ [1, 2, 4, 8] → k < l →
    let v := interpolate s0 s1 k l
    v = s0 + Int.fdiv ((s1 - s0) * k + (l / 2 : Nat)) l ∧
    (k = 0 → v = s0) ∧ (l = 1 → k = 0 ∧ v = s0) ∧ min s0 s1 ≤ v ∧ v ≤ max s0 s1 ∧
    (-32768 ≤ s0 → s0 ≤ 32767 → -32768 ≤ s1 → s1 ≤ 32767 →
      -65535 ≤ s1 - s0 ∧ s1 - s0 ≤ 65535 ∧ -32768 ≤ v ∧ v ≤ 32767)

/-- R74, R75, R80, R82: gain of 16-bit values stays within -131,070 and 131,066, is 0 at gain 0 and the value itself
at 16,384. The taper factor of a counter within 0 and Nt lies within 0 and 1,024, and the tapered value between 0 and
the value. On play frames the counter rises toward Nt within the horizon and never falls by more than one, on PAUSING
frames it declines by one, and it stays within 0 and Nt. -/
def Obligations.GainAndTaperStayBounded : Prop :=
  (∀ (v : Int) (g : BitVec 16), -32768 ≤ v → v ≤ 32767 →
    -131070 ≤ gainStage v g ∧ gainStage v g ≤ 131066 ∧ (g = 0 → gainStage v g = 0) ∧ (g = 16384 → gainStage v g = v)) ∧
  (∀ (i nt : Nat), 0 < nt → i ≤ nt →
    taperFactor i nt ≤ 1024 ∧ taperFactor 0 nt = 0 ∧ taperFactor nt nt = 1024) ∧
  (∀ (u : Int) (t : Nat), t ≤ 1024 →
    min 0 u ≤ taperStage u t ∧ taperStage u t ≤ max 0 u ∧ taperStage u 0 = 0 ∧ taperStage u 1024 = u) ∧
  ∀ (p : PlayParams) (s : State), s.pipeline.params = some (.play p) →
    let i := s.pipeline.taper
    let nt := (general s).nt.toNat
    let remaining := p.length - 1 - s.sequencer.position
    (s.run.state = .pausing → frameTaper .play s = i - 1) ∧
    (s.run.state = .running → s.sequencer.position = 0 → p.byJoin = false → frameTaper .play s = i) ∧
    (s.run.state = .running → (s.sequencer.position ≠ 0 ∨ p.byJoin = true) →
      frameTaper .play s =
        if p.edge = .butted ∧ s.pipeline.continuation = true then max (min (i + 1) nt) (i - 1)
        else max (min (min (i + 1) nt) remaining) (i - 1)) ∧
    ∀ k, i ≤ nt → frameTaper k s ≤ nt

/-- R78, R70: within one stay in ACTIVE two consecutive setpoints of an enabled channel differ by no more than its
slew limit, and the first frame of a stay sends its park value, whatever is taken at the boundary.
(That a channel whose previous setpoint is absent has its first frame of the stay is log entry 33's.) -/
def Obligations.ConsecutiveSetpointsWithinSlew : Prop :=
  ∀ (missFirst : Bool) (c : Nat) (s : State), s.life = .up → s.config.mode = .active → c < 16 →
    (channelRec s c).enabled = 1 →
    ∃ t y', exec (.frameBoundary missFirst) s = .next t ∧ (tget t.pipeline.channels c).previous = some y' ∧
      ((tget s.pipeline.channels c).previous = none → y' = (channelRec s c).park.toInt) ∧
      ∀ y, (tget s.pipeline.channels c).previous = some y → (y' - y).natAbs ≤ (channelRec s c).slew.toNat

/-- R118, R119, R120, R121, R122, R128: bytes join the open window, in one part or several, up to its 70th; a low stop
bit among those spoils the response, and bytes after the 70th are discarded. 70 bytes that pass every check replace
the feedback values and servo-ready flags and return the miss count to 0; the values are delivered to the monitors,
and the servo-ready check follows: with the pressure high and the grace ELAPSED, SERVO is raised with the lowest
enabled channel that is not ready. 70 bytes that fail a check change nothing else. A window that closes without a good
response is a miss: the values are kept, the count rises by one, stopping at 255, and in ACTIVE at or above the miss
limit RIG_LINK is raised, its subject the frame number of the missed window. A miss delivers the held values to the
monitors, as a good response delivers its own: every evaluating monitor counts its held value, once, and trips or
ends at its filter count; a boundary that closes no miss delivers nothing. (A fall of PRESSURE_REQ at the boundary
makes the counts 0: R107.)
(Bytes that come while no window is open change nothing: log entry 2. That one command may carry part of a response is
log entry 34's, and the store after the operation that a release completes log entries 29's and 42's. Whether the miss
of the window open at the commit is so judged is log entry 44's. Whether a miss comes before or after the boundary's
frame and its reports is the operand of log entry 5; trips and ends are stated for a boundary that waits for no memory
operation, log entry 4.) -/
def Obligations.ResponsesAndMissesAreJudged : Prop :=
  (∀ (b : List Byte) (lowStop : Option Nat) (w : Window) (s : State), s.life = .up → s.rig.window = some w →
    w.bytes.length < 70 →
    let all := (w.bytes ++ b).take 70
    let low := w.corrupt = true ∨ ∃ i, lowStop = some i ∧ i < b.length ∧ w.bytes.length + i < 70
    let good := ¬ low ∧ crc16 (all.take 68) = le16At all 68 ∧ le16At all 0 = w.frame
    (all.length < 70 ∨ ¬ good →
      ∃ corrupt : Bool, (corrupt = true ↔ low) ∧
        exec (.responseFrame b lowStop) s = .next (settle
          { s with rig := { s.rig with window := some { w with bytes := all, corrupt := corrupt } } })) ∧
    (all.length = 70 → good → ∃ t, exec (.responseFrame b lowStop) s = .next t ∧ t.rig.ready = le16At all 2 ∧
      t.rig.misses = 0 ∧ t.timebase = s.timebase ∧ (t.store = s.store ∨ t.store = completeInStore s) ∧
      t.config = s.config ∧ t.permit = s.permit ∧ t.link = s.link ∧
      t.rig.window = some { w with bytes := all, corrupt := false, good := true } ∧
      (∀ c, c < 32 → tget t.rig.feedback c = le16At all (4 + 2 * c)) ∧
      (let d := deliver { s with rig := { s.rig with
          feedback := tmk 32 (fun c => le16At all (4 + 2 * c)), ready := le16At all 2, misses := 0
          window := some { w with bytes := all, corrupt := false, good := true } } }
       let lacks (c : Nat) : Prop := (channelRec s c).enabled = 1 ∧ (le16At all 2).getLsbD c = false
       let checks := s.config.mode = .active ∧ d.run.pressure = .high ∧ d.run.grace = .elapsed
       ((¬ checks ∨ ∀ c, c < 16 → ¬ lacks c) → t = settle d) ∧
       ∀ c, checks → c < 16 → lacks c → (∀ j, j < c → ¬ lacks j) → t = settle (raise 32 c d)) ∧
      ((∀ k, k < 32 → evaluates s (tget s.monitors k) = false) →
        let lacks (c : Nat) : Prop := (channelRec s c).enabled = 1 ∧ (le16At all 2).getLsbD c = false
        let checks := s.config.mode = .active ∧ s.run.pressure = .high ∧ s.run.grace = .elapsed
        (¬ checks ∨ (∀ c, c < 16 → ¬ lacks c) → t.faults = s.faults) ∧
        ∀ c, checks → c < 16 → lacks c → (∀ j, j < c → ¬ lacks j) → (source s 32).active = false →
          (source t 32).active = true ∧ (source t 32).subject = BitVec.ofNat 16 c))) ∧
  (∀ (b : List Byte) (lowStop : Option Nat) (w : Window) (s : State), s.life = .up →
    (s.rig.window = none ∨ (s.rig.window = some w ∧ 70 ≤ w.bytes.length)) →
    exec (.responseFrame b lowStop) s = .next (settle s)) ∧
  (∀ (b : List Byte) (lowStop : Option Nat) (s : State), s.life ≠ .up →
    exec (.responseFrame b lowStop) s = .next s) ∧
  ∀ (missFirst : Bool) (w : Window) (s : State), s.life = .up → s.rig.window = some w →
    ∃ t, exec (.frameBoundary missFirst) s = .next t ∧ t.rig.feedback = s.rig.feedback ∧ t.rig.ready = s.rig.ready ∧
      t.rig.misses =
        (if w.good then s.rig.misses else if s.rig.misses = 255 then 255 else s.rig.misses + 1) ∧
      (w.good = false → s.config.mode = .active → (general s).missLimit.toNat ≤ t.rig.misses.toNat →
        (w.inStay = true ∨ Config.commitWindowChecked = true) →
        (source t 33).active = true ∧ ((source s 33).active = false → (source t 33).subject = w.frame)) ∧
      ((w.good = true ∨ s.config.mode ≠ .active ∨ t.rig.misses.toNat < (general s).missLimit.toNat) →
        (source t 33).active = (source s 33).active) ∧
      (∀ k, k < 32 → s.run.pressure = .high → t.run.pressure = .high →
        let m := tget s.monitors k
        let after := countValue (tget s.rig.feedback m.record.feedback.toNat) m
        let n := tget t.monitors k
        n.record = m.record ∧
        (if w.good = false ∧ evaluates s m = true then n.outside = after.outside ∧ n.inside = after.inside else n = m)) ∧
      (w.good = false → s.config.mode = .active → nothingDue s →
        ∃ g, exec (.frameBoundary false)
            { s with rig := { s.rig with window := some { w with good := true } } } = .next g ∧
          let u := if missFirst then s else g
          ∀ k, k < 32 →
            let m := tget u.monitors k
            let after := countValue (tget s.rig.feedback m.record.feedback.toNat) m
            evaluates u m = true →
            (m.tripped = false → (source u k).active = false → after.outside = m.record.filter →
              (tget t.monitors k).tripped = true ∧ (source t k).active = true ∧
              (source t k).subject = m.record.feedback.setWidth 16) ∧
            (m.tripped = true → (source u k).active = true → (source u k).latched = false →
              after.inside = m.record.filter →
              (tget t.monitors k).tripped = false ∧ (source t k).active = false))

/-! ## What every command keeps -/

/-- R138, R139, R140: the effective action stands as the active sources form it, FAULT_N is low exactly while a LATCHED
source of class PAUSE, STOP or TRIP is held, and the pause-reason set's fault sources are the active sources of class
PAUSE. -/
def Obligations.FaultTableFollowsItsSources : Prop :=
  ∀ (c : Instr) (s t : State), faultLineLaw s = true → actionLaw s = true → pauseSetLaw s = true →
    exec c s = .next t → faultLineLaw t = true ∧ actionLaw t = true ∧ pauseSetLaw t = true

/-- R107: PRESSURE_REQ is asserted only while the device is in ACTIVE mode, PERMIT is high and no TRIP-class fault is
held. (`pressureGround` and the effective action are what the law rests on.) -/
def Obligations.PressureNeedsActivePermitNoTrip : Prop :=
  ∀ (c : Instr) (s t : State), pressureLaw s = true → pressureGround s = true → actionLaw s = true →
    exec c s = .next t → pressureLaw t = true ∧ pressureGround t = true

/-- R42, R45, R3, R161, R194, R199, R167, R169: the schedule stays lawful (at most 256 entries, each REPEAT's target
below it and its counter below its count), the queues within their capacities, the store in its canonical form, an
active image stands exactly in ACTIVE and the configuration timer runs exactly in CONFIG; R52, R67, R69: entry
parameters stand exactly in IN_ENTRY, an entry is in force only in RUNNING, PAUSING and PAUSED, outside ACTIVE the run
is STOPPED, and only a device that is up is in ACTIVE (`sequencerLaw`); and no command touches the commands that wait
behind it. -/
def Obligations.TablesKeepTheirLimits : Prop :=
  ∀ (c : Instr) (s t : State), exec c s = .next t →
    (scheduleLaw s.schedule = true → scheduleLaw t.schedule = true) ∧
    (queuesBounded s = true → queuesBounded t = true) ∧
    (s.store.wf = true → t.store.wf = true) ∧
    (modeLaw s = true → modeLaw t = true) ∧
    (sequencerLaw s = true → sequencerLaw t = true) ∧ t.pending = s.pending

/-- R77, R80: in ACTIVE every setpoint lies within its channel's limits and the taper counter within 0 and Nt; outside
ACTIVE there is no setpoint and the counter is 0. -/
def Obligations.SetpointsStayWithinLimits : Prop :=
  ∀ (c : Instr) (s t : State), setpointLaw s → exec c s = .next t → setpointLaw t

/-- R148: a capture record's frame count times its channel count never exceeds 32,768 times its page list's length, nor
will it when the capture frame in hand has been counted. -/
def Obligations.CaptureRecordsFitTheirPages : Prop :=
  ∀ (c : Instr) (s t : State), captureLaw s → exec c s = .next t → captureLaw t

/-- R6: every page of the store is at every moment in exactly one place: the page pool, or the page list of one segment
descriptor, pending replacement or capture record. (`segmentLaw` is what the law rests on.) -/
def Obligations.EveryPageInOnePlace : Prop :=
  ∀ (c : Instr) (s t : State), pageLaw s → segmentLaw s → exec c s = .next t → pageLaw t ∧ segmentLaw t

/-- R104, R106: in FROZEN the pressure is low, the timers IDLE, the taper counter 0 and the sequencer IDLE, and FROZEN
is left only at a CLEAR_FAULTS that leaves no TRIP-class source held, by a reset or by the loss of supply. While the
effective action is TRIP the run is FROZEN. -/
def Obligations.FrozenHoldsUntilCleared : Prop :=
  ∀ (c : Instr) (s t : State), frozenLaw s = true → actionLaw s = true → exec c s = .next t →
    frozenLaw t = true ∧ (tripLaw s = true → tripLaw t = true) ∧
    (s.run.state = .frozen → t.run.state ≠ .frozen →
      (∃ tag body, c = .clearFaults tag body ∧ t.run.state = .stopped ∧ t.run.host = false ∧ tripHeld t = false) ∨
      c ∈ [.powerOn, .resetNLow, .supplyLoss, .replySent])

end Statements
end

