-- ==== Sys2Proof/Laws/State.lean ====
section
/-! SUPPORT. What each named update of the state leaves unchanged: one lemma for each field and update. -/

namespace Sys2Proof.Machine

variable (s : State)

/-! `raiseEvent` changes `events` only. -/

@[simp] theorem raiseEvent_life (k : EventKind) (a v : Nat) : (raiseEvent k a v s).life = s.life := by unfold raiseEvent; split <;> rfl
@[simp] theorem raiseEvent_resetN (k : EventKind) (a v : Nat) : (raiseEvent k a v s).resetN = s.resetN := by unfold raiseEvent; split <;> rfl
@[simp] theorem raiseEvent_cause (k : EventKind) (a v : Nat) : (raiseEvent k a v s).cause = s.cause := by unfold raiseEvent; split <;> rfl
@[simp] theorem raiseEvent_timebase (k : EventKind) (a v : Nat) : (raiseEvent k a v s).timebase = s.timebase := by unfold raiseEvent; split <;> rfl
@[simp] theorem raiseEvent_store (k : EventKind) (a v : Nat) : (raiseEvent k a v s).store = s.store := by unfold raiseEvent; split <;> rfl
@[simp] theorem raiseEvent_pool (k : EventKind) (a v : Nat) : (raiseEvent k a v s).pool = s.pool := by unfold raiseEvent; split <;> rfl
@[simp] theorem raiseEvent_arbiter (k : EventKind) (a v : Nat) : (raiseEvent k a v s).arbiter = s.arbiter := by unfold raiseEvent; split <;> rfl
@[simp] theorem raiseEvent_sweep (k : EventKind) (a v : Nat) : (raiseEvent k a v s).sweep = s.sweep := by unfold raiseEvent; split <;> rfl
@[simp] theorem raiseEvent_segments (k : EventKind) (a v : Nat) : (raiseEvent k a v s).segments = s.segments := by unfold raiseEvent; split <;> rfl
@[simp] theorem raiseEvent_verifier (k : EventKind) (a v : Nat) : (raiseEvent k a v s).verifier = s.verifier := by unfold raiseEvent; split <;> rfl
@[simp] theorem raiseEvent_schedule (k : EventKind) (a v : Nat) : (raiseEvent k a v s).schedule = s.schedule := by unfold raiseEvent; split <;> rfl
@[simp] theorem raiseEvent_sequencer (k : EventKind) (a v : Nat) : (raiseEvent k a v s).sequencer = s.sequencer := by unfold raiseEvent; split <;> rfl
@[simp] theorem raiseEvent_pipeline (k : EventKind) (a v : Nat) : (raiseEvent k a v s).pipeline = s.pipeline := by unfold raiseEvent; split <;> rfl
@[simp] theorem raiseEvent_run (k : EventKind) (a v : Nat) : (raiseEvent k a v s).run = s.run := by unfold raiseEvent; split <;> rfl
@[simp] theorem raiseEvent_rig (k : EventKind) (a v : Nat) : (raiseEvent k a v s).rig = s.rig := by unfold raiseEvent; split <;> rfl
@[simp] theorem raiseEvent_monitors (k : EventKind) (a v : Nat) : (raiseEvent k a v s).monitors = s.monitors := by unfold raiseEvent; split <;> rfl
@[simp] theorem raiseEvent_faults (k : EventKind) (a v : Nat) : (raiseEvent k a v s).faults = s.faults := by unfold raiseEvent; split <;> rfl
@[simp] theorem raiseEvent_capture (k : EventKind) (a v : Nat) : (raiseEvent k a v s).capture = s.capture := by unfold raiseEvent; split <;> rfl
@[simp] theorem raiseEvent_summaries (k : EventKind) (a v : Nat) : (raiseEvent k a v s).summaries = s.summaries := by unfold raiseEvent; split <;> rfl
@[simp] theorem raiseEvent_config (k : EventKind) (a v : Nat) : (raiseEvent k a v s).config = s.config := by unfold raiseEvent; split <;> rfl
@[simp] theorem raiseEvent_permit (k : EventKind) (a v : Nat) : (raiseEvent k a v s).permit = s.permit := by unfold raiseEvent; split <;> rfl
@[simp] theorem raiseEvent_supervisor (k : EventKind) (a v : Nat) : (raiseEvent k a v s).supervisor = s.supervisor := by unfold raiseEvent; split <;> rfl
@[simp] theorem raiseEvent_link (k : EventKind) (a v : Nat) : (raiseEvent k a v s).link = s.link := by unfold raiseEvent; split <;> rfl
@[simp] theorem raiseEvent_freeTick (k : EventKind) (a v : Nat) : (raiseEvent k a v s).freeTick = s.freeTick := by unfold raiseEvent; split <;> rfl
@[simp] theorem raiseEvent_pending (k : EventKind) (a v : Nat) : (raiseEvent k a v s).pending = s.pending := by unfold raiseEvent; split <;> rfl

/-! `answer` changes `link` only. -/

@[simp] theorem answer_life (st : Status) (b : ReplyBody) : (answer st b s).life = s.life := by unfold answer; split <;> rfl
@[simp] theorem answer_resetN (st : Status) (b : ReplyBody) : (answer st b s).resetN = s.resetN := by unfold answer; split <;> rfl
@[simp] theorem answer_cause (st : Status) (b : ReplyBody) : (answer st b s).cause = s.cause := by unfold answer; split <;> rfl
@[simp] theorem answer_timebase (st : Status) (b : ReplyBody) : (answer st b s).timebase = s.timebase := by unfold answer; split <;> rfl
@[simp] theorem answer_store (st : Status) (b : ReplyBody) : (answer st b s).store = s.store := by unfold answer; split <;> rfl
@[simp] theorem answer_pool (st : Status) (b : ReplyBody) : (answer st b s).pool = s.pool := by unfold answer; split <;> rfl
@[simp] theorem answer_arbiter (st : Status) (b : ReplyBody) : (answer st b s).arbiter = s.arbiter := by unfold answer; split <;> rfl
@[simp] theorem answer_sweep (st : Status) (b : ReplyBody) : (answer st b s).sweep = s.sweep := by unfold answer; split <;> rfl
@[simp] theorem answer_segments (st : Status) (b : ReplyBody) : (answer st b s).segments = s.segments := by unfold answer; split <;> rfl
@[simp] theorem answer_verifier (st : Status) (b : ReplyBody) : (answer st b s).verifier = s.verifier := by unfold answer; split <;> rfl
@[simp] theorem answer_schedule (st : Status) (b : ReplyBody) : (answer st b s).schedule = s.schedule := by unfold answer; split <;> rfl
@[simp] theorem answer_sequencer (st : Status) (b : ReplyBody) : (answer st b s).sequencer = s.sequencer := by unfold answer; split <;> rfl
@[simp] theorem answer_pipeline (st : Status) (b : ReplyBody) : (answer st b s).pipeline = s.pipeline := by unfold answer; split <;> rfl
@[simp] theorem answer_run (st : Status) (b : ReplyBody) : (answer st b s).run = s.run := by unfold answer; split <;> rfl
@[simp] theorem answer_rig (st : Status) (b : ReplyBody) : (answer st b s).rig = s.rig := by unfold answer; split <;> rfl
@[simp] theorem answer_monitors (st : Status) (b : ReplyBody) : (answer st b s).monitors = s.monitors := by unfold answer; split <;> rfl
@[simp] theorem answer_faults (st : Status) (b : ReplyBody) : (answer st b s).faults = s.faults := by unfold answer; split <;> rfl
@[simp] theorem answer_capture (st : Status) (b : ReplyBody) : (answer st b s).capture = s.capture := by unfold answer; split <;> rfl
@[simp] theorem answer_summaries (st : Status) (b : ReplyBody) : (answer st b s).summaries = s.summaries := by unfold answer; split <;> rfl
@[simp] theorem answer_config (st : Status) (b : ReplyBody) : (answer st b s).config = s.config := by unfold answer; split <;> rfl
@[simp] theorem answer_permit (st : Status) (b : ReplyBody) : (answer st b s).permit = s.permit := by unfold answer; split <;> rfl
@[simp] theorem answer_supervisor (st : Status) (b : ReplyBody) : (answer st b s).supervisor = s.supervisor := by unfold answer; split <;> rfl
@[simp] theorem answer_events (st : Status) (b : ReplyBody) : (answer st b s).events = s.events := by unfold answer; split <;> rfl
@[simp] theorem answer_freeTick (st : Status) (b : ReplyBody) : (answer st b s).freeTick = s.freeTick := by unfold answer; split <;> rfl
@[simp] theorem answer_pending (st : Status) (b : ReplyBody) : (answer st b s).pending = s.pending := by unfold answer; split <;> rfl

/-! `setJob` changes `link` only. -/

@[simp] theorem setJob_life (j : LinkJob) : (setJob j s).life = s.life := by unfold setJob; split <;> rfl
@[simp] theorem setJob_resetN (j : LinkJob) : (setJob j s).resetN = s.resetN := by unfold setJob; split <;> rfl
@[simp] theorem setJob_cause (j : LinkJob) : (setJob j s).cause = s.cause := by unfold setJob; split <;> rfl
@[simp] theorem setJob_timebase (j : LinkJob) : (setJob j s).timebase = s.timebase := by unfold setJob; split <;> rfl
@[simp] theorem setJob_store (j : LinkJob) : (setJob j s).store = s.store := by unfold setJob; split <;> rfl
@[simp] theorem setJob_pool (j : LinkJob) : (setJob j s).pool = s.pool := by unfold setJob; split <;> rfl
@[simp] theorem setJob_arbiter (j : LinkJob) : (setJob j s).arbiter = s.arbiter := by unfold setJob; split <;> rfl
@[simp] theorem setJob_sweep (j : LinkJob) : (setJob j s).sweep = s.sweep := by unfold setJob; split <;> rfl
@[simp] theorem setJob_segments (j : LinkJob) : (setJob j s).segments = s.segments := by unfold setJob; split <;> rfl
@[simp] theorem setJob_verifier (j : LinkJob) : (setJob j s).verifier = s.verifier := by unfold setJob; split <;> rfl
@[simp] theorem setJob_schedule (j : LinkJob) : (setJob j s).schedule = s.schedule := by unfold setJob; split <;> rfl
@[simp] theorem setJob_sequencer (j : LinkJob) : (setJob j s).sequencer = s.sequencer := by unfold setJob; split <;> rfl
@[simp] theorem setJob_pipeline (j : LinkJob) : (setJob j s).pipeline = s.pipeline := by unfold setJob; split <;> rfl
@[simp] theorem setJob_run (j : LinkJob) : (setJob j s).run = s.run := by unfold setJob; split <;> rfl
@[simp] theorem setJob_rig (j : LinkJob) : (setJob j s).rig = s.rig := by unfold setJob; split <;> rfl
@[simp] theorem setJob_monitors (j : LinkJob) : (setJob j s).monitors = s.monitors := by unfold setJob; split <;> rfl
@[simp] theorem setJob_faults (j : LinkJob) : (setJob j s).faults = s.faults := by unfold setJob; split <;> rfl
@[simp] theorem setJob_capture (j : LinkJob) : (setJob j s).capture = s.capture := by unfold setJob; split <;> rfl
@[simp] theorem setJob_summaries (j : LinkJob) : (setJob j s).summaries = s.summaries := by unfold setJob; split <;> rfl
@[simp] theorem setJob_config (j : LinkJob) : (setJob j s).config = s.config := by unfold setJob; split <;> rfl
@[simp] theorem setJob_permit (j : LinkJob) : (setJob j s).permit = s.permit := by unfold setJob; split <;> rfl
@[simp] theorem setJob_supervisor (j : LinkJob) : (setJob j s).supervisor = s.supervisor := by unfold setJob; split <;> rfl
@[simp] theorem setJob_events (j : LinkJob) : (setJob j s).events = s.events := by unfold setJob; split <;> rfl
@[simp] theorem setJob_freeTick (j : LinkJob) : (setJob j s).freeTick = s.freeTick := by unfold setJob; split <;> rfl
@[simp] theorem setJob_pending (j : LinkJob) : (setJob j s).pending = s.pending := by unfold setJob; split <;> rfl

/-! `discardFrame` changes `link` only. -/

@[simp] theorem discardFrame_life : (discardFrame s).life = s.life := rfl
@[simp] theorem discardFrame_resetN : (discardFrame s).resetN = s.resetN := rfl
@[simp] theorem discardFrame_cause : (discardFrame s).cause = s.cause := rfl
@[simp] theorem discardFrame_timebase : (discardFrame s).timebase = s.timebase := rfl
@[simp] theorem discardFrame_store : (discardFrame s).store = s.store := rfl
@[simp] theorem discardFrame_pool : (discardFrame s).pool = s.pool := rfl
@[simp] theorem discardFrame_arbiter : (discardFrame s).arbiter = s.arbiter := rfl
@[simp] theorem discardFrame_sweep : (discardFrame s).sweep = s.sweep := rfl
@[simp] theorem discardFrame_segments : (discardFrame s).segments = s.segments := rfl
@[simp] theorem discardFrame_verifier : (discardFrame s).verifier = s.verifier := rfl
@[simp] theorem discardFrame_schedule : (discardFrame s).schedule = s.schedule := rfl
@[simp] theorem discardFrame_sequencer : (discardFrame s).sequencer = s.sequencer := rfl
@[simp] theorem discardFrame_pipeline : (discardFrame s).pipeline = s.pipeline := rfl
@[simp] theorem discardFrame_run : (discardFrame s).run = s.run := rfl
@[simp] theorem discardFrame_rig : (discardFrame s).rig = s.rig := rfl
@[simp] theorem discardFrame_monitors : (discardFrame s).monitors = s.monitors := rfl
@[simp] theorem discardFrame_faults : (discardFrame s).faults = s.faults := rfl
@[simp] theorem discardFrame_capture : (discardFrame s).capture = s.capture := rfl
@[simp] theorem discardFrame_summaries : (discardFrame s).summaries = s.summaries := rfl
@[simp] theorem discardFrame_config : (discardFrame s).config = s.config := rfl
@[simp] theorem discardFrame_permit : (discardFrame s).permit = s.permit := rfl
@[simp] theorem discardFrame_supervisor : (discardFrame s).supervisor = s.supervisor := rfl
@[simp] theorem discardFrame_events : (discardFrame s).events = s.events := rfl
@[simp] theorem discardFrame_freeTick : (discardFrame s).freeTick = s.freeTick := rfl
@[simp] theorem discardFrame_pending : (discardFrame s).pending = s.pending := rfl

/-! `answerBusy` changes `link` only. -/

@[simp] theorem answerBusy_life (kind tag : Byte) : (answerBusy kind tag s).life = s.life := by unfold answerBusy; split <;> rfl
@[simp] theorem answerBusy_resetN (kind tag : Byte) : (answerBusy kind tag s).resetN = s.resetN := by unfold answerBusy; split <;> rfl
@[simp] theorem answerBusy_cause (kind tag : Byte) : (answerBusy kind tag s).cause = s.cause := by unfold answerBusy; split <;> rfl
@[simp] theorem answerBusy_timebase (kind tag : Byte) : (answerBusy kind tag s).timebase = s.timebase := by unfold answerBusy; split <;> rfl
@[simp] theorem answerBusy_store (kind tag : Byte) : (answerBusy kind tag s).store = s.store := by unfold answerBusy; split <;> rfl
@[simp] theorem answerBusy_pool (kind tag : Byte) : (answerBusy kind tag s).pool = s.pool := by unfold answerBusy; split <;> rfl
@[simp] theorem answerBusy_arbiter (kind tag : Byte) : (answerBusy kind tag s).arbiter = s.arbiter := by unfold answerBusy; split <;> rfl
@[simp] theorem answerBusy_sweep (kind tag : Byte) : (answerBusy kind tag s).sweep = s.sweep := by unfold answerBusy; split <;> rfl
@[simp] theorem answerBusy_segments (kind tag : Byte) : (answerBusy kind tag s).segments = s.segments := by unfold answerBusy; split <;> rfl
@[simp] theorem answerBusy_verifier (kind tag : Byte) : (answerBusy kind tag s).verifier = s.verifier := by unfold answerBusy; split <;> rfl
@[simp] theorem answerBusy_schedule (kind tag : Byte) : (answerBusy kind tag s).schedule = s.schedule := by unfold answerBusy; split <;> rfl
@[simp] theorem answerBusy_sequencer (kind tag : Byte) : (answerBusy kind tag s).sequencer = s.sequencer := by unfold answerBusy; split <;> rfl
@[simp] theorem answerBusy_pipeline (kind tag : Byte) : (answerBusy kind tag s).pipeline = s.pipeline := by unfold answerBusy; split <;> rfl
@[simp] theorem answerBusy_run (kind tag : Byte) : (answerBusy kind tag s).run = s.run := by unfold answerBusy; split <;> rfl
@[simp] theorem answerBusy_rig (kind tag : Byte) : (answerBusy kind tag s).rig = s.rig := by unfold answerBusy; split <;> rfl
@[simp] theorem answerBusy_monitors (kind tag : Byte) : (answerBusy kind tag s).monitors = s.monitors := by unfold answerBusy; split <;> rfl
@[simp] theorem answerBusy_faults (kind tag : Byte) : (answerBusy kind tag s).faults = s.faults := by unfold answerBusy; split <;> rfl
@[simp] theorem answerBusy_capture (kind tag : Byte) : (answerBusy kind tag s).capture = s.capture := by unfold answerBusy; split <;> rfl
@[simp] theorem answerBusy_summaries (kind tag : Byte) : (answerBusy kind tag s).summaries = s.summaries := by unfold answerBusy; split <;> rfl
@[simp] theorem answerBusy_config (kind tag : Byte) : (answerBusy kind tag s).config = s.config := by unfold answerBusy; split <;> rfl
@[simp] theorem answerBusy_permit (kind tag : Byte) : (answerBusy kind tag s).permit = s.permit := by unfold answerBusy; split <;> rfl
@[simp] theorem answerBusy_supervisor (kind tag : Byte) : (answerBusy kind tag s).supervisor = s.supervisor := by unfold answerBusy; split <;> rfl
@[simp] theorem answerBusy_events (kind tag : Byte) : (answerBusy kind tag s).events = s.events := by unfold answerBusy; split <;> rfl
@[simp] theorem answerBusy_freeTick (kind tag : Byte) : (answerBusy kind tag s).freeTick = s.freeTick := by unfold answerBusy; split <;> rfl
@[simp] theorem answerBusy_pending (kind tag : Byte) : (answerBusy kind tag s).pending = s.pending := by unfold answerBusy; split <;> rfl

/-! `takeInHand` changes `link` only. -/

@[simp] theorem takeInHand_life (kind tag : Byte) : (takeInHand kind tag s).life = s.life := rfl
@[simp] theorem takeInHand_resetN (kind tag : Byte) : (takeInHand kind tag s).resetN = s.resetN := rfl
@[simp] theorem takeInHand_cause (kind tag : Byte) : (takeInHand kind tag s).cause = s.cause := rfl
@[simp] theorem takeInHand_timebase (kind tag : Byte) : (takeInHand kind tag s).timebase = s.timebase := rfl
@[simp] theorem takeInHand_store (kind tag : Byte) : (takeInHand kind tag s).store = s.store := rfl
@[simp] theorem takeInHand_pool (kind tag : Byte) : (takeInHand kind tag s).pool = s.pool := rfl
@[simp] theorem takeInHand_arbiter (kind tag : Byte) : (takeInHand kind tag s).arbiter = s.arbiter := rfl
@[simp] theorem takeInHand_sweep (kind tag : Byte) : (takeInHand kind tag s).sweep = s.sweep := rfl
@[simp] theorem takeInHand_segments (kind tag : Byte) : (takeInHand kind tag s).segments = s.segments := rfl
@[simp] theorem takeInHand_verifier (kind tag : Byte) : (takeInHand kind tag s).verifier = s.verifier := rfl
@[simp] theorem takeInHand_schedule (kind tag : Byte) : (takeInHand kind tag s).schedule = s.schedule := rfl
@[simp] theorem takeInHand_sequencer (kind tag : Byte) : (takeInHand kind tag s).sequencer = s.sequencer := rfl
@[simp] theorem takeInHand_pipeline (kind tag : Byte) : (takeInHand kind tag s).pipeline = s.pipeline := rfl
@[simp] theorem takeInHand_run (kind tag : Byte) : (takeInHand kind tag s).run = s.run := rfl
@[simp] theorem takeInHand_rig (kind tag : Byte) : (takeInHand kind tag s).rig = s.rig := rfl
@[simp] theorem takeInHand_monitors (kind tag : Byte) : (takeInHand kind tag s).monitors = s.monitors := rfl
@[simp] theorem takeInHand_faults (kind tag : Byte) : (takeInHand kind tag s).faults = s.faults := rfl
@[simp] theorem takeInHand_capture (kind tag : Byte) : (takeInHand kind tag s).capture = s.capture := rfl
@[simp] theorem takeInHand_summaries (kind tag : Byte) : (takeInHand kind tag s).summaries = s.summaries := rfl
@[simp] theorem takeInHand_config (kind tag : Byte) : (takeInHand kind tag s).config = s.config := rfl
@[simp] theorem takeInHand_permit (kind tag : Byte) : (takeInHand kind tag s).permit = s.permit := rfl
@[simp] theorem takeInHand_supervisor (kind tag : Byte) : (takeInHand kind tag s).supervisor = s.supervisor := rfl
@[simp] theorem takeInHand_events (kind tag : Byte) : (takeInHand kind tag s).events = s.events := rfl
@[simp] theorem takeInHand_freeTick (kind tag : Byte) : (takeInHand kind tag s).freeTick = s.freeTick := rfl
@[simp] theorem takeInHand_pending (kind tag : Byte) : (takeInHand kind tag s).pending = s.pending := rfl

/-! `finishGranted` changes `store`, `arbiter` only. -/

@[simp] theorem finishGranted_life (ps : List Nat) : (finishGranted ps s).life = s.life := by unfold finishGranted; split <;> [rfl; (split <;> rfl)]
@[simp] theorem finishGranted_resetN (ps : List Nat) : (finishGranted ps s).resetN = s.resetN := by unfold finishGranted; split <;> [rfl; (split <;> rfl)]
@[simp] theorem finishGranted_cause (ps : List Nat) : (finishGranted ps s).cause = s.cause := by unfold finishGranted; split <;> [rfl; (split <;> rfl)]
@[simp] theorem finishGranted_timebase (ps : List Nat) : (finishGranted ps s).timebase = s.timebase := by unfold finishGranted; split <;> [rfl; (split <;> rfl)]
@[simp] theorem finishGranted_pool (ps : List Nat) : (finishGranted ps s).pool = s.pool := by unfold finishGranted; split <;> [rfl; (split <;> rfl)]
@[simp] theorem finishGranted_sweep (ps : List Nat) : (finishGranted ps s).sweep = s.sweep := by unfold finishGranted; split <;> [rfl; (split <;> rfl)]
@[simp] theorem finishGranted_segments (ps : List Nat) : (finishGranted ps s).segments = s.segments := by unfold finishGranted; split <;> [rfl; (split <;> rfl)]
@[simp] theorem finishGranted_verifier (ps : List Nat) : (finishGranted ps s).verifier = s.verifier := by unfold finishGranted; split <;> [rfl; (split <;> rfl)]
@[simp] theorem finishGranted_schedule (ps : List Nat) : (finishGranted ps s).schedule = s.schedule := by unfold finishGranted; split <;> [rfl; (split <;> rfl)]
@[simp] theorem finishGranted_sequencer (ps : List Nat) : (finishGranted ps s).sequencer = s.sequencer := by unfold finishGranted; split <;> [rfl; (split <;> rfl)]
@[simp] theorem finishGranted_pipeline (ps : List Nat) : (finishGranted ps s).pipeline = s.pipeline := by unfold finishGranted; split <;> [rfl; (split <;> rfl)]
@[simp] theorem finishGranted_run (ps : List Nat) : (finishGranted ps s).run = s.run := by unfold finishGranted; split <;> [rfl; (split <;> rfl)]
@[simp] theorem finishGranted_rig (ps : List Nat) : (finishGranted ps s).rig = s.rig := by unfold finishGranted; split <;> [rfl; (split <;> rfl)]
@[simp] theorem finishGranted_monitors (ps : List Nat) : (finishGranted ps s).monitors = s.monitors := by unfold finishGranted; split <;> [rfl; (split <;> rfl)]
@[simp] theorem finishGranted_faults (ps : List Nat) : (finishGranted ps s).faults = s.faults := by unfold finishGranted; split <;> [rfl; (split <;> rfl)]
@[simp] theorem finishGranted_capture (ps : List Nat) : (finishGranted ps s).capture = s.capture := by unfold finishGranted; split <;> [rfl; (split <;> rfl)]
@[simp] theorem finishGranted_summaries (ps : List Nat) : (finishGranted ps s).summaries = s.summaries := by unfold finishGranted; split <;> [rfl; (split <;> rfl)]
@[simp] theorem finishGranted_config (ps : List Nat) : (finishGranted ps s).config = s.config := by unfold finishGranted; split <;> [rfl; (split <;> rfl)]
@[simp] theorem finishGranted_permit (ps : List Nat) : (finishGranted ps s).permit = s.permit := by unfold finishGranted; split <;> [rfl; (split <;> rfl)]
@[simp] theorem finishGranted_supervisor (ps : List Nat) : (finishGranted ps s).supervisor = s.supervisor := by unfold finishGranted; split <;> [rfl; (split <;> rfl)]
@[simp] theorem finishGranted_link (ps : List Nat) : (finishGranted ps s).link = s.link := by unfold finishGranted; split <;> [rfl; (split <;> rfl)]
@[simp] theorem finishGranted_events (ps : List Nat) : (finishGranted ps s).events = s.events := by unfold finishGranted; split <;> [rfl; (split <;> rfl)]
@[simp] theorem finishGranted_freeTick (ps : List Nat) : (finishGranted ps s).freeTick = s.freeTick := by unfold finishGranted; split <;> [rfl; (split <;> rfl)]
@[simp] theorem finishGranted_pending (ps : List Nat) : (finishGranted ps s).pending = s.pending := by unfold finishGranted; split <;> [rfl; (split <;> rfl)]

/-! `poolPages` changes `pool`, `arbiter`, `sweep` only. -/

@[simp] theorem poolPages_life (ps : List Nat) : (poolPages ps s).life = s.life := rfl
@[simp] theorem poolPages_resetN (ps : List Nat) : (poolPages ps s).resetN = s.resetN := rfl
@[simp] theorem poolPages_cause (ps : List Nat) : (poolPages ps s).cause = s.cause := rfl
@[simp] theorem poolPages_timebase (ps : List Nat) : (poolPages ps s).timebase = s.timebase := rfl
@[simp] theorem poolPages_store (ps : List Nat) : (poolPages ps s).store = s.store := rfl
@[simp] theorem poolPages_segments (ps : List Nat) : (poolPages ps s).segments = s.segments := rfl
@[simp] theorem poolPages_verifier (ps : List Nat) : (poolPages ps s).verifier = s.verifier := rfl
@[simp] theorem poolPages_schedule (ps : List Nat) : (poolPages ps s).schedule = s.schedule := rfl
@[simp] theorem poolPages_sequencer (ps : List Nat) : (poolPages ps s).sequencer = s.sequencer := rfl
@[simp] theorem poolPages_pipeline (ps : List Nat) : (poolPages ps s).pipeline = s.pipeline := rfl
@[simp] theorem poolPages_run (ps : List Nat) : (poolPages ps s).run = s.run := rfl
@[simp] theorem poolPages_rig (ps : List Nat) : (poolPages ps s).rig = s.rig := rfl
@[simp] theorem poolPages_monitors (ps : List Nat) : (poolPages ps s).monitors = s.monitors := rfl
@[simp] theorem poolPages_faults (ps : List Nat) : (poolPages ps s).faults = s.faults := rfl
@[simp] theorem poolPages_capture (ps : List Nat) : (poolPages ps s).capture = s.capture := rfl
@[simp] theorem poolPages_summaries (ps : List Nat) : (poolPages ps s).summaries = s.summaries := rfl
@[simp] theorem poolPages_config (ps : List Nat) : (poolPages ps s).config = s.config := rfl
@[simp] theorem poolPages_permit (ps : List Nat) : (poolPages ps s).permit = s.permit := rfl
@[simp] theorem poolPages_supervisor (ps : List Nat) : (poolPages ps s).supervisor = s.supervisor := rfl
@[simp] theorem poolPages_link (ps : List Nat) : (poolPages ps s).link = s.link := rfl
@[simp] theorem poolPages_events (ps : List Nat) : (poolPages ps s).events = s.events := rfl
@[simp] theorem poolPages_freeTick (ps : List Nat) : (poolPages ps s).freeTick = s.freeTick := rfl
@[simp] theorem poolPages_pending (ps : List Nat) : (poolPages ps s).pending = s.pending := rfl

/-! `releasePages` changes `store`, `pool`, `arbiter`, `sweep` only. -/

@[simp] theorem releasePages_life (ps : List Nat) : (releasePages ps s).life = s.life := by simp [releasePages]
@[simp] theorem releasePages_resetN (ps : List Nat) : (releasePages ps s).resetN = s.resetN := by simp [releasePages]
@[simp] theorem releasePages_cause (ps : List Nat) : (releasePages ps s).cause = s.cause := by simp [releasePages]
@[simp] theorem releasePages_timebase (ps : List Nat) : (releasePages ps s).timebase = s.timebase := by simp [releasePages]
@[simp] theorem releasePages_segments (ps : List Nat) : (releasePages ps s).segments = s.segments := by simp [releasePages]
@[simp] theorem releasePages_verifier (ps : List Nat) : (releasePages ps s).verifier = s.verifier := by simp [releasePages]
@[simp] theorem releasePages_schedule (ps : List Nat) : (releasePages ps s).schedule = s.schedule := by simp [releasePages]
@[simp] theorem releasePages_sequencer (ps : List Nat) : (releasePages ps s).sequencer = s.sequencer := by simp [releasePages]
@[simp] theorem releasePages_pipeline (ps : List Nat) : (releasePages ps s).pipeline = s.pipeline := by simp [releasePages]
@[simp] theorem releasePages_run (ps : List Nat) : (releasePages ps s).run = s.run := by simp [releasePages]
@[simp] theorem releasePages_rig (ps : List Nat) : (releasePages ps s).rig = s.rig := by simp [releasePages]
@[simp] theorem releasePages_monitors (ps : List Nat) : (releasePages ps s).monitors = s.monitors := by simp [releasePages]
@[simp] theorem releasePages_faults (ps : List Nat) : (releasePages ps s).faults = s.faults := by simp [releasePages]
@[simp] theorem releasePages_capture (ps : List Nat) : (releasePages ps s).capture = s.capture := by simp [releasePages]
@[simp] theorem releasePages_summaries (ps : List Nat) : (releasePages ps s).summaries = s.summaries := by simp [releasePages]
@[simp] theorem releasePages_config (ps : List Nat) : (releasePages ps s).config = s.config := by simp [releasePages]
@[simp] theorem releasePages_permit (ps : List Nat) : (releasePages ps s).permit = s.permit := by simp [releasePages]
@[simp] theorem releasePages_supervisor (ps : List Nat) : (releasePages ps s).supervisor = s.supervisor := by simp [releasePages]
@[simp] theorem releasePages_link (ps : List Nat) : (releasePages ps s).link = s.link := by simp [releasePages]
@[simp] theorem releasePages_events (ps : List Nat) : (releasePages ps s).events = s.events := by simp [releasePages]
@[simp] theorem releasePages_freeTick (ps : List Nat) : (releasePages ps s).freeTick = s.freeTick := by simp [releasePages]
@[simp] theorem releasePages_pending (ps : List Nat) : (releasePages ps s).pending = s.pending := by simp [releasePages]

/-! `setDescriptor` changes `segments` only. -/

@[simp] theorem setDescriptor_life (id : Nat) (d : Descriptor) : (setDescriptor id d s).life = s.life := rfl
@[simp] theorem setDescriptor_resetN (id : Nat) (d : Descriptor) : (setDescriptor id d s).resetN = s.resetN := rfl
@[simp] theorem setDescriptor_cause (id : Nat) (d : Descriptor) : (setDescriptor id d s).cause = s.cause := rfl
@[simp] theorem setDescriptor_timebase (id : Nat) (d : Descriptor) : (setDescriptor id d s).timebase = s.timebase := rfl
@[simp] theorem setDescriptor_store (id : Nat) (d : Descriptor) : (setDescriptor id d s).store = s.store := rfl
@[simp] theorem setDescriptor_pool (id : Nat) (d : Descriptor) : (setDescriptor id d s).pool = s.pool := rfl
@[simp] theorem setDescriptor_arbiter (id : Nat) (d : Descriptor) : (setDescriptor id d s).arbiter = s.arbiter := rfl
@[simp] theorem setDescriptor_sweep (id : Nat) (d : Descriptor) : (setDescriptor id d s).sweep = s.sweep := rfl
@[simp] theorem setDescriptor_verifier (id : Nat) (d : Descriptor) : (setDescriptor id d s).verifier = s.verifier := rfl
@[simp] theorem setDescriptor_schedule (id : Nat) (d : Descriptor) : (setDescriptor id d s).schedule = s.schedule := rfl
@[simp] theorem setDescriptor_sequencer (id : Nat) (d : Descriptor) : (setDescriptor id d s).sequencer = s.sequencer := rfl
@[simp] theorem setDescriptor_pipeline (id : Nat) (d : Descriptor) : (setDescriptor id d s).pipeline = s.pipeline := rfl
@[simp] theorem setDescriptor_run (id : Nat) (d : Descriptor) : (setDescriptor id d s).run = s.run := rfl
@[simp] theorem setDescriptor_rig (id : Nat) (d : Descriptor) : (setDescriptor id d s).rig = s.rig := rfl
@[simp] theorem setDescriptor_monitors (id : Nat) (d : Descriptor) : (setDescriptor id d s).monitors = s.monitors := rfl
@[simp] theorem setDescriptor_faults (id : Nat) (d : Descriptor) : (setDescriptor id d s).faults = s.faults := rfl
@[simp] theorem setDescriptor_capture (id : Nat) (d : Descriptor) : (setDescriptor id d s).capture = s.capture := rfl
@[simp] theorem setDescriptor_summaries (id : Nat) (d : Descriptor) : (setDescriptor id d s).summaries = s.summaries := rfl
@[simp] theorem setDescriptor_config (id : Nat) (d : Descriptor) : (setDescriptor id d s).config = s.config := rfl
@[simp] theorem setDescriptor_permit (id : Nat) (d : Descriptor) : (setDescriptor id d s).permit = s.permit := rfl
@[simp] theorem setDescriptor_supervisor (id : Nat) (d : Descriptor) : (setDescriptor id d s).supervisor = s.supervisor := rfl
@[simp] theorem setDescriptor_link (id : Nat) (d : Descriptor) : (setDescriptor id d s).link = s.link := rfl
@[simp] theorem setDescriptor_events (id : Nat) (d : Descriptor) : (setDescriptor id d s).events = s.events := rfl
@[simp] theorem setDescriptor_freeTick (id : Nat) (d : Descriptor) : (setDescriptor id d s).freeTick = s.freeTick := rfl
@[simp] theorem setDescriptor_pending (id : Nat) (d : Descriptor) : (setDescriptor id d s).pending = s.pending := rfl

/-! `dropTarget` changes `verifier`, `arbiter` only. -/

@[simp] theorem dropTarget_life (t : Target) : (dropTarget t s).life = s.life := by unfold dropTarget; split <;> rfl
@[simp] theorem dropTarget_resetN (t : Target) : (dropTarget t s).resetN = s.resetN := by unfold dropTarget; split <;> rfl
@[simp] theorem dropTarget_cause (t : Target) : (dropTarget t s).cause = s.cause := by unfold dropTarget; split <;> rfl
@[simp] theorem dropTarget_timebase (t : Target) : (dropTarget t s).timebase = s.timebase := by unfold dropTarget; split <;> rfl
@[simp] theorem dropTarget_store (t : Target) : (dropTarget t s).store = s.store := by unfold dropTarget; split <;> rfl
@[simp] theorem dropTarget_pool (t : Target) : (dropTarget t s).pool = s.pool := by unfold dropTarget; split <;> rfl
@[simp] theorem dropTarget_sweep (t : Target) : (dropTarget t s).sweep = s.sweep := by unfold dropTarget; split <;> rfl
@[simp] theorem dropTarget_segments (t : Target) : (dropTarget t s).segments = s.segments := by unfold dropTarget; split <;> rfl
@[simp] theorem dropTarget_schedule (t : Target) : (dropTarget t s).schedule = s.schedule := by unfold dropTarget; split <;> rfl
@[simp] theorem dropTarget_sequencer (t : Target) : (dropTarget t s).sequencer = s.sequencer := by unfold dropTarget; split <;> rfl
@[simp] theorem dropTarget_pipeline (t : Target) : (dropTarget t s).pipeline = s.pipeline := by unfold dropTarget; split <;> rfl
@[simp] theorem dropTarget_run (t : Target) : (dropTarget t s).run = s.run := by unfold dropTarget; split <;> rfl
@[simp] theorem dropTarget_rig (t : Target) : (dropTarget t s).rig = s.rig := by unfold dropTarget; split <;> rfl
@[simp] theorem dropTarget_monitors (t : Target) : (dropTarget t s).monitors = s.monitors := by unfold dropTarget; split <;> rfl
@[simp] theorem dropTarget_faults (t : Target) : (dropTarget t s).faults = s.faults := by unfold dropTarget; split <;> rfl
@[simp] theorem dropTarget_capture (t : Target) : (dropTarget t s).capture = s.capture := by unfold dropTarget; split <;> rfl
@[simp] theorem dropTarget_summaries (t : Target) : (dropTarget t s).summaries = s.summaries := by unfold dropTarget; split <;> rfl
@[simp] theorem dropTarget_config (t : Target) : (dropTarget t s).config = s.config := by unfold dropTarget; split <;> rfl
@[simp] theorem dropTarget_permit (t : Target) : (dropTarget t s).permit = s.permit := by unfold dropTarget; split <;> rfl
@[simp] theorem dropTarget_supervisor (t : Target) : (dropTarget t s).supervisor = s.supervisor := by unfold dropTarget; split <;> rfl
@[simp] theorem dropTarget_link (t : Target) : (dropTarget t s).link = s.link := by unfold dropTarget; split <;> rfl
@[simp] theorem dropTarget_events (t : Target) : (dropTarget t s).events = s.events := by unfold dropTarget; split <;> rfl
@[simp] theorem dropTarget_freeTick (t : Target) : (dropTarget t s).freeTick = s.freeTick := by unfold dropTarget; split <;> rfl
@[simp] theorem dropTarget_pending (t : Target) : (dropTarget t s).pending = s.pending := by unfold dropTarget; split <;> rfl

/-! `withdrawReads` changes `arbiter` only. -/

@[simp] theorem withdrawReads_life (q : ReadPurpose) : (withdrawReads q s).life = s.life := rfl
@[simp] theorem withdrawReads_resetN (q : ReadPurpose) : (withdrawReads q s).resetN = s.resetN := rfl
@[simp] theorem withdrawReads_cause (q : ReadPurpose) : (withdrawReads q s).cause = s.cause := rfl
@[simp] theorem withdrawReads_timebase (q : ReadPurpose) : (withdrawReads q s).timebase = s.timebase := rfl
@[simp] theorem withdrawReads_store (q : ReadPurpose) : (withdrawReads q s).store = s.store := rfl
@[simp] theorem withdrawReads_pool (q : ReadPurpose) : (withdrawReads q s).pool = s.pool := rfl
@[simp] theorem withdrawReads_sweep (q : ReadPurpose) : (withdrawReads q s).sweep = s.sweep := rfl
@[simp] theorem withdrawReads_segments (q : ReadPurpose) : (withdrawReads q s).segments = s.segments := rfl
@[simp] theorem withdrawReads_verifier (q : ReadPurpose) : (withdrawReads q s).verifier = s.verifier := rfl
@[simp] theorem withdrawReads_schedule (q : ReadPurpose) : (withdrawReads q s).schedule = s.schedule := rfl
@[simp] theorem withdrawReads_sequencer (q : ReadPurpose) : (withdrawReads q s).sequencer = s.sequencer := rfl
@[simp] theorem withdrawReads_pipeline (q : ReadPurpose) : (withdrawReads q s).pipeline = s.pipeline := rfl
@[simp] theorem withdrawReads_run (q : ReadPurpose) : (withdrawReads q s).run = s.run := rfl
@[simp] theorem withdrawReads_rig (q : ReadPurpose) : (withdrawReads q s).rig = s.rig := rfl
@[simp] theorem withdrawReads_monitors (q : ReadPurpose) : (withdrawReads q s).monitors = s.monitors := rfl
@[simp] theorem withdrawReads_faults (q : ReadPurpose) : (withdrawReads q s).faults = s.faults := rfl
@[simp] theorem withdrawReads_capture (q : ReadPurpose) : (withdrawReads q s).capture = s.capture := rfl
@[simp] theorem withdrawReads_summaries (q : ReadPurpose) : (withdrawReads q s).summaries = s.summaries := rfl
@[simp] theorem withdrawReads_config (q : ReadPurpose) : (withdrawReads q s).config = s.config := rfl
@[simp] theorem withdrawReads_permit (q : ReadPurpose) : (withdrawReads q s).permit = s.permit := rfl
@[simp] theorem withdrawReads_supervisor (q : ReadPurpose) : (withdrawReads q s).supervisor = s.supervisor := rfl
@[simp] theorem withdrawReads_link (q : ReadPurpose) : (withdrawReads q s).link = s.link := rfl
@[simp] theorem withdrawReads_events (q : ReadPurpose) : (withdrawReads q s).events = s.events := rfl
@[simp] theorem withdrawReads_freeTick (q : ReadPurpose) : (withdrawReads q s).freeTick = s.freeTick := rfl
@[simp] theorem withdrawReads_pending (q : ReadPurpose) : (withdrawReads q s).pending = s.pending := rfl

/-! `voidLookahead` changes `arbiter`, `sequencer`, `pipeline` only. -/

@[simp] theorem voidLookahead_life : (voidLookahead s).life = s.life := rfl
@[simp] theorem voidLookahead_resetN : (voidLookahead s).resetN = s.resetN := rfl
@[simp] theorem voidLookahead_cause : (voidLookahead s).cause = s.cause := rfl
@[simp] theorem voidLookahead_timebase : (voidLookahead s).timebase = s.timebase := rfl
@[simp] theorem voidLookahead_store : (voidLookahead s).store = s.store := rfl
@[simp] theorem voidLookahead_pool : (voidLookahead s).pool = s.pool := rfl
@[simp] theorem voidLookahead_sweep : (voidLookahead s).sweep = s.sweep := rfl
@[simp] theorem voidLookahead_segments : (voidLookahead s).segments = s.segments := rfl
@[simp] theorem voidLookahead_verifier : (voidLookahead s).verifier = s.verifier := rfl
@[simp] theorem voidLookahead_schedule : (voidLookahead s).schedule = s.schedule := rfl
@[simp] theorem voidLookahead_run : (voidLookahead s).run = s.run := rfl
@[simp] theorem voidLookahead_rig : (voidLookahead s).rig = s.rig := rfl
@[simp] theorem voidLookahead_monitors : (voidLookahead s).monitors = s.monitors := rfl
@[simp] theorem voidLookahead_faults : (voidLookahead s).faults = s.faults := rfl
@[simp] theorem voidLookahead_capture : (voidLookahead s).capture = s.capture := rfl
@[simp] theorem voidLookahead_summaries : (voidLookahead s).summaries = s.summaries := rfl
@[simp] theorem voidLookahead_config : (voidLookahead s).config = s.config := rfl
@[simp] theorem voidLookahead_permit : (voidLookahead s).permit = s.permit := rfl
@[simp] theorem voidLookahead_supervisor : (voidLookahead s).supervisor = s.supervisor := rfl
@[simp] theorem voidLookahead_link : (voidLookahead s).link = s.link := rfl
@[simp] theorem voidLookahead_events : (voidLookahead s).events = s.events := rfl
@[simp] theorem voidLookahead_freeTick : (voidLookahead s).freeTick = s.freeTick := rfl
@[simp] theorem voidLookahead_pending : (voidLookahead s).pending = s.pending := rfl

/-! `installLookahead` changes `sequencer`, `pipeline` only. -/

@[simp] theorem installLookahead_life : (installLookahead s).life = s.life := rfl
@[simp] theorem installLookahead_resetN : (installLookahead s).resetN = s.resetN := rfl
@[simp] theorem installLookahead_cause : (installLookahead s).cause = s.cause := rfl
@[simp] theorem installLookahead_timebase : (installLookahead s).timebase = s.timebase := rfl
@[simp] theorem installLookahead_store : (installLookahead s).store = s.store := rfl
@[simp] theorem installLookahead_pool : (installLookahead s).pool = s.pool := rfl
@[simp] theorem installLookahead_arbiter : (installLookahead s).arbiter = s.arbiter := rfl
@[simp] theorem installLookahead_sweep : (installLookahead s).sweep = s.sweep := rfl
@[simp] theorem installLookahead_segments : (installLookahead s).segments = s.segments := rfl
@[simp] theorem installLookahead_verifier : (installLookahead s).verifier = s.verifier := rfl
@[simp] theorem installLookahead_schedule : (installLookahead s).schedule = s.schedule := rfl
@[simp] theorem installLookahead_run : (installLookahead s).run = s.run := rfl
@[simp] theorem installLookahead_rig : (installLookahead s).rig = s.rig := rfl
@[simp] theorem installLookahead_monitors : (installLookahead s).monitors = s.monitors := rfl
@[simp] theorem installLookahead_faults : (installLookahead s).faults = s.faults := rfl
@[simp] theorem installLookahead_capture : (installLookahead s).capture = s.capture := rfl
@[simp] theorem installLookahead_summaries : (installLookahead s).summaries = s.summaries := rfl
@[simp] theorem installLookahead_config : (installLookahead s).config = s.config := rfl
@[simp] theorem installLookahead_permit : (installLookahead s).permit = s.permit := rfl
@[simp] theorem installLookahead_supervisor : (installLookahead s).supervisor = s.supervisor := rfl
@[simp] theorem installLookahead_link : (installLookahead s).link = s.link := rfl
@[simp] theorem installLookahead_events : (installLookahead s).events = s.events := rfl
@[simp] theorem installLookahead_freeTick : (installLookahead s).freeTick = s.freeTick := rfl
@[simp] theorem installLookahead_pending : (installLookahead s).pending = s.pending := rfl

/-! `carriedAtSwap` changes `sequencer` only. -/

@[simp] theorem carriedAtSwap_life (id : Nat) : (carriedAtSwap id s).life = s.life := rfl
@[simp] theorem carriedAtSwap_resetN (id : Nat) : (carriedAtSwap id s).resetN = s.resetN := rfl
@[simp] theorem carriedAtSwap_cause (id : Nat) : (carriedAtSwap id s).cause = s.cause := rfl
@[simp] theorem carriedAtSwap_timebase (id : Nat) : (carriedAtSwap id s).timebase = s.timebase := rfl
@[simp] theorem carriedAtSwap_store (id : Nat) : (carriedAtSwap id s).store = s.store := rfl
@[simp] theorem carriedAtSwap_pool (id : Nat) : (carriedAtSwap id s).pool = s.pool := rfl
@[simp] theorem carriedAtSwap_arbiter (id : Nat) : (carriedAtSwap id s).arbiter = s.arbiter := rfl
@[simp] theorem carriedAtSwap_sweep (id : Nat) : (carriedAtSwap id s).sweep = s.sweep := rfl
@[simp] theorem carriedAtSwap_segments (id : Nat) : (carriedAtSwap id s).segments = s.segments := rfl
@[simp] theorem carriedAtSwap_verifier (id : Nat) : (carriedAtSwap id s).verifier = s.verifier := rfl
@[simp] theorem carriedAtSwap_schedule (id : Nat) : (carriedAtSwap id s).schedule = s.schedule := rfl
@[simp] theorem carriedAtSwap_pipeline (id : Nat) : (carriedAtSwap id s).pipeline = s.pipeline := rfl
@[simp] theorem carriedAtSwap_run (id : Nat) : (carriedAtSwap id s).run = s.run := rfl
@[simp] theorem carriedAtSwap_rig (id : Nat) : (carriedAtSwap id s).rig = s.rig := rfl
@[simp] theorem carriedAtSwap_monitors (id : Nat) : (carriedAtSwap id s).monitors = s.monitors := rfl
@[simp] theorem carriedAtSwap_faults (id : Nat) : (carriedAtSwap id s).faults = s.faults := rfl
@[simp] theorem carriedAtSwap_capture (id : Nat) : (carriedAtSwap id s).capture = s.capture := rfl
@[simp] theorem carriedAtSwap_summaries (id : Nat) : (carriedAtSwap id s).summaries = s.summaries := rfl
@[simp] theorem carriedAtSwap_config (id : Nat) : (carriedAtSwap id s).config = s.config := rfl
@[simp] theorem carriedAtSwap_permit (id : Nat) : (carriedAtSwap id s).permit = s.permit := rfl
@[simp] theorem carriedAtSwap_supervisor (id : Nat) : (carriedAtSwap id s).supervisor = s.supervisor := rfl
@[simp] theorem carriedAtSwap_link (id : Nat) : (carriedAtSwap id s).link = s.link := rfl
@[simp] theorem carriedAtSwap_events (id : Nat) : (carriedAtSwap id s).events = s.events := rfl
@[simp] theorem carriedAtSwap_freeTick (id : Nat) : (carriedAtSwap id s).freeTick = s.freeTick := rfl
@[simp] theorem carriedAtSwap_pending (id : Nat) : (carriedAtSwap id s).pending = s.pending := rfl

/-! `dropCarried` changes `sequencer` only. -/

@[simp] theorem dropCarried_life (id : Nat) (r : Bool) : (dropCarried id r s).life = s.life := rfl
@[simp] theorem dropCarried_resetN (id : Nat) (r : Bool) : (dropCarried id r s).resetN = s.resetN := rfl
@[simp] theorem dropCarried_cause (id : Nat) (r : Bool) : (dropCarried id r s).cause = s.cause := rfl
@[simp] theorem dropCarried_timebase (id : Nat) (r : Bool) : (dropCarried id r s).timebase = s.timebase := rfl
@[simp] theorem dropCarried_store (id : Nat) (r : Bool) : (dropCarried id r s).store = s.store := rfl
@[simp] theorem dropCarried_pool (id : Nat) (r : Bool) : (dropCarried id r s).pool = s.pool := rfl
@[simp] theorem dropCarried_arbiter (id : Nat) (r : Bool) : (dropCarried id r s).arbiter = s.arbiter := rfl
@[simp] theorem dropCarried_sweep (id : Nat) (r : Bool) : (dropCarried id r s).sweep = s.sweep := rfl
@[simp] theorem dropCarried_segments (id : Nat) (r : Bool) : (dropCarried id r s).segments = s.segments := rfl
@[simp] theorem dropCarried_verifier (id : Nat) (r : Bool) : (dropCarried id r s).verifier = s.verifier := rfl
@[simp] theorem dropCarried_schedule (id : Nat) (r : Bool) : (dropCarried id r s).schedule = s.schedule := rfl
@[simp] theorem dropCarried_pipeline (id : Nat) (r : Bool) : (dropCarried id r s).pipeline = s.pipeline := rfl
@[simp] theorem dropCarried_run (id : Nat) (r : Bool) : (dropCarried id r s).run = s.run := rfl
@[simp] theorem dropCarried_rig (id : Nat) (r : Bool) : (dropCarried id r s).rig = s.rig := rfl
@[simp] theorem dropCarried_monitors (id : Nat) (r : Bool) : (dropCarried id r s).monitors = s.monitors := rfl
@[simp] theorem dropCarried_faults (id : Nat) (r : Bool) : (dropCarried id r s).faults = s.faults := rfl
@[simp] theorem dropCarried_capture (id : Nat) (r : Bool) : (dropCarried id r s).capture = s.capture := rfl
@[simp] theorem dropCarried_summaries (id : Nat) (r : Bool) : (dropCarried id r s).summaries = s.summaries := rfl
@[simp] theorem dropCarried_config (id : Nat) (r : Bool) : (dropCarried id r s).config = s.config := rfl
@[simp] theorem dropCarried_permit (id : Nat) (r : Bool) : (dropCarried id r s).permit = s.permit := rfl
@[simp] theorem dropCarried_supervisor (id : Nat) (r : Bool) : (dropCarried id r s).supervisor = s.supervisor := rfl
@[simp] theorem dropCarried_link (id : Nat) (r : Bool) : (dropCarried id r s).link = s.link := rfl
@[simp] theorem dropCarried_events (id : Nat) (r : Bool) : (dropCarried id r s).events = s.events := rfl
@[simp] theorem dropCarried_freeTick (id : Nat) (r : Bool) : (dropCarried id r s).freeTick = s.freeTick := rfl
@[simp] theorem dropCarried_pending (id : Nat) (r : Bool) : (dropCarried id r s).pending = s.pending := rfl

/-! `setSlot` changes `capture` only. -/

@[simp] theorem setSlot_life (i : Nat) (r : Option CaptureRecord) : (setSlot i r s).life = s.life := rfl
@[simp] theorem setSlot_resetN (i : Nat) (r : Option CaptureRecord) : (setSlot i r s).resetN = s.resetN := rfl
@[simp] theorem setSlot_cause (i : Nat) (r : Option CaptureRecord) : (setSlot i r s).cause = s.cause := rfl
@[simp] theorem setSlot_timebase (i : Nat) (r : Option CaptureRecord) : (setSlot i r s).timebase = s.timebase := rfl
@[simp] theorem setSlot_store (i : Nat) (r : Option CaptureRecord) : (setSlot i r s).store = s.store := rfl
@[simp] theorem setSlot_pool (i : Nat) (r : Option CaptureRecord) : (setSlot i r s).pool = s.pool := rfl
@[simp] theorem setSlot_arbiter (i : Nat) (r : Option CaptureRecord) : (setSlot i r s).arbiter = s.arbiter := rfl
@[simp] theorem setSlot_sweep (i : Nat) (r : Option CaptureRecord) : (setSlot i r s).sweep = s.sweep := rfl
@[simp] theorem setSlot_segments (i : Nat) (r : Option CaptureRecord) : (setSlot i r s).segments = s.segments := rfl
@[simp] theorem setSlot_verifier (i : Nat) (r : Option CaptureRecord) : (setSlot i r s).verifier = s.verifier := rfl
@[simp] theorem setSlot_schedule (i : Nat) (r : Option CaptureRecord) : (setSlot i r s).schedule = s.schedule := rfl
@[simp] theorem setSlot_sequencer (i : Nat) (r : Option CaptureRecord) : (setSlot i r s).sequencer = s.sequencer := rfl
@[simp] theorem setSlot_pipeline (i : Nat) (r : Option CaptureRecord) : (setSlot i r s).pipeline = s.pipeline := rfl
@[simp] theorem setSlot_run (i : Nat) (r : Option CaptureRecord) : (setSlot i r s).run = s.run := rfl
@[simp] theorem setSlot_rig (i : Nat) (r : Option CaptureRecord) : (setSlot i r s).rig = s.rig := rfl
@[simp] theorem setSlot_monitors (i : Nat) (r : Option CaptureRecord) : (setSlot i r s).monitors = s.monitors := rfl
@[simp] theorem setSlot_faults (i : Nat) (r : Option CaptureRecord) : (setSlot i r s).faults = s.faults := rfl
@[simp] theorem setSlot_summaries (i : Nat) (r : Option CaptureRecord) : (setSlot i r s).summaries = s.summaries := rfl
@[simp] theorem setSlot_config (i : Nat) (r : Option CaptureRecord) : (setSlot i r s).config = s.config := rfl
@[simp] theorem setSlot_permit (i : Nat) (r : Option CaptureRecord) : (setSlot i r s).permit = s.permit := rfl
@[simp] theorem setSlot_supervisor (i : Nat) (r : Option CaptureRecord) : (setSlot i r s).supervisor = s.supervisor := rfl
@[simp] theorem setSlot_link (i : Nat) (r : Option CaptureRecord) : (setSlot i r s).link = s.link := rfl
@[simp] theorem setSlot_events (i : Nat) (r : Option CaptureRecord) : (setSlot i r s).events = s.events := rfl
@[simp] theorem setSlot_freeTick (i : Nat) (r : Option CaptureRecord) : (setSlot i r s).freeTick = s.freeTick := rfl
@[simp] theorem setSlot_pending (i : Nat) (r : Option CaptureRecord) : (setSlot i r s).pending = s.pending := rfl

/-! `setEntry` changes `faults` only. -/

@[simp] theorem setEntry_life (k : Nat) (e : FaultEntry) : (setEntry k e s).life = s.life := rfl
@[simp] theorem setEntry_resetN (k : Nat) (e : FaultEntry) : (setEntry k e s).resetN = s.resetN := rfl
@[simp] theorem setEntry_cause (k : Nat) (e : FaultEntry) : (setEntry k e s).cause = s.cause := rfl
@[simp] theorem setEntry_timebase (k : Nat) (e : FaultEntry) : (setEntry k e s).timebase = s.timebase := rfl
@[simp] theorem setEntry_store (k : Nat) (e : FaultEntry) : (setEntry k e s).store = s.store := rfl
@[simp] theorem setEntry_pool (k : Nat) (e : FaultEntry) : (setEntry k e s).pool = s.pool := rfl
@[simp] theorem setEntry_arbiter (k : Nat) (e : FaultEntry) : (setEntry k e s).arbiter = s.arbiter := rfl
@[simp] theorem setEntry_sweep (k : Nat) (e : FaultEntry) : (setEntry k e s).sweep = s.sweep := rfl
@[simp] theorem setEntry_segments (k : Nat) (e : FaultEntry) : (setEntry k e s).segments = s.segments := rfl
@[simp] theorem setEntry_verifier (k : Nat) (e : FaultEntry) : (setEntry k e s).verifier = s.verifier := rfl
@[simp] theorem setEntry_schedule (k : Nat) (e : FaultEntry) : (setEntry k e s).schedule = s.schedule := rfl
@[simp] theorem setEntry_sequencer (k : Nat) (e : FaultEntry) : (setEntry k e s).sequencer = s.sequencer := rfl
@[simp] theorem setEntry_pipeline (k : Nat) (e : FaultEntry) : (setEntry k e s).pipeline = s.pipeline := rfl
@[simp] theorem setEntry_run (k : Nat) (e : FaultEntry) : (setEntry k e s).run = s.run := rfl
@[simp] theorem setEntry_rig (k : Nat) (e : FaultEntry) : (setEntry k e s).rig = s.rig := rfl
@[simp] theorem setEntry_monitors (k : Nat) (e : FaultEntry) : (setEntry k e s).monitors = s.monitors := rfl
@[simp] theorem setEntry_capture (k : Nat) (e : FaultEntry) : (setEntry k e s).capture = s.capture := rfl
@[simp] theorem setEntry_summaries (k : Nat) (e : FaultEntry) : (setEntry k e s).summaries = s.summaries := rfl
@[simp] theorem setEntry_config (k : Nat) (e : FaultEntry) : (setEntry k e s).config = s.config := rfl
@[simp] theorem setEntry_permit (k : Nat) (e : FaultEntry) : (setEntry k e s).permit = s.permit := rfl
@[simp] theorem setEntry_supervisor (k : Nat) (e : FaultEntry) : (setEntry k e s).supervisor = s.supervisor := rfl
@[simp] theorem setEntry_link (k : Nat) (e : FaultEntry) : (setEntry k e s).link = s.link := rfl
@[simp] theorem setEntry_events (k : Nat) (e : FaultEntry) : (setEntry k e s).events = s.events := rfl
@[simp] theorem setEntry_freeTick (k : Nat) (e : FaultEntry) : (setEntry k e s).freeTick = s.freeTick := rfl
@[simp] theorem setEntry_pending (k : Nat) (e : FaultEntry) : (setEntry k e s).pending = s.pending := rfl

/-! `setFaultLine` changes `faults` only. -/

@[simp] theorem setFaultLine_life : (setFaultLine s).life = s.life := rfl
@[simp] theorem setFaultLine_resetN : (setFaultLine s).resetN = s.resetN := rfl
@[simp] theorem setFaultLine_cause : (setFaultLine s).cause = s.cause := rfl
@[simp] theorem setFaultLine_timebase : (setFaultLine s).timebase = s.timebase := rfl
@[simp] theorem setFaultLine_store : (setFaultLine s).store = s.store := rfl
@[simp] theorem setFaultLine_pool : (setFaultLine s).pool = s.pool := rfl
@[simp] theorem setFaultLine_arbiter : (setFaultLine s).arbiter = s.arbiter := rfl
@[simp] theorem setFaultLine_sweep : (setFaultLine s).sweep = s.sweep := rfl
@[simp] theorem setFaultLine_segments : (setFaultLine s).segments = s.segments := rfl
@[simp] theorem setFaultLine_verifier : (setFaultLine s).verifier = s.verifier := rfl
@[simp] theorem setFaultLine_schedule : (setFaultLine s).schedule = s.schedule := rfl
@[simp] theorem setFaultLine_sequencer : (setFaultLine s).sequencer = s.sequencer := rfl
@[simp] theorem setFaultLine_pipeline : (setFaultLine s).pipeline = s.pipeline := rfl
@[simp] theorem setFaultLine_run : (setFaultLine s).run = s.run := rfl
@[simp] theorem setFaultLine_rig : (setFaultLine s).rig = s.rig := rfl
@[simp] theorem setFaultLine_monitors : (setFaultLine s).monitors = s.monitors := rfl
@[simp] theorem setFaultLine_capture : (setFaultLine s).capture = s.capture := rfl
@[simp] theorem setFaultLine_summaries : (setFaultLine s).summaries = s.summaries := rfl
@[simp] theorem setFaultLine_config : (setFaultLine s).config = s.config := rfl
@[simp] theorem setFaultLine_permit : (setFaultLine s).permit = s.permit := rfl
@[simp] theorem setFaultLine_supervisor : (setFaultLine s).supervisor = s.supervisor := rfl
@[simp] theorem setFaultLine_link : (setFaultLine s).link = s.link := rfl
@[simp] theorem setFaultLine_events : (setFaultLine s).events = s.events := rfl
@[simp] theorem setFaultLine_freeTick : (setFaultLine s).freeTick = s.freeTick := rfl
@[simp] theorem setFaultLine_pending : (setFaultLine s).pending = s.pending := rfl

/-! `setAction` changes `faults` only. -/

@[simp] theorem setAction_life : (setAction s).life = s.life := rfl
@[simp] theorem setAction_resetN : (setAction s).resetN = s.resetN := rfl
@[simp] theorem setAction_cause : (setAction s).cause = s.cause := rfl
@[simp] theorem setAction_timebase : (setAction s).timebase = s.timebase := rfl
@[simp] theorem setAction_store : (setAction s).store = s.store := rfl
@[simp] theorem setAction_pool : (setAction s).pool = s.pool := rfl
@[simp] theorem setAction_arbiter : (setAction s).arbiter = s.arbiter := rfl
@[simp] theorem setAction_sweep : (setAction s).sweep = s.sweep := rfl
@[simp] theorem setAction_segments : (setAction s).segments = s.segments := rfl
@[simp] theorem setAction_verifier : (setAction s).verifier = s.verifier := rfl
@[simp] theorem setAction_schedule : (setAction s).schedule = s.schedule := rfl
@[simp] theorem setAction_sequencer : (setAction s).sequencer = s.sequencer := rfl
@[simp] theorem setAction_pipeline : (setAction s).pipeline = s.pipeline := rfl
@[simp] theorem setAction_run : (setAction s).run = s.run := rfl
@[simp] theorem setAction_rig : (setAction s).rig = s.rig := rfl
@[simp] theorem setAction_monitors : (setAction s).monitors = s.monitors := rfl
@[simp] theorem setAction_capture : (setAction s).capture = s.capture := rfl
@[simp] theorem setAction_summaries : (setAction s).summaries = s.summaries := rfl
@[simp] theorem setAction_config : (setAction s).config = s.config := rfl
@[simp] theorem setAction_permit : (setAction s).permit = s.permit := rfl
@[simp] theorem setAction_supervisor : (setAction s).supervisor = s.supervisor := rfl
@[simp] theorem setAction_link : (setAction s).link = s.link := rfl
@[simp] theorem setAction_events : (setAction s).events = s.events := rfl
@[simp] theorem setAction_freeTick : (setAction s).freeTick = s.freeTick := rfl
@[simp] theorem setAction_pending : (setAction s).pending = s.pending := rfl

/-! `enterPaused` changes `run`, `sequencer` only. -/

@[simp] theorem enterPaused_life : (enterPaused s).life = s.life := rfl
@[simp] theorem enterPaused_resetN : (enterPaused s).resetN = s.resetN := rfl
@[simp] theorem enterPaused_cause : (enterPaused s).cause = s.cause := rfl
@[simp] theorem enterPaused_timebase : (enterPaused s).timebase = s.timebase := rfl
@[simp] theorem enterPaused_store : (enterPaused s).store = s.store := rfl
@[simp] theorem enterPaused_pool : (enterPaused s).pool = s.pool := rfl
@[simp] theorem enterPaused_arbiter : (enterPaused s).arbiter = s.arbiter := rfl
@[simp] theorem enterPaused_sweep : (enterPaused s).sweep = s.sweep := rfl
@[simp] theorem enterPaused_segments : (enterPaused s).segments = s.segments := rfl
@[simp] theorem enterPaused_verifier : (enterPaused s).verifier = s.verifier := rfl
@[simp] theorem enterPaused_schedule : (enterPaused s).schedule = s.schedule := rfl
@[simp] theorem enterPaused_pipeline : (enterPaused s).pipeline = s.pipeline := rfl
@[simp] theorem enterPaused_rig : (enterPaused s).rig = s.rig := rfl
@[simp] theorem enterPaused_monitors : (enterPaused s).monitors = s.monitors := rfl
@[simp] theorem enterPaused_faults : (enterPaused s).faults = s.faults := rfl
@[simp] theorem enterPaused_capture : (enterPaused s).capture = s.capture := rfl
@[simp] theorem enterPaused_summaries : (enterPaused s).summaries = s.summaries := rfl
@[simp] theorem enterPaused_config : (enterPaused s).config = s.config := rfl
@[simp] theorem enterPaused_permit : (enterPaused s).permit = s.permit := rfl
@[simp] theorem enterPaused_supervisor : (enterPaused s).supervisor = s.supervisor := rfl
@[simp] theorem enterPaused_link : (enterPaused s).link = s.link := rfl
@[simp] theorem enterPaused_events : (enterPaused s).events = s.events := rfl
@[simp] theorem enterPaused_freeTick : (enterPaused s).freeTick = s.freeTick := rfl
@[simp] theorem enterPaused_pending : (enterPaused s).pending = s.pending := rfl

/-! `leaveSet` changes `run` only. -/

@[simp] theorem leaveSet_life (k : Nat) : (leaveSet k s).life = s.life := rfl
@[simp] theorem leaveSet_resetN (k : Nat) : (leaveSet k s).resetN = s.resetN := rfl
@[simp] theorem leaveSet_cause (k : Nat) : (leaveSet k s).cause = s.cause := rfl
@[simp] theorem leaveSet_timebase (k : Nat) : (leaveSet k s).timebase = s.timebase := rfl
@[simp] theorem leaveSet_store (k : Nat) : (leaveSet k s).store = s.store := rfl
@[simp] theorem leaveSet_pool (k : Nat) : (leaveSet k s).pool = s.pool := rfl
@[simp] theorem leaveSet_arbiter (k : Nat) : (leaveSet k s).arbiter = s.arbiter := rfl
@[simp] theorem leaveSet_sweep (k : Nat) : (leaveSet k s).sweep = s.sweep := rfl
@[simp] theorem leaveSet_segments (k : Nat) : (leaveSet k s).segments = s.segments := rfl
@[simp] theorem leaveSet_verifier (k : Nat) : (leaveSet k s).verifier = s.verifier := rfl
@[simp] theorem leaveSet_schedule (k : Nat) : (leaveSet k s).schedule = s.schedule := rfl
@[simp] theorem leaveSet_sequencer (k : Nat) : (leaveSet k s).sequencer = s.sequencer := rfl
@[simp] theorem leaveSet_pipeline (k : Nat) : (leaveSet k s).pipeline = s.pipeline := rfl
@[simp] theorem leaveSet_rig (k : Nat) : (leaveSet k s).rig = s.rig := rfl
@[simp] theorem leaveSet_monitors (k : Nat) : (leaveSet k s).monitors = s.monitors := rfl
@[simp] theorem leaveSet_faults (k : Nat) : (leaveSet k s).faults = s.faults := rfl
@[simp] theorem leaveSet_capture (k : Nat) : (leaveSet k s).capture = s.capture := rfl
@[simp] theorem leaveSet_summaries (k : Nat) : (leaveSet k s).summaries = s.summaries := rfl
@[simp] theorem leaveSet_config (k : Nat) : (leaveSet k s).config = s.config := rfl
@[simp] theorem leaveSet_permit (k : Nat) : (leaveSet k s).permit = s.permit := rfl
@[simp] theorem leaveSet_supervisor (k : Nat) : (leaveSet k s).supervisor = s.supervisor := rfl
@[simp] theorem leaveSet_link (k : Nat) : (leaveSet k s).link = s.link := rfl
@[simp] theorem leaveSet_events (k : Nat) : (leaveSet k s).events = s.events := rfl
@[simp] theorem leaveSet_freeTick (k : Nat) : (leaveSet k s).freeTick = s.freeTick := rfl
@[simp] theorem leaveSet_pending (k : Nat) : (leaveSet k s).pending = s.pending := rfl

/-! `zeroMonitors` changes `monitors` only. -/

@[simp] theorem zeroMonitors_life : (zeroMonitors s).life = s.life := rfl
@[simp] theorem zeroMonitors_resetN : (zeroMonitors s).resetN = s.resetN := rfl
@[simp] theorem zeroMonitors_cause : (zeroMonitors s).cause = s.cause := rfl
@[simp] theorem zeroMonitors_timebase : (zeroMonitors s).timebase = s.timebase := rfl
@[simp] theorem zeroMonitors_store : (zeroMonitors s).store = s.store := rfl
@[simp] theorem zeroMonitors_pool : (zeroMonitors s).pool = s.pool := rfl
@[simp] theorem zeroMonitors_arbiter : (zeroMonitors s).arbiter = s.arbiter := rfl
@[simp] theorem zeroMonitors_sweep : (zeroMonitors s).sweep = s.sweep := rfl
@[simp] theorem zeroMonitors_segments : (zeroMonitors s).segments = s.segments := rfl
@[simp] theorem zeroMonitors_verifier : (zeroMonitors s).verifier = s.verifier := rfl
@[simp] theorem zeroMonitors_schedule : (zeroMonitors s).schedule = s.schedule := rfl
@[simp] theorem zeroMonitors_sequencer : (zeroMonitors s).sequencer = s.sequencer := rfl
@[simp] theorem zeroMonitors_pipeline : (zeroMonitors s).pipeline = s.pipeline := rfl
@[simp] theorem zeroMonitors_run : (zeroMonitors s).run = s.run := rfl
@[simp] theorem zeroMonitors_rig : (zeroMonitors s).rig = s.rig := rfl
@[simp] theorem zeroMonitors_faults : (zeroMonitors s).faults = s.faults := rfl
@[simp] theorem zeroMonitors_capture : (zeroMonitors s).capture = s.capture := rfl
@[simp] theorem zeroMonitors_summaries : (zeroMonitors s).summaries = s.summaries := rfl
@[simp] theorem zeroMonitors_config : (zeroMonitors s).config = s.config := rfl
@[simp] theorem zeroMonitors_permit : (zeroMonitors s).permit = s.permit := rfl
@[simp] theorem zeroMonitors_supervisor : (zeroMonitors s).supervisor = s.supervisor := rfl
@[simp] theorem zeroMonitors_link : (zeroMonitors s).link = s.link := rfl
@[simp] theorem zeroMonitors_events : (zeroMonitors s).events = s.events := rfl
@[simp] theorem zeroMonitors_freeTick : (zeroMonitors s).freeTick = s.freeTick := rfl
@[simp] theorem zeroMonitors_pending : (zeroMonitors s).pending = s.pending := rfl

/-! `zeroCounts` changes `pipeline` only. -/

@[simp] theorem zeroCounts_life : (zeroCounts s).life = s.life := rfl
@[simp] theorem zeroCounts_resetN : (zeroCounts s).resetN = s.resetN := rfl
@[simp] theorem zeroCounts_cause : (zeroCounts s).cause = s.cause := rfl
@[simp] theorem zeroCounts_timebase : (zeroCounts s).timebase = s.timebase := rfl
@[simp] theorem zeroCounts_store : (zeroCounts s).store = s.store := rfl
@[simp] theorem zeroCounts_pool : (zeroCounts s).pool = s.pool := rfl
@[simp] theorem zeroCounts_arbiter : (zeroCounts s).arbiter = s.arbiter := rfl
@[simp] theorem zeroCounts_sweep : (zeroCounts s).sweep = s.sweep := rfl
@[simp] theorem zeroCounts_segments : (zeroCounts s).segments = s.segments := rfl
@[simp] theorem zeroCounts_verifier : (zeroCounts s).verifier = s.verifier := rfl
@[simp] theorem zeroCounts_schedule : (zeroCounts s).schedule = s.schedule := rfl
@[simp] theorem zeroCounts_sequencer : (zeroCounts s).sequencer = s.sequencer := rfl
@[simp] theorem zeroCounts_run : (zeroCounts s).run = s.run := rfl
@[simp] theorem zeroCounts_rig : (zeroCounts s).rig = s.rig := rfl
@[simp] theorem zeroCounts_monitors : (zeroCounts s).monitors = s.monitors := rfl
@[simp] theorem zeroCounts_faults : (zeroCounts s).faults = s.faults := rfl
@[simp] theorem zeroCounts_capture : (zeroCounts s).capture = s.capture := rfl
@[simp] theorem zeroCounts_summaries : (zeroCounts s).summaries = s.summaries := rfl
@[simp] theorem zeroCounts_config : (zeroCounts s).config = s.config := rfl
@[simp] theorem zeroCounts_permit : (zeroCounts s).permit = s.permit := rfl
@[simp] theorem zeroCounts_supervisor : (zeroCounts s).supervisor = s.supervisor := rfl
@[simp] theorem zeroCounts_link : (zeroCounts s).link = s.link := rfl
@[simp] theorem zeroCounts_events : (zeroCounts s).events = s.events := rfl
@[simp] theorem zeroCounts_freeTick : (zeroCounts s).freeTick = s.freeTick := rfl
@[simp] theorem zeroCounts_pending : (zeroCounts s).pending = s.pending := rfl

/-! `pressureFall` changes `run`, `monitors` only. -/

@[simp] theorem pressureFall_life : (pressureFall s).life = s.life := rfl
@[simp] theorem pressureFall_resetN : (pressureFall s).resetN = s.resetN := rfl
@[simp] theorem pressureFall_cause : (pressureFall s).cause = s.cause := rfl
@[simp] theorem pressureFall_timebase : (pressureFall s).timebase = s.timebase := rfl
@[simp] theorem pressureFall_store : (pressureFall s).store = s.store := rfl
@[simp] theorem pressureFall_pool : (pressureFall s).pool = s.pool := rfl
@[simp] theorem pressureFall_arbiter : (pressureFall s).arbiter = s.arbiter := rfl
@[simp] theorem pressureFall_sweep : (pressureFall s).sweep = s.sweep := rfl
@[simp] theorem pressureFall_segments : (pressureFall s).segments = s.segments := rfl
@[simp] theorem pressureFall_verifier : (pressureFall s).verifier = s.verifier := rfl
@[simp] theorem pressureFall_schedule : (pressureFall s).schedule = s.schedule := rfl
@[simp] theorem pressureFall_sequencer : (pressureFall s).sequencer = s.sequencer := rfl
@[simp] theorem pressureFall_pipeline : (pressureFall s).pipeline = s.pipeline := rfl
@[simp] theorem pressureFall_rig : (pressureFall s).rig = s.rig := rfl
@[simp] theorem pressureFall_faults : (pressureFall s).faults = s.faults := rfl
@[simp] theorem pressureFall_capture : (pressureFall s).capture = s.capture := rfl
@[simp] theorem pressureFall_summaries : (pressureFall s).summaries = s.summaries := rfl
@[simp] theorem pressureFall_config : (pressureFall s).config = s.config := rfl
@[simp] theorem pressureFall_permit : (pressureFall s).permit = s.permit := rfl
@[simp] theorem pressureFall_supervisor : (pressureFall s).supervisor = s.supervisor := rfl
@[simp] theorem pressureFall_link : (pressureFall s).link = s.link := rfl
@[simp] theorem pressureFall_events : (pressureFall s).events = s.events := rfl
@[simp] theorem pressureFall_freeTick : (pressureFall s).freeTick = s.freeTick := rfl
@[simp] theorem pressureFall_pending : (pressureFall s).pending = s.pending := rfl

/-! `sequencerIdle` changes `sequencer` only. -/

@[simp] theorem sequencerIdle_life : (sequencerIdle s).life = s.life := rfl
@[simp] theorem sequencerIdle_resetN : (sequencerIdle s).resetN = s.resetN := rfl
@[simp] theorem sequencerIdle_cause : (sequencerIdle s).cause = s.cause := rfl
@[simp] theorem sequencerIdle_timebase : (sequencerIdle s).timebase = s.timebase := rfl
@[simp] theorem sequencerIdle_store : (sequencerIdle s).store = s.store := rfl
@[simp] theorem sequencerIdle_pool : (sequencerIdle s).pool = s.pool := rfl
@[simp] theorem sequencerIdle_arbiter : (sequencerIdle s).arbiter = s.arbiter := rfl
@[simp] theorem sequencerIdle_sweep : (sequencerIdle s).sweep = s.sweep := rfl
@[simp] theorem sequencerIdle_segments : (sequencerIdle s).segments = s.segments := rfl
@[simp] theorem sequencerIdle_verifier : (sequencerIdle s).verifier = s.verifier := rfl
@[simp] theorem sequencerIdle_schedule : (sequencerIdle s).schedule = s.schedule := rfl
@[simp] theorem sequencerIdle_pipeline : (sequencerIdle s).pipeline = s.pipeline := rfl
@[simp] theorem sequencerIdle_run : (sequencerIdle s).run = s.run := rfl
@[simp] theorem sequencerIdle_rig : (sequencerIdle s).rig = s.rig := rfl
@[simp] theorem sequencerIdle_monitors : (sequencerIdle s).monitors = s.monitors := rfl
@[simp] theorem sequencerIdle_faults : (sequencerIdle s).faults = s.faults := rfl
@[simp] theorem sequencerIdle_capture : (sequencerIdle s).capture = s.capture := rfl
@[simp] theorem sequencerIdle_summaries : (sequencerIdle s).summaries = s.summaries := rfl
@[simp] theorem sequencerIdle_config : (sequencerIdle s).config = s.config := rfl
@[simp] theorem sequencerIdle_permit : (sequencerIdle s).permit = s.permit := rfl
@[simp] theorem sequencerIdle_supervisor : (sequencerIdle s).supervisor = s.supervisor := rfl
@[simp] theorem sequencerIdle_link : (sequencerIdle s).link = s.link := rfl
@[simp] theorem sequencerIdle_events : (sequencerIdle s).events = s.events := rfl
@[simp] theorem sequencerIdle_freeTick : (sequencerIdle s).freeTick = s.freeTick := rfl
@[simp] theorem sequencerIdle_pending : (sequencerIdle s).pending = s.pending := rfl

/-! `freezePipeline` changes `pipeline` only. -/

@[simp] theorem freezePipeline_life : (freezePipeline s).life = s.life := rfl
@[simp] theorem freezePipeline_resetN : (freezePipeline s).resetN = s.resetN := rfl
@[simp] theorem freezePipeline_cause : (freezePipeline s).cause = s.cause := rfl
@[simp] theorem freezePipeline_timebase : (freezePipeline s).timebase = s.timebase := rfl
@[simp] theorem freezePipeline_store : (freezePipeline s).store = s.store := rfl
@[simp] theorem freezePipeline_pool : (freezePipeline s).pool = s.pool := rfl
@[simp] theorem freezePipeline_arbiter : (freezePipeline s).arbiter = s.arbiter := rfl
@[simp] theorem freezePipeline_sweep : (freezePipeline s).sweep = s.sweep := rfl
@[simp] theorem freezePipeline_segments : (freezePipeline s).segments = s.segments := rfl
@[simp] theorem freezePipeline_verifier : (freezePipeline s).verifier = s.verifier := rfl
@[simp] theorem freezePipeline_schedule : (freezePipeline s).schedule = s.schedule := rfl
@[simp] theorem freezePipeline_sequencer : (freezePipeline s).sequencer = s.sequencer := rfl
@[simp] theorem freezePipeline_run : (freezePipeline s).run = s.run := rfl
@[simp] theorem freezePipeline_rig : (freezePipeline s).rig = s.rig := rfl
@[simp] theorem freezePipeline_monitors : (freezePipeline s).monitors = s.monitors := rfl
@[simp] theorem freezePipeline_faults : (freezePipeline s).faults = s.faults := rfl
@[simp] theorem freezePipeline_capture : (freezePipeline s).capture = s.capture := rfl
@[simp] theorem freezePipeline_summaries : (freezePipeline s).summaries = s.summaries := rfl
@[simp] theorem freezePipeline_config : (freezePipeline s).config = s.config := rfl
@[simp] theorem freezePipeline_permit : (freezePipeline s).permit = s.permit := rfl
@[simp] theorem freezePipeline_supervisor : (freezePipeline s).supervisor = s.supervisor := rfl
@[simp] theorem freezePipeline_link : (freezePipeline s).link = s.link := rfl
@[simp] theorem freezePipeline_events : (freezePipeline s).events = s.events := rfl
@[simp] theorem freezePipeline_freeTick : (freezePipeline s).freeTick = s.freeTick := rfl
@[simp] theorem freezePipeline_pending : (freezePipeline s).pending = s.pending := rfl

/-! `beginStopTaper` changes `pipeline` only. -/

@[simp] theorem beginStopTaper_life : (beginStopTaper s).life = s.life := rfl
@[simp] theorem beginStopTaper_resetN : (beginStopTaper s).resetN = s.resetN := rfl
@[simp] theorem beginStopTaper_cause : (beginStopTaper s).cause = s.cause := rfl
@[simp] theorem beginStopTaper_timebase : (beginStopTaper s).timebase = s.timebase := rfl
@[simp] theorem beginStopTaper_store : (beginStopTaper s).store = s.store := rfl
@[simp] theorem beginStopTaper_pool : (beginStopTaper s).pool = s.pool := rfl
@[simp] theorem beginStopTaper_arbiter : (beginStopTaper s).arbiter = s.arbiter := rfl
@[simp] theorem beginStopTaper_sweep : (beginStopTaper s).sweep = s.sweep := rfl
@[simp] theorem beginStopTaper_segments : (beginStopTaper s).segments = s.segments := rfl
@[simp] theorem beginStopTaper_verifier : (beginStopTaper s).verifier = s.verifier := rfl
@[simp] theorem beginStopTaper_schedule : (beginStopTaper s).schedule = s.schedule := rfl
@[simp] theorem beginStopTaper_sequencer : (beginStopTaper s).sequencer = s.sequencer := rfl
@[simp] theorem beginStopTaper_run : (beginStopTaper s).run = s.run := rfl
@[simp] theorem beginStopTaper_rig : (beginStopTaper s).rig = s.rig := rfl
@[simp] theorem beginStopTaper_monitors : (beginStopTaper s).monitors = s.monitors := rfl
@[simp] theorem beginStopTaper_faults : (beginStopTaper s).faults = s.faults := rfl
@[simp] theorem beginStopTaper_capture : (beginStopTaper s).capture = s.capture := rfl
@[simp] theorem beginStopTaper_summaries : (beginStopTaper s).summaries = s.summaries := rfl
@[simp] theorem beginStopTaper_config : (beginStopTaper s).config = s.config := rfl
@[simp] theorem beginStopTaper_permit : (beginStopTaper s).permit = s.permit := rfl
@[simp] theorem beginStopTaper_supervisor : (beginStopTaper s).supervisor = s.supervisor := rfl
@[simp] theorem beginStopTaper_link : (beginStopTaper s).link = s.link := rfl
@[simp] theorem beginStopTaper_events : (beginStopTaper s).events = s.events := rfl
@[simp] theorem beginStopTaper_freeTick : (beginStopTaper s).freeTick = s.freeTick := rfl
@[simp] theorem beginStopTaper_pending : (beginStopTaper s).pending = s.pending := rfl

/-! `enterEntry` changes `sequencer` only. -/

@[simp] theorem enterEntry_life (i : Nat) : (enterEntry i s).life = s.life := rfl
@[simp] theorem enterEntry_resetN (i : Nat) : (enterEntry i s).resetN = s.resetN := rfl
@[simp] theorem enterEntry_cause (i : Nat) : (enterEntry i s).cause = s.cause := rfl
@[simp] theorem enterEntry_timebase (i : Nat) : (enterEntry i s).timebase = s.timebase := rfl
@[simp] theorem enterEntry_store (i : Nat) : (enterEntry i s).store = s.store := rfl
@[simp] theorem enterEntry_pool (i : Nat) : (enterEntry i s).pool = s.pool := rfl
@[simp] theorem enterEntry_arbiter (i : Nat) : (enterEntry i s).arbiter = s.arbiter := rfl
@[simp] theorem enterEntry_sweep (i : Nat) : (enterEntry i s).sweep = s.sweep := rfl
@[simp] theorem enterEntry_segments (i : Nat) : (enterEntry i s).segments = s.segments := rfl
@[simp] theorem enterEntry_verifier (i : Nat) : (enterEntry i s).verifier = s.verifier := rfl
@[simp] theorem enterEntry_schedule (i : Nat) : (enterEntry i s).schedule = s.schedule := rfl
@[simp] theorem enterEntry_pipeline (i : Nat) : (enterEntry i s).pipeline = s.pipeline := rfl
@[simp] theorem enterEntry_run (i : Nat) : (enterEntry i s).run = s.run := rfl
@[simp] theorem enterEntry_rig (i : Nat) : (enterEntry i s).rig = s.rig := rfl
@[simp] theorem enterEntry_monitors (i : Nat) : (enterEntry i s).monitors = s.monitors := rfl
@[simp] theorem enterEntry_faults (i : Nat) : (enterEntry i s).faults = s.faults := rfl
@[simp] theorem enterEntry_capture (i : Nat) : (enterEntry i s).capture = s.capture := rfl
@[simp] theorem enterEntry_summaries (i : Nat) : (enterEntry i s).summaries = s.summaries := rfl
@[simp] theorem enterEntry_config (i : Nat) : (enterEntry i s).config = s.config := rfl
@[simp] theorem enterEntry_permit (i : Nat) : (enterEntry i s).permit = s.permit := rfl
@[simp] theorem enterEntry_supervisor (i : Nat) : (enterEntry i s).supervisor = s.supervisor := rfl
@[simp] theorem enterEntry_link (i : Nat) : (enterEntry i s).link = s.link := rfl
@[simp] theorem enterEntry_events (i : Nat) : (enterEntry i s).events = s.events := rfl
@[simp] theorem enterEntry_freeTick (i : Nat) : (enterEntry i s).freeTick = s.freeTick := rfl
@[simp] theorem enterEntry_pending (i : Nat) : (enterEntry i s).pending = s.pending := rfl

/-! `stand` changes `sequencer` only. -/

@[simp] theorem stand_life (p : Phase) (c : Nat) : (stand p c s).life = s.life := rfl
@[simp] theorem stand_resetN (p : Phase) (c : Nat) : (stand p c s).resetN = s.resetN := rfl
@[simp] theorem stand_cause (p : Phase) (c : Nat) : (stand p c s).cause = s.cause := rfl
@[simp] theorem stand_timebase (p : Phase) (c : Nat) : (stand p c s).timebase = s.timebase := rfl
@[simp] theorem stand_store (p : Phase) (c : Nat) : (stand p c s).store = s.store := rfl
@[simp] theorem stand_pool (p : Phase) (c : Nat) : (stand p c s).pool = s.pool := rfl
@[simp] theorem stand_arbiter (p : Phase) (c : Nat) : (stand p c s).arbiter = s.arbiter := rfl
@[simp] theorem stand_sweep (p : Phase) (c : Nat) : (stand p c s).sweep = s.sweep := rfl
@[simp] theorem stand_segments (p : Phase) (c : Nat) : (stand p c s).segments = s.segments := rfl
@[simp] theorem stand_verifier (p : Phase) (c : Nat) : (stand p c s).verifier = s.verifier := rfl
@[simp] theorem stand_schedule (p : Phase) (c : Nat) : (stand p c s).schedule = s.schedule := rfl
@[simp] theorem stand_pipeline (p : Phase) (c : Nat) : (stand p c s).pipeline = s.pipeline := rfl
@[simp] theorem stand_run (p : Phase) (c : Nat) : (stand p c s).run = s.run := rfl
@[simp] theorem stand_rig (p : Phase) (c : Nat) : (stand p c s).rig = s.rig := rfl
@[simp] theorem stand_monitors (p : Phase) (c : Nat) : (stand p c s).monitors = s.monitors := rfl
@[simp] theorem stand_faults (p : Phase) (c : Nat) : (stand p c s).faults = s.faults := rfl
@[simp] theorem stand_capture (p : Phase) (c : Nat) : (stand p c s).capture = s.capture := rfl
@[simp] theorem stand_summaries (p : Phase) (c : Nat) : (stand p c s).summaries = s.summaries := rfl
@[simp] theorem stand_config (p : Phase) (c : Nat) : (stand p c s).config = s.config := rfl
@[simp] theorem stand_permit (p : Phase) (c : Nat) : (stand p c s).permit = s.permit := rfl
@[simp] theorem stand_supervisor (p : Phase) (c : Nat) : (stand p c s).supervisor = s.supervisor := rfl
@[simp] theorem stand_link (p : Phase) (c : Nat) : (stand p c s).link = s.link := rfl
@[simp] theorem stand_events (p : Phase) (c : Nat) : (stand p c s).events = s.events := rfl
@[simp] theorem stand_freeTick (p : Phase) (c : Nat) : (stand p c s).freeTick = s.freeTick := rfl
@[simp] theorem stand_pending (p : Phase) (c : Nat) : (stand p c s).pending = s.pending := rfl

/-! `leaveEntry` changes `sequencer` only. -/

@[simp] theorem leaveEntry_life (p : Phase) : (leaveEntry p s).life = s.life := rfl
@[simp] theorem leaveEntry_resetN (p : Phase) : (leaveEntry p s).resetN = s.resetN := rfl
@[simp] theorem leaveEntry_cause (p : Phase) : (leaveEntry p s).cause = s.cause := rfl
@[simp] theorem leaveEntry_timebase (p : Phase) : (leaveEntry p s).timebase = s.timebase := rfl
@[simp] theorem leaveEntry_store (p : Phase) : (leaveEntry p s).store = s.store := rfl
@[simp] theorem leaveEntry_pool (p : Phase) : (leaveEntry p s).pool = s.pool := rfl
@[simp] theorem leaveEntry_arbiter (p : Phase) : (leaveEntry p s).arbiter = s.arbiter := rfl
@[simp] theorem leaveEntry_sweep (p : Phase) : (leaveEntry p s).sweep = s.sweep := rfl
@[simp] theorem leaveEntry_segments (p : Phase) : (leaveEntry p s).segments = s.segments := rfl
@[simp] theorem leaveEntry_verifier (p : Phase) : (leaveEntry p s).verifier = s.verifier := rfl
@[simp] theorem leaveEntry_schedule (p : Phase) : (leaveEntry p s).schedule = s.schedule := rfl
@[simp] theorem leaveEntry_pipeline (p : Phase) : (leaveEntry p s).pipeline = s.pipeline := rfl
@[simp] theorem leaveEntry_run (p : Phase) : (leaveEntry p s).run = s.run := rfl
@[simp] theorem leaveEntry_rig (p : Phase) : (leaveEntry p s).rig = s.rig := rfl
@[simp] theorem leaveEntry_monitors (p : Phase) : (leaveEntry p s).monitors = s.monitors := rfl
@[simp] theorem leaveEntry_faults (p : Phase) : (leaveEntry p s).faults = s.faults := rfl
@[simp] theorem leaveEntry_capture (p : Phase) : (leaveEntry p s).capture = s.capture := rfl
@[simp] theorem leaveEntry_summaries (p : Phase) : (leaveEntry p s).summaries = s.summaries := rfl
@[simp] theorem leaveEntry_config (p : Phase) : (leaveEntry p s).config = s.config := rfl
@[simp] theorem leaveEntry_permit (p : Phase) : (leaveEntry p s).permit = s.permit := rfl
@[simp] theorem leaveEntry_supervisor (p : Phase) : (leaveEntry p s).supervisor = s.supervisor := rfl
@[simp] theorem leaveEntry_link (p : Phase) : (leaveEntry p s).link = s.link := rfl
@[simp] theorem leaveEntry_events (p : Phase) : (leaveEntry p s).events = s.events := rfl
@[simp] theorem leaveEntry_freeTick (p : Phase) : (leaveEntry p s).freeTick = s.freeTick := rfl
@[simp] theorem leaveEntry_pending (p : Phase) : (leaveEntry p s).pending = s.pending := rfl

/-! `enterStopped` changes `run` only. -/

@[simp] theorem enterStopped_life : (enterStopped s).life = s.life := rfl
@[simp] theorem enterStopped_resetN : (enterStopped s).resetN = s.resetN := rfl
@[simp] theorem enterStopped_cause : (enterStopped s).cause = s.cause := rfl
@[simp] theorem enterStopped_timebase : (enterStopped s).timebase = s.timebase := rfl
@[simp] theorem enterStopped_store : (enterStopped s).store = s.store := rfl
@[simp] theorem enterStopped_pool : (enterStopped s).pool = s.pool := rfl
@[simp] theorem enterStopped_arbiter : (enterStopped s).arbiter = s.arbiter := rfl
@[simp] theorem enterStopped_sweep : (enterStopped s).sweep = s.sweep := rfl
@[simp] theorem enterStopped_segments : (enterStopped s).segments = s.segments := rfl
@[simp] theorem enterStopped_verifier : (enterStopped s).verifier = s.verifier := rfl
@[simp] theorem enterStopped_schedule : (enterStopped s).schedule = s.schedule := rfl
@[simp] theorem enterStopped_sequencer : (enterStopped s).sequencer = s.sequencer := rfl
@[simp] theorem enterStopped_pipeline : (enterStopped s).pipeline = s.pipeline := rfl
@[simp] theorem enterStopped_rig : (enterStopped s).rig = s.rig := rfl
@[simp] theorem enterStopped_monitors : (enterStopped s).monitors = s.monitors := rfl
@[simp] theorem enterStopped_faults : (enterStopped s).faults = s.faults := rfl
@[simp] theorem enterStopped_capture : (enterStopped s).capture = s.capture := rfl
@[simp] theorem enterStopped_summaries : (enterStopped s).summaries = s.summaries := rfl
@[simp] theorem enterStopped_config : (enterStopped s).config = s.config := rfl
@[simp] theorem enterStopped_permit : (enterStopped s).permit = s.permit := rfl
@[simp] theorem enterStopped_supervisor : (enterStopped s).supervisor = s.supervisor := rfl
@[simp] theorem enterStopped_link : (enterStopped s).link = s.link := rfl
@[simp] theorem enterStopped_events : (enterStopped s).events = s.events := rfl
@[simp] theorem enterStopped_freeTick : (enterStopped s).freeTick = s.freeTick := rfl
@[simp] theorem enterStopped_pending : (enterStopped s).pending = s.pending := rfl

end Sys2Proof.Machine
end

