-- ==== Sys2Proof/Laws/Tables.lean ====
section
/-! SUPPORT. What the table operations do: reading back an entry of a fixed table, of a rising list with a default,
and of an ascending list of numbers. -/

namespace Sys2Proof.Machine

variable {α β : Type}

/-! ## Fixed tables -/

theorem tget_eq_getElem [Inhabited α] {n : Nat} (v : Vector α n) {i : Nat} (h : i < n) : tget v i = v[i] := by
  simp [tget, h]

theorem tget_out [Inhabited α] {n : Nat} (v : Vector α n) {i : Nat} (h : n ≤ i) : tget v i = default := by
  simp [tget, h]

theorem tget_tset_same [Inhabited α] {n : Nat} (v : Vector α n) {i : Nat} (x : α) (h : i < n) :
    tget (tset v i x) i = x := by
  simp [tget, tset, Vector.toList, h]

theorem tget_tset_ne [Inhabited α] {n : Nat} (v : Vector α n) {i j : Nat} (x : α) (h : j ≠ i) :
    tget (tset v i x) j = tget v j := by
  simp [tget, tset, Vector.toList, List.getD_eq_getElem?_getD, List.getElem?_set_ne (Ne.symm h)]

theorem tget_tset [Inhabited α] {n : Nat} (v : Vector α n) (i j : Nat) (x : α) (h : i < n) :
    tget (tset v i x) j = if j = i then x else tget v j := by
  split
  · next e => subst e; exact tget_tset_same v x h
  · next e => exact tget_tset_ne v x e

@[simp] theorem tget_tmk [Inhabited α] {n : Nat} (f : Nat → α) {i : Nat} (h : i < n) : tget (tmk n f) i = f i := by
  simp [tget, tmk, Vector.toList, h]

@[simp] theorem tget_tmap [Inhabited α] [Inhabited β] {n : Nat} (f : Nat → α → β) (v : Vector α n) {i : Nat}
    (h : i < n) : tget (tmap f v) i = f i (tget v i) := by
  simp [tmap, h]

@[simp] theorem tget_replicate [Inhabited α] {n i : Nat} (x : α) (h : i < n) :
    tget (Vector.replicate n x) i = x := by
  simp [tget, Vector.toList, h]

/-- Two tables with the same entries are the same table. -/
theorem table_ext [Inhabited α] {n : Nat} {v w : Vector α n} (h : ∀ i, i < n → tget v i = tget w i) : v = w := by
  ext i hi
  have := h i hi
  rwa [tget_eq_getElem v hi, tget_eq_getElem w hi] at this

/-- Every entry of a table is its entry at some number. -/
theorem mem_table [Inhabited α] {n : Nat} {v : Vector α n} {x : α} : x ∈ v.toList ↔ ∃ i, i < n ∧ tget v i = x := by
  constructor
  · intro h
    obtain ⟨i, hi, rfl⟩ := List.getElem_of_mem h
    have hn : i < n := by simpa using hi
    exact ⟨i, hn, by simp [tget_eq_getElem v hn]⟩
  · rintro ⟨i, hi, rfl⟩
    simp [tget_eq_getElem v hi]

/-! ## Rising lists with a default -/

variable [DecidableEq α] {d : α}

theorem assocWf_mono {lo hi : Nat} {l : List (Nat × α)} (hlt : lo ≤ hi) (h : assocWf d hi l = true) :
    assocWf d lo l = true := by
  cases l with
  | nil => rfl
  | cons x r =>
    obtain ⟨q, v⟩ := x
    simp only [assocWf, Bool.and_eq_true, decide_eq_true_eq] at h ⊢
    exact ⟨⟨by omega, h.1.2⟩, h.2⟩

/-- Below its first key a rising list holds the default. -/
theorem assocGet_below {lo : Nat} {l : List (Nat × α)} (h : assocWf d lo l = true) {k : Nat} (hk : k < lo) :
    assocGet d l k = d := by
  induction l generalizing lo with
  | nil => rfl
  | cons x r ih =>
    obtain ⟨q, v⟩ := x
    simp only [assocWf, Bool.and_eq_true, decide_eq_true_eq] at h
    have hq : q ≠ k := by omega
    simp only [assocGet, hq, if_false]
    exact ih h.2 (by omega)

/-- What a write does to a rising list: the key written reads the new value, every other key as before. -/
theorem assocGet_assocSet {lo : Nat} {l : List (Nat × α)} (h : assocWf d lo l = true) (k j : Nat) (v : α) :
    assocGet d (assocSet d l k v) j = if j = k then v else assocGet d l j := by
  induction l generalizing lo with
  | nil =>
    simp only [assocSet]
    split
    · next hv => simp [assocGet, hv]
    · simp only [assocGet]; split <;> rename_i e <;> simp [eq_comm, e]
  | cons x r ih =>
    obtain ⟨q, w⟩ := x
    have hw := h
    simp only [assocWf, Bool.and_eq_true, decide_eq_true_eq] at h
    obtain ⟨⟨hlo, hwd⟩, hr⟩ := h
    simp only [assocSet]
    split
    · next hkq =>
      have below : assocGet d ((q, w) :: r) k = d := assocGet_below (lo := q)
        (by simp [assocWf, hwd, hr]) hkq
      split
      · next hv => split
                   · next e => rw [e, below, hv]
                   · rfl
      · simp only [assocGet]
        by_cases e : k = j
        · simp [e]
        · simp [e, Ne.symm e]
    · next hkq =>
      split
      · next e =>
        subst e
        split
        · next hv =>
          by_cases e : j = k
          · subst e; simp [hv, assocGet_below hr (Nat.lt_succ_self j)]
          · simp [e, assocGet, Ne.symm e]
        · by_cases e : j = k
          · subst e; simp [assocGet]
          · simp [e, assocGet, Ne.symm e]
      · next e =>
        simp only [assocGet]
        by_cases hq : q = j
        · subst hq; simp [Ne.symm e]
        · simp only [hq, if_false]
          exact ih hr

/-- A write keeps the canonical form. -/
theorem assocSet_wf {lo : Nat} {l : List (Nat × α)} (h : assocWf d lo l = true) {k : Nat} (hk : lo ≤ k) (v : α) :
    assocWf d lo (assocSet d l k v) = true := by
  induction l generalizing lo with
  | nil =>
    simp only [assocSet]
    split
    · rfl
    · next hv => simp [assocWf, hk, hv]
  | cons x r ih =>
    obtain ⟨q, w⟩ := x
    simp only [assocWf, Bool.and_eq_true, decide_eq_true_eq] at h
    obtain ⟨⟨hlo, hwd⟩, hr⟩ := h
    simp only [assocSet]
    split
    · next hkq =>
      split
      · simp [assocWf, hlo, hwd, hr]
      · next hv => simp [assocWf, hk, hv, hwd, hr, hkq]
    · next hkq =>
      split
      · next e =>
        split
        · exact assocWf_mono (by omega) hr
        · next hv => simp only [assocWf, Bool.and_eq_true, decide_eq_true_eq]; exact ⟨⟨hk, hv⟩, e ▸ hr⟩
      · next e =>
        simp only [assocWf, Bool.and_eq_true, decide_eq_true_eq]
        exact ⟨⟨hlo, hwd⟩, ih hr (by omega)⟩

/-- Equal contents are equal lists: the canonical form is unique. -/
theorem assoc_ext {lo : Nat} {l m : List (Nat × α)} (hl : assocWf d lo l = true) (hm : assocWf d lo m = true)
    (h : ∀ k, assocGet d l k = assocGet d m k) : l = m := by
  induction l generalizing lo m with
  | nil =>
    cases m with
    | nil => rfl
    | cons y r =>
      obtain ⟨q, w⟩ := y
      simp only [assocWf, Bool.and_eq_true, decide_eq_true_eq] at hm
      exact absurd (h q).symm (by simpa [assocGet] using hm.1.2)
  | cons x l ih =>
    obtain ⟨p, v⟩ := x
    have hl' := hl
    simp only [assocWf, Bool.and_eq_true, decide_eq_true_eq] at hl
    cases m with
    | nil => exact absurd (h p) (by simpa [assocGet] using hl.1.2)
    | cons y m =>
      obtain ⟨q, w⟩ := y
      have hm' := hm
      simp only [assocWf, Bool.and_eq_true, decide_eq_true_eq] at hm
      have hpq : p = q := by
        rcases Nat.lt_trichotomy p q with c | c | c
        · have := h p
          rw [assocGet_below (lo := q) (l := (q, w) :: m) (by simp [assocWf, hm.1.2, hm.2]) c] at this
          exact absurd this (by simpa [assocGet] using hl.1.2)
        · exact c
        · have := h q
          rw [assocGet_below (lo := p) (l := (p, v) :: l) (by simp [assocWf, hl.1.2, hl.2]) c] at this
          exact absurd this.symm (by simpa [assocGet] using hm.1.2)
      subst hpq
      have hvw : v = w := by simpa [assocGet] using h p
      subst hvw
      congr 1
      refine ih hl.2 hm.2 (fun k => ?_)
      by_cases e : p = k
      · subst e
        rw [assocGet_below hl.2 (Nat.lt_succ_self p), assocGet_below hm.2 (Nat.lt_succ_self p)]
      · simpa [assocGet, e] using h k

/-! ## Ascending lists of numbers -/

/-- A number inserted is a member beside the members there were. -/
@[simp] theorem mem_insertNum {x y : Nat} {l : List Nat} : y ∈ insertNum x l ↔ y = x ∨ y ∈ l := by
  induction l with
  | nil => simp [insertNum]
  | cons z r ih =>
    simp only [insertNum]
    split
    · simp
    · split
      · next e => simp [e]
      · simp only [List.mem_cons, ih]; tauto

/-- Numbers inserted one by one are members beside the members there were. -/
theorem mem_foldl_insertNum {ps l : List Nat} {y : Nat} :
    y ∈ ps.foldl (fun q p => insertNum p q) l ↔ y ∈ ps ∨ y ∈ l := by
  induction ps generalizing l with
  | nil => simp
  | cons p ps ih => simp only [List.foldl_cons, ih, mem_insertNum, List.mem_cons]; tauto

/-- An insertion keeps a list strictly ascending. -/
theorem insertNum_pairwise {x : Nat} {l : List Nat} (h : l.Pairwise (· < ·)) :
    (insertNum x l).Pairwise (· < ·) := by
  induction l with
  | nil => simp [insertNum]
  | cons y r ih =>
    simp only [insertNum]
    have hc := List.pairwise_cons.1 h
    split
    · next hxy =>
      refine List.pairwise_cons.2 ⟨fun z hz => ?_, h⟩
      rcases List.mem_cons.1 hz with e | e
      · omega
      · have := hc.1 z e; omega
    · split
      · exact h
      · refine List.pairwise_cons.2 ⟨fun z hz => ?_, ih hc.2⟩
        rcases mem_insertNum.1 hz with e | e
        · omega
        · exact hc.1 z e

theorem foldl_insertNum_pairwise {ps l : List Nat} (h : l.Pairwise (· < ·)) :
    (ps.foldl (fun q p => insertNum p q) l).Pairwise (· < ·) := by
  induction ps generalizing l with
  | nil => exact h
  | cons p ps ih => exact ih (insertNum_pairwise h)

end Sys2Proof.Machine
end

