-- ==== Sys2Proof/Laws/Ops.lean ====
section
/-! SUPPORT. What each shared operation can do, said once: taking and answering a request, the arbiter's work after a
command, events, pages. -/

namespace Sys2Proof.Machine

/-! ## Frames -/

/-- The two bytes of a 16-bit value give it back. -/
theorem le16_append (v : BitVec 16) : v.extractLsb' 8 8 ++ v.extractLsb' 0 8 = v := by
  ext i hi
  simp only [BitVec.getElem_append, BitVec.getElem_extractLsb']
  split
  · simp [BitVec.getLsbD_eq_getElem hi]
  · rw [← BitVec.getLsbD_eq_getElem hi]; congr 1; omega

theorem le16At_le16 (l : List Byte) (v : BitVec 16) (r : List Byte) : le16At (l ++ (le16 v ++ r)) l.length = v := by
  have h : le16At (l ++ (le16 v ++ r)) l.length = v.extractLsb' 8 8 ++ v.extractLsb' 0 8 := by
    simp [le16At, byteAt, le16]
  rw [h, le16_append]

/-- R192: a request frame laid out with its length and its CRC-16 does not fail. -/
theorem frameFails_requestTail (kind tag : Byte) (body : List Byte) (h : body.length ≤ 1040) :
    frameFails (requestTail kind tag body) none = false := by
  let covered : List Byte := [kind, tag] ++ le16 (BitVec.ofNat 16 body.length) ++ body
  have hc : covered.length = 4 + body.length := by simp [covered, le16]; omega
  have ht : requestTail kind tag body = covered ++ (le16 (crc16 covered) ++ []) := by simp [requestTail, withCrc, covered]
  have hl : frameLength (requestTail kind tag body) = body.length := by
    have : requestTail kind tag body =
        [kind, tag] ++ (le16 (BitVec.ofNat 16 body.length) ++ (body ++ le16 (crc16 covered))) := by
      simp [requestTail, withCrc, covered]
    rw [frameLength, this]
    have := le16At_le16 [kind, tag] (BitVec.ofNat 16 body.length) (body ++ le16 (crc16 covered))
    simp only [List.length_cons, List.length_nil] at this
    rw [this]; simp; omega
  have hb : badCrc (requestTail kind tag body) = false := by
    rw [badCrc, hl, ht, ← hc, le16At_le16, List.take_left]
    simp
  simp [frameFails, framingError, oversize, hb, hl, Config.largestBody]
  omega

/-! ## Requests and replies -/

/-- R192: the frame of a request fails exactly when its body is longer than a frame can carry. -/
theorem requestFails_eq (kind tag : Byte) (body : List Byte) :
    requestFails kind tag body = decide (1040 < body.length) := by
  by_cases hb : 1040 < body.length
  · simp [requestFails, Config.largestBody, hb]
  · simp [requestFails, Config.largestBody, hb, frameFails_requestTail kind tag body (Nat.not_lt.mp hb)]

/-- A request that finds the device up and its interface free is taken. -/
theorem onRequest_free {kind tag : Byte} {body : List Byte} {f : State → State} {s : State} (h : linkFree s = true)
    (hb : body.length ≤ 1040) : onRequest kind tag body f s = f { s with link := taken s kind tag .answered } := by
  simp only [linkFree, Bool.and_eq_true, Bool.not_eq_true'] at h
  simp [onRequest, h, takeInHand, taken, requestFails_eq, Nat.not_lt.mpr hb]

/-- A request that finds the interface occupied leaves a BUSY answer owed, or is discarded and counted. -/
theorem answerBusy_eq (kind tag : Byte) (s : State) : answerBusy kind tag s = { s with link := busied s kind tag } := by
  by_cases h : s.link.busy.length < 8 <;> simp [answerBusy, busied, Config.maxBusy, h, discardFrame]

theorem onRequest_occupied {kind tag : Byte} {body : List Byte} {f : State → State} {s : State} (hu : s.life = .up)
    (hb : body.length ≤ 1040) (ho : occupied s = true) :
    onRequest kind tag body f s = { s with link := busied s kind tag } := by
  simp [onRequest, isUp, hu, ho, answerBusy_eq, requestFails_eq, Nat.not_lt.mpr hb]

/-- A body longer than a frame can carry is discarded and counted, whatever the interface does. -/
theorem onRequest_oversize {kind tag : Byte} {body : List Byte} {f : State → State} {s : State} (hu : s.life = .up)
    (hb : 1040 < body.length) : onRequest kind tag body f s = discardFrame s := by
  simp [onRequest, isUp, hu, requestFails_eq, hb]

/-- While the device is not up a request is discarded. -/
theorem onRequest_down {kind tag : Byte} {body : List Byte} {f : State → State} {s : State} (h : s.life ≠ .up) :
    onRequest kind tag body f s = s := by
  simp [onRequest, isUp, h]

/-- A reply formed on the state of a request just taken. -/
theorem answer_taken {kind tag : Byte} {job : LinkJob} {status : Status} {body : ReplyBody} {s t : State}
    (h : t.link = taken s kind tag job) :
    answer status body t =
      { t with link := { taken s kind tag job with
          reply := some { kind := kind, tag := tag, status := status, body := body } } } := by
  simp [answer, h, taken]

theorem answer_answered {kind tag : Byte} {status : Status} {body : ReplyBody} {s t : State}
    (h : t.link = taken s kind tag .answered) :
    answer status body t = { t with link := answered s kind tag status body } := by
  simp [answer, h, taken, answered]

/-! ## The arbiter after a command -/

/-- Presenting and granting change nothing but the arbiter and the sweep position. -/
theorem settle_eq (s : State) : settle s = { s with arbiter := (settle s).arbiter, sweep := (settle s).sweep } := by
  unfold settle
  split
  · unfold grantNext; split <;> rfl
  · rfl

theorem settle_down {s : State} (h : s.life ≠ .up) : settle s = s := by simp [settle, isUp, h]

@[simp] theorem settle_life (s : State) : (settle s).life = s.life := by rw [settle_eq]
@[simp] theorem settle_resetN (s : State) : (settle s).resetN = s.resetN := by rw [settle_eq]
@[simp] theorem settle_cause (s : State) : (settle s).cause = s.cause := by rw [settle_eq]
@[simp] theorem settle_timebase (s : State) : (settle s).timebase = s.timebase := by rw [settle_eq]
@[simp] theorem settle_store (s : State) : (settle s).store = s.store := by rw [settle_eq]
@[simp] theorem settle_pool (s : State) : (settle s).pool = s.pool := by rw [settle_eq]
@[simp] theorem settle_segments (s : State) : (settle s).segments = s.segments := by rw [settle_eq]
@[simp] theorem settle_verifier (s : State) : (settle s).verifier = s.verifier := by rw [settle_eq]
@[simp] theorem settle_schedule (s : State) : (settle s).schedule = s.schedule := by rw [settle_eq]
@[simp] theorem settle_sequencer (s : State) : (settle s).sequencer = s.sequencer := by rw [settle_eq]
@[simp] theorem settle_pipeline (s : State) : (settle s).pipeline = s.pipeline := by rw [settle_eq]
@[simp] theorem settle_run (s : State) : (settle s).run = s.run := by rw [settle_eq]
@[simp] theorem settle_rig (s : State) : (settle s).rig = s.rig := by rw [settle_eq]
@[simp] theorem settle_monitors (s : State) : (settle s).monitors = s.monitors := by rw [settle_eq]
@[simp] theorem settle_faults (s : State) : (settle s).faults = s.faults := by rw [settle_eq]
@[simp] theorem settle_capture (s : State) : (settle s).capture = s.capture := by rw [settle_eq]
@[simp] theorem settle_summaries (s : State) : (settle s).summaries = s.summaries := by rw [settle_eq]
@[simp] theorem settle_config (s : State) : (settle s).config = s.config := by rw [settle_eq]
@[simp] theorem settle_permit (s : State) : (settle s).permit = s.permit := by rw [settle_eq]
@[simp] theorem settle_supervisor (s : State) : (settle s).supervisor = s.supervisor := by rw [settle_eq]
@[simp] theorem settle_link (s : State) : (settle s).link = s.link := by rw [settle_eq]
@[simp] theorem settle_events (s : State) : (settle s).events = s.events := by rw [settle_eq]
@[simp] theorem settle_freeTick (s : State) : (settle s).freeTick = s.freeTick := by rw [settle_eq]
@[simp] theorem settle_pending (s : State) : (settle s).pending = s.pending := by rw [settle_eq]

/-! ## Events -/

/-- An event changes the event queue only, and what it makes of the queue depends on the queue and the frame counter
only. -/
theorem raiseEvent_eq (kind : EventKind) (subject value : Nat) (s : State) :
    raiseEvent kind subject value s = { s with events := (raiseEvent kind subject value s).events } := by
  unfold raiseEvent; dsimp only; split <;> rfl

theorem raiseEvent_events_congr (kind : EventKind) (subject value : Nat) {s t : State} (he : t.events = s.events)
    (hc : t.timebase.counter = s.timebase.counter) :
    (raiseEvent kind subject value t).events = (raiseEvent kind subject value s).events := by
  unfold raiseEvent; dsimp only; rw [he, hc]; split <;> rfl

/-- Within its capacity the event queue stays within it. -/
theorem raiseEvent_bounded (kind : EventKind) (subject value : Nat) {s : State}
    (h : s.events.records.length ≤ Config.maxEvents) :
    (raiseEvent kind subject value s).events.records.length ≤ Config.maxEvents := by
  unfold raiseEvent; dsimp only; split
  · simp [Config.maxEvents] at *; omega
  · simp at *; omega

/-! ## Pages -/

theorem allocateBlock_some {n : Nat} {s t : State} {pages : List Nat} (h : allocateBlock n s = some (pages, t)) :
    n ≤ s.pool.length ∧ pages = s.pool.take n ∧ t = { s with pool := s.pool.drop n } := by
  simp only [allocateBlock] at h
  split at h
  · next hn => cases h; exact ⟨hn, rfl, rfl⟩
  · cases h

theorem allocateOne_some {s t : State} {page : Nat} (h : allocateOne s = some (page, t)) :
    ∃ rest, s.pool = page :: rest ∧ t = { s with pool := rest } := by
  simp only [allocateOne] at h
  split at h
  · cases h
  · next p rest e => cases h; exact ⟨rest, e, rfl⟩

/-- A release changes the pool, the arbiter, the sweep position, and the store where an operation on its pages is
granted. -/
theorem releasePages_eq (pages : List Nat) (s : State) :
    releasePages pages s = { s with
      pool := (releasePages pages s).pool, store := (releasePages pages s).store
      arbiter := (releasePages pages s).arbiter, sweep := (releasePages pages s).sweep } := by
  simp only [releasePages, finishGranted]
  split
  · rfl
  · split <;> rfl

theorem releasePages_pool (pages : List Nat) (s : State) :
    (releasePages pages s).pool = pages.foldl (fun q p => insertNum p q) s.pool := by
  simp only [releasePages, finishGranted]
  split
  · rfl
  · split <;> rfl

theorem mem_releasePages {pages : List Nat} {s : State} {p : Nat} :
    p ∈ (releasePages pages s).pool ↔ p ∈ pages ∨ p ∈ s.pool := by
  rw [releasePages_pool, mem_foldl_insertNum]

/-- The store after the granted operation's completion is the same before and after a release. -/
@[simp] theorem completeInStore_releasePages (pages : List Nat) (s : State) :
    completeInStore (releasePages pages s) = completeInStore s := by
  rcases h : s.arbiter.granted with _ | g
  · simp only [releasePages, finishGranted, h, poolPages, completeInStore]
  · by_cases hp : opWord g.op / Config.pageWords ∈ pages
    · have hl : completeInStore (releasePages pages s) = completeInStore s := by
        simp only [releasePages, finishGranted, h, List.contains_iff_mem, hp, if_true, poolPages]
        rfl
      exact hl
    · simp only [releasePages, finishGranted, h, List.contains_iff_mem, hp, if_false, poolPages, completeInStore]

/-- A release leaves the store, or completes the granted operation in it. -/
theorem releasePages_store (pages : List Nat) (s : State) :
    (releasePages pages s).store = s.store ∨ (releasePages pages s).store = completeInStore s := by
  simp only [releasePages, finishGranted]
  split
  · exact .inl rfl
  · split
    · exact .inr rfl
    · exact .inl rfl

end Sys2Proof.Machine
end

