-- ==== Sys2Proof/Laws/Frames.lean ====
section
/-! SUPPORT. What a frame boundary does, said once: the boundary that closes no missed window and waits for no memory
operation, and what each of its parts can change. -/

namespace Sys2Proof.Machine

variable {s : State}

/-! ## Before the frame is formed -/

theorem owesBoundary_of_nothingDue (h : nothingDue s) : owesBoundary s = false := by
  obtain ⟨hops, hdue⟩ := h
  unfold owesBoundary
  rw [hops]
  simp only [List.isEmpty_nil, Bool.not_true, Bool.false_or]
  split
  · next p hp => simpa using hdue p hp
  · rfl

/-- Where nothing is due the drain is over at once. -/
theorem drain_of_nothingDue (n : Nat) (h : nothingDue s) : drain n s = s := by
  cases n with
  | zero => rfl
  | succ n => simp [drain, owesBoundary_of_nothingDue h]

theorem missedWindow_of_closesNoMiss (h : closesNoMiss s) : missedWindow s = none := by
  unfold missedWindow; split
  · next w hw => simp [h w hw]
  · rfl

theorem missedWindow_eq_some {w : Window} : missedWindow s = some w ↔ s.rig.window = some w ∧ w.good = false := by
  unfold missedWindow; split
  · next v hv =>
    cases hg : v.good
    · simp only [hv, Bool.false_eq_true, if_false, Option.some.injEq]
      exact ⟨fun e => ⟨e, e ▸ hg⟩, fun e => e.1⟩
    · simp only [hv, if_true, Option.some.injEq]
      exact ⟨nofun, fun ⟨e, e'⟩ => by rw [← e, hg] at e'; cases e'⟩
  · next hn => simp [hn]

/-- A boundary that closes no missed window and waits for no memory operation gives its frame on the state as it stands,
with the timebase moved on and the next window open. -/
theorem boundary_quiet (missFirst : Bool) (hd : nothingDue s) (hm : closesNoMiss s) :
    boundary missFirst s = settle (callReads (giveFrame (openWindow (tick s)))) := by
  have hd' : nothingDue (openWindow (tick s)) := hd
  simp only [boundary, drain_of_nothingDue _ hd, missedWindow_of_closesNoMiss hm, missOf, drain_of_nothingDue _ hd',
    ite_self]

/-- A frame that comes before the boundary's miss is given on the state as it stands. -/
theorem boundary_frameFirst (hd : nothingDue s) :
    boundary false s = settle (callReads (missOf (missedWindow s) (giveFrame (openWindow (tick s))))) := by
  simp [boundary, drain_of_nothingDue _ hd]

/-! ## The frame -/

/-- The setpoints, the taper counter and the frame kind do not depend on the timebase and the rig link. -/
@[simp] theorem formFrame_pipeline_openWindow_tick : (formFrame (openWindow (tick s))).pipeline = (formFrame s).pipeline := rfl
@[simp] theorem frameKind_openWindow_tick : frameKind (openWindow (tick s)) = frameKind s := rfl

/-- Forming a frame changes the channels, the taper counter and the stop-taper flag. -/
theorem formFrame_eq (s : State) : formFrame s = { s with pipeline := { s.pipeline with
    channels := (formFrame s).pipeline.channels, taper := (formFrame s).pipeline.taper
    stopTaper := (formFrame s).pipeline.stopTaper } } := rfl

/-- Latching a snapshot changes the link. -/
theorem latchSnapshot_eq (s : State) : latchSnapshot s = { s with link := (latchSnapshot s).link } := by
  unfold latchSnapshot; split
  · next h => simp [answer, setJob, h]
  · rfl

/-- In ACTIVE the frame is formed, sent and reported on. -/
theorem giveFrame_active (ha : s.config.mode = .active) :
    giveFrame s = reports (frameKind s) s.run.state (formFrame s).pipeline.taper
      (latchSnapshot (sendFrame (formFrame s))) := by
  simp [giveFrame, isActive, ha]

/-! ## The reports -/

/-- A play frame enters the open summary only. -/
theorem accumulate_eq (s : State) : accumulate s = { s with summaries := (accumulate s).summaries } := by
  unfold accumulate; split <;> rfl

/-- Capturing a frame changes the capture unit, the pool and the events. -/
theorem captureFrame_eq (s : State) : captureFrame s =
    { s with capture := (captureFrame s).capture, pool := (captureFrame s).pool, events := (captureFrame s).events } := by
  unfold captureFrame
  split
  · rfl
  · split
    · rfl
    · split
      · split
        · split
          · next h => obtain ⟨rest, -, rfl⟩ := allocateOne_some h; rfl
          · rw [raiseEvent_eq]; rfl
        · rfl
      · rfl

/-- The report to the accumulator and the capture unit changes the summaries, the capture unit, the pool and the
events. -/
theorem reportEvidence_eq (k : FrameKind) (s : State) : reportEvidence k s =
    { s with
      summaries := (reportEvidence k s).summaries, capture := (reportEvidence k s).capture
      pool := (reportEvidence k s).pool, events := (reportEvidence k s).events } := by
  unfold reportEvidence; split
  · dsimp only; split
    · rw [captureFrame_eq, accumulate_eq]
    · rw [accumulate_eq]
  · rfl

/-- A frame that is not a play frame is not reported to them. -/
theorem reportEvidence_of_not_play {k : FrameKind} (h : isPlayFrame k = false) (s : State) : reportEvidence k s = s := by
  simp [reportEvidence, h]

/-- Calling reads changes what the sequencer has fetched. -/
theorem callReads_eq (s : State) : callReads s =
    { s with sequencer := { s.sequencer with fetch := (callReads s).sequencer.fetch } } := by
  unfold callReads; split
  · split <;> rfl
  · rfl

end Sys2Proof.Machine
end

