-- ==== Sys2Proof/Laws/Sequencing.lean ====
section
/-! SUPPORT. What the segments, evidence, faults and sequencer operations leave alone, said once for each: the parts of
the device outside them (`outer`). -/

namespace Sys2Proof.Machine

/-- The parts that no operation below a command's own meaning changes: the resets, the timebase, the store as the granted
operation leaves it (a release may complete that operation: R11), the rig link, the configuration, PERMIT, the
supervisor, the control link, the free-value counter and the queue. -/
def outer (s : State) :
    Life × Level × ResetCause × Timebase × Store × RigLink × ConfigStore × Permit × Supervisor × ControlLink × Nat ×
      List Instr :=
  (s.life, s.resetN, s.cause, s.timebase, completeInStore s, s.rig, s.config, s.permit, s.supervisor, s.link, s.freeTick,
    s.pending)

/-- What equal outer parts give, part by part. -/
theorem outer_parts {s t : State} (h : outer t = outer s) :
    t.life = s.life ∧ t.resetN = s.resetN ∧ t.cause = s.cause ∧ t.timebase = s.timebase ∧
      completeInStore t = completeInStore s ∧
      t.rig = s.rig ∧ t.config = s.config ∧ t.permit = s.permit ∧ t.supervisor = s.supervisor ∧ t.link = s.link ∧
      t.freeTick = s.freeTick ∧ t.pending = s.pending := by
  simpa only [outer, Prod.mk.injEq] using h

variable {s : State}

/-! ## Events, pages, descriptors, the lookahead -/

@[simp] theorem outer_raiseEvent (k : EventKind) (a v : Nat) : outer (raiseEvent k a v s) = outer s := by
  unfold raiseEvent; dsimp only; split <;> rfl
@[simp] theorem outer_releasePages (ps : List Nat) : outer (releasePages ps s) = outer s := by
  simp only [outer, completeInStore_releasePages, releasePages_life, releasePages_resetN, releasePages_cause,
    releasePages_timebase, releasePages_rig, releasePages_config, releasePages_permit, releasePages_supervisor,
    releasePages_link, releasePages_freeTick, releasePages_pending]
@[simp] theorem outer_setDescriptor (id : Nat) (d : Descriptor) : outer (setDescriptor id d s) = outer s := rfl

/-- A read whose result is discarded still completes in the store (R11). -/
theorem completeInStore_granted {s t : State} (hs : t.store = s.store)
    (hg : t.arbiter.granted.map Grant.op = s.arbiter.granted.map Grant.op) : completeInStore t = completeInStore s := by
  rcases h : s.arbiter.granted with _ | g <;> rcases h' : t.arbiter.granted with _ | g' <;> rw [h, h'] at hg
  · simp only [completeInStore, h, h', hs]
  · cases hg
  · cases hg
  · have hop : g'.op = g.op := Option.some.inj hg
    simp only [completeInStore, h, h', hs, hop]

@[simp] theorem outer_dropTarget (t : Target) : outer (dropTarget t s) = outer s := by
  have hc : completeInStore (dropTarget t s) = completeInStore s := by
    refine completeInStore_granted (by simp) ?_
    unfold dropTarget; split
    · dsimp only; split
      · next h => rw [h]; rfl
      · rfl
    · rfl
  simp only [outer, hc, dropTarget_life, dropTarget_resetN, dropTarget_cause, dropTarget_timebase, dropTarget_rig,
    dropTarget_config, dropTarget_permit, dropTarget_supervisor, dropTarget_link, dropTarget_freeTick,
    dropTarget_pending]
@[simp] theorem outer_withdrawReads (q : ReadPurpose) : outer (withdrawReads q s) = outer s := by
  have hc : completeInStore (withdrawReads q s) = completeInStore s := by
    refine completeInStore_granted (by simp) ?_
    unfold withdrawReads; dsimp only; split
    · next h => rw [h]; rfl
    · rfl
  simp only [outer, hc]; rfl
@[simp] theorem outer_voidLookahead : outer (voidLookahead s) = outer s :=
  Eq.trans (b := outer (withdrawReads .prefetch s)) rfl (by simp)
@[simp] theorem outer_installLookahead : outer (installLookahead s) = outer s := rfl
@[simp] theorem outer_redoLookahead : outer (redoLookahead s) = outer s := by unfold redoLookahead; split <;> simp
@[simp] theorem outer_segChanged (id : Nat) : outer (segChanged id s) = outer s := by
  unfold segChanged; split <;> simp

/-! ## Segments -/

@[simp] theorem outer_carriedAtSwap (id : Nat) : outer (carriedAtSwap id s) = outer s := rfl
@[simp] theorem outer_dropCarried (id : Nat) (r : Bool) : outer (dropCarried id r s) = outer s := rfl
@[simp] theorem outer_swapIn (id : Nat) : outer (swapIn id s) = outer s := by unfold swapIn; split <;> simp
@[simp] theorem outer_endSegPlay (id : Nat) : outer (endSegPlay id s) = outer s := by
  simp only [endSegPlay]; split <;> simp
@[simp] theorem outer_addDoubleErrors (id k : Nat) : outer (addDoubleErrors id k s) = outer s := rfl
@[simp] theorem outer_markDamaged (id o : Nat) : outer (markDamaged id o s) = outer s := by
  unfold markDamaged; split <;> simp
@[simp] theorem outer_removeReplacement (id : Nat) : outer (removeReplacement id s) = outer s := by
  unfold removeReplacement; split <;> simp
@[simp] theorem outer_dropReplacement (id : Nat) : outer (dropReplacement id s) = outer s := by
  unfold dropReplacement; split <;> simp
@[simp] theorem outer_emptyDescriptor (id : Nat) : outer (emptyDescriptor id s) = outer s := by simp [emptyDescriptor]
@[simp] theorem outer_rejectTarget (t : Target) (m : Bool) : outer (rejectTarget t m s) = outer s := by
  unfold rejectTarget; split <;> simp
@[simp] theorem outer_readyTarget (t : Target) : outer (readyTarget t s) = outer s := by
  simp only [readyTarget]; split
  · split
    · simp
    · split <;> simp
  · simp

/-! ## Evidence -/

@[simp] theorem outer_zeroCounts : outer (zeroCounts s) = outer s := rfl
@[simp] theorem outer_openSummary (e g : Nat) : outer (openSummary e g s) = outer s := rfl
@[simp] theorem outer_accumulate : outer (accumulate s) = outer s := by unfold accumulate; split <;> rfl
@[simp] theorem outer_countMemoryErrors (cs : List Nat) : outer (countMemoryErrors cs s) = outer s := by
  unfold countMemoryErrors; split <;> rfl
@[simp] theorem outer_queueSummary (m : Summary) : outer (queueSummary m s) = outer s := by
  simp only [queueSummary]; split <;> simp <;> rfl
@[simp] theorem outer_closeSummary (a j : Bool) : outer (closeSummary a j s) = outer s := by
  unfold closeSummary; split <;> simp; rfl
@[simp] theorem outer_setSlot (i : Nat) (r : Option CaptureRecord) : outer (setSlot i r s) = outer s := rfl
theorem outer_allocateOne {p : Nat} {t : State} (h : allocateOne s = some (p, t)) : outer t = outer s := by
  unfold allocateOne at h; split at h
  · cases h
  · cases h; rfl
@[simp] theorem outer_openCapture (e g : Nat) : outer (openCapture e g s) = outer s := by
  simp only [openCapture]
  split
  · simp
  · split
    · simp
    · split
      · simp
      · next t h =>
        have := outer_allocateOne h
        rw [← this]; rfl
@[simp] theorem outer_reportCapture (i o : Nat) : outer (reportCapture i o s) = outer s := by
  unfold reportCapture; split
  · rfl
  · split <;> simp
@[simp] theorem outer_issueFrame (i : Nat) (r : CaptureRecord) : outer (issueFrame i r s) = outer s := rfl
@[simp] theorem outer_captureFrame : outer (captureFrame s) = outer s := by
  unfold captureFrame
  split
  · rfl
  · split
    · rfl
    · split
      · split
        · split
          · next h => simpa using outer_allocateOne h
          · simp
        · simp
      · rfl
@[simp] theorem outer_closeRecord (e : Bool) : outer (closeRecord e s) = outer s := by
  simp only [closeRecord]; split
  · rfl
  · split <;> rfl
@[simp] theorem outer_closeCapture (e : Bool) : outer (closeCapture e s) = outer s := by
  unfold closeCapture; split
  · simp
  · rfl
@[simp] theorem outer_countFrame : outer (countFrame s) = outer s := by
  unfold countFrame; split
  · rfl
  · split <;> rfl
@[simp] theorem outer_endPlay (a j : Bool) : outer (endPlay a j s) = outer s := by
  simp only [endPlay]; split
  · rw [outer_closeCapture]
    exact (outer_closeSummary a j).trans (by simp)
  · rfl

/-! ## Faults -/

@[simp] theorem outer_setEntry (k : Nat) (e : FaultEntry) : outer (setEntry k e s) = outer s := rfl
@[simp] theorem outer_setFaultLine : outer (setFaultLine s) = outer s := rfl
@[simp] theorem outer_setAction : outer (setAction s) = outer s := rfl
@[simp] theorem outer_zeroMonitors : outer (zeroMonitors s) = outer s := rfl
@[simp] theorem outer_pressureFall : outer (pressureFall s) = outer s := rfl
@[simp] theorem outer_sequencerIdle : outer (sequencerIdle s) = outer s := rfl
@[simp] theorem outer_leaveSet (k : Nat) : outer (leaveSet k s) = outer s := rfl
@[simp] theorem outer_freezePipeline : outer (freezePipeline s) = outer s := rfl
@[simp] theorem outer_beginStopTaper : outer (beginStopTaper s) = outer s := rfl
@[simp] theorem outer_endJoinWait : outer (endJoinWait s) = outer s := by
  unfold endJoinWait; split
  · split <;> simp
  · rfl
@[simp] theorem outer_abortEntry : outer (abortEntry s) = outer s :=
  (outer_endPlay true false).trans (outer_endJoinWait.trans outer_voidLookahead)
@[simp] theorem outer_endSource (k : Nat) : outer (endSource k s) = outer s := by
  simp only [endSource, outer_raiseEvent]; split <;> rfl
@[simp] theorem outer_endWait : outer (endWait s) = outer s := by unfold endWait; split <;> simp
@[simp] theorem outer_enterParking : outer (enterParking s) = outer s := by
  simp only [enterParking, outer_beginStopTaper, outer_endWait, outer_abortEntry]; rfl
@[simp] theorem outer_enterUnloading : outer (enterUnloading s) = outer s := by
  simp only [enterUnloading, outer_beginStopTaper, outer_endWait, outer_abortEntry]; rfl
@[simp] theorem outer_freeze : outer (freeze s) = outer s := by
  simp only [freeze, outer_freezePipeline, outer_endWait, outer_abortEntry]; rfl
@[simp] theorem outer_endStoppedDelay : outer (endStoppedDelay s) = outer s := by
  simp only [endStoppedDelay, outer_raiseEvent]; rfl
@[simp] theorem outer_stopAction : outer (stopAction s) = outer s := by
  unfold stopAction
  split <;> try simp
  split
  · split
    · simp
    · rfl
  · rfl
@[simp] theorem outer_handAction (a : Option FaultClass) : outer (handAction a s) = outer s := by
  unfold handAction; split <;> simp
@[simp] theorem outer_formAction : outer (formAction s) = outer s := by unfold formAction; split <;> simp
@[simp] theorem outer_enterPaused : outer (enterPaused s) = outer s := rfl
@[simp] theorem outer_pauseJoined : outer (pauseJoined s) = outer s := by
  unfold pauseJoined; split
  · split <;> rfl
  · rfl
@[simp] theorem outer_joinSet (k : Nat) : outer (joinSet k s) = outer s := outer_pauseJoined
@[simp] theorem outer_raise (k n : Nat) : outer (raise k n s) = outer s := by
  simp only [raise]; split
  · rfl
  · split <;> simp
@[simp] theorem outer_raiseEnded (k n : Nat) : outer (raiseEnded k n s) = outer s := by
  unfold raiseEnded; split <;> simp

/-! ## The sequencer -/

@[simp] theorem outer_callReads : outer (callReads s) = outer s := by
  unfold callReads; split
  · split <;> rfl
  · rfl
@[simp] theorem outer_enterEntry (i : Nat) : outer (enterEntry i s) = outer s := rfl
@[simp] theorem outer_stand (p : Phase) (c : Nat) : outer (stand p c s) = outer s := rfl
@[simp] theorem outer_leaveEntry (p : Phase) : outer (leaveEntry p s) = outer s := rfl
@[simp] theorem outer_carryLookahead : outer (carryLookahead s) = outer s :=
  Eq.trans (b := outer (voidLookahead s)) rfl (by simp)
@[simp] theorem outer_beginPlay (i : Nat) (p : PlayEntry) (b : Bool) : outer (beginPlay i p b s) = outer s := by
  simp only [beginPlay, outer_installLookahead, outer_enterEntry]
  split
  · simp only [outer_openCapture, outer_openSummary, outer_zeroCounts]; rfl
  · simp only [outer_openSummary, outer_zeroCounts]; rfl
@[simp] theorem outer_beginDwell (i d : Nat) : outer (beginDwell i d s) = outer s := rfl
@[simp] theorem outer_endSchedule : outer (endSchedule s) = outer s := by
  simp only [endSchedule]; split
  · exact (outer_raiseEvent _ _ _).trans (outer_stand _ _)
  · simp
@[simp] theorem outer_skipEntry (i g : Nat) : outer (skipEntry i g s) = outer s := by
  simp only [skipEntry, outer_raiseEvent, outer_raiseEnded]; rfl
@[simp] theorem outer_waitEntry (i g : Nat) : outer (waitEntry i g s) = outer s := by simp [waitEntry]
@[simp] theorem outer_advance (fuel i : Nat) : outer (advance fuel i s) = outer s := by
  induction fuel generalizing i s with
  | zero => rfl
  | succ n ih =>
    unfold advance; split
    · simp
    · simp [ih]
    · rw [ih]; rfl
    · simp
    · split
      · simp
      · split <;> simp [ih]
@[simp] theorem outer_seek (fuel i : Nat) : outer (seek fuel i s).2 = outer s := by
  induction fuel generalizing i s with
  | zero => rfl
  | succ n ih =>
    unfold seek; split
    · simp [ih]
    · rw [ih]; rfl
    · rfl
@[simp] theorem outer_proceed : outer (proceed s) = outer s := by
  unfold proceed; split
  · rfl
  · split
    · split <;> simp
    · split
      · split <;> simp
      · rfl
@[simp] theorem outer_enterRunning : outer (enterRunning s) = outer s := by
  simp only [enterRunning, outer_proceed, outer_callReads]; rfl
@[simp] theorem outer_pauseEmptied : outer (pauseEmptied s) = outer s := by
  unfold pauseEmptied; split
  · split
    · exact outer_enterRunning.trans (outer_raiseEvent _ _ _)
    · exact outer_enterRunning.trans (outer_raiseEvent _ _ _)
    · rfl
  · rfl
@[simp] theorem outer_faultEnd (k : Nat) : outer (faultEnd k s) = outer s := by
  simp only [faultEnd]; split
  · split <;> simp
  · rfl
@[simp] theorem outer_recheckMissing (id : Nat) : outer (recheckMissing id s) = outer s := by
  unfold recheckMissing; split
  · split
    · split <;> simp
    · rfl
  · rfl
@[simp] theorem outer_endEntry (p : PlayParams) : outer (endEntry p s) = outer s := by simp [endEntry]
@[simp] theorem outer_makeJoin (j id : Nat) : outer (makeJoin j id s) = outer s := by
  simp only [makeJoin, outer_proceed]
  exact Eq.trans rfl (outer_endPlay false true (s := s))
@[simp] theorem outer_failJoin (p : PlayParams) (j : Nat) : outer (failJoin p j s) = outer s := by
  simp only [failJoin]; split
  · rw [outer_endEntry]; rfl
  · rfl
@[simp] theorem outer_join (p : PlayParams) : outer (join p s) = outer s := by
  simp only [join]; split
  · split <;> simp
  · simp
@[simp] theorem outer_lastDriveFrame (p : PlayParams) : outer (lastDriveFrame p s) = outer s := by
  unfold lastDriveFrame; split
  · simp
  · split <;> simp
@[simp] theorem outer_endDwell : outer (endDwell s) = outer s := by
  simp only [endDwell, outer_proceed, outer_leaveEntry]
  exact Eq.trans rfl (outer_carryLookahead (s := s))

end Sys2Proof.Machine
end

