-- ==== Sys2Proof/Laws/Store.lean ====
section
/-! SUPPORT. What the sample store's operations can do: each part keeps the canonical form and changes one word, and the
store after reset has the form. -/

namespace Sys2Proof.Machine

/-- The canonical form is that of the two lists. -/
theorem Store.wf_iff {st : Store} : st.wf = true ↔ assocWf 0 0 st.cells = true ∧ assocWf .clean 0 st.marks = true := by
  simp [Store.wf]

/-- The store after a power-on reset has its canonical form. -/
theorem reset_store_wf : State.reset.store.wf = true := rfl

/-! ## Marks -/

theorem setMark_wf {w : Nat} {o : ReadOutcome} {st : Store} (h : st.wf = true) : (setMark w o st).wf = true := by
  rw [Store.wf_iff] at *
  exact ⟨h.1, assocSet_wf h.2 (Nat.zero_le w) o⟩

theorem markOf_setMark {w v : Nat} {o : ReadOutcome} {st : Store} (h : st.wf = true) :
    markOf (setMark w o st) v = if v = w then o else markOf st v :=
  assocGet_assocSet (Store.wf_iff.1 h).2 w v o

@[simp] theorem sampleAt_setMark (w : Nat) (o : ReadOutcome) (st : Store) (p : Nat) :
    sampleAt (setMark w o st) p = sampleAt st p := rfl

@[simp] theorem corrected_setMark (w : Nat) (o : ReadOutcome) (st : Store) :
    (setMark w o st).corrected = st.corrected := rfl

/-! ## Samples -/

/-- Storing samples one after another keeps the rising list's form. -/
theorem setCells_wf {w : Nat} {lanes : List (Nat × Sample)} {cs : List (Nat × Sample)} (h : assocWf 0 0 cs = true) :
    assocWf 0 0 (lanes.foldl (fun cs l => assocSet 0 cs (4 * w + l.1) l.2) cs) = true := by
  induction lanes generalizing cs with
  | nil => exact h
  | cons l r ih => exact ih (assocSet_wf h (Nat.zero_le _) l.2)

theorem setLanes_wf {w : Nat} {lanes : List (Nat × Sample)} {st : Store} (h : st.wf = true) :
    (setLanes w lanes st).wf = true := by
  rw [Store.wf_iff] at *
  exact ⟨setCells_wf h.1, h.2⟩

@[simp] theorem markOf_setLanes (w v : Nat) (lanes : List (Nat × Sample)) (st : Store) :
    markOf (setLanes w lanes st) v = markOf st v := rfl

@[simp] theorem corrected_setLanes (w : Nat) (lanes : List (Nat × Sample)) (st : Store) :
    (setLanes w lanes st).corrected = st.corrected := rfl

/-- Samples stored at other positions leave a position alone. -/
theorem setCells_other {w p : Nat} {lanes : List (Nat × Sample)} {cs : List (Nat × Sample)}
    (h : assocWf 0 0 cs = true) (hp : ∀ l, l ∈ lanes → p ≠ 4 * w + l.1) :
    assocGet 0 (lanes.foldl (fun cs l => assocSet 0 cs (4 * w + l.1) l.2) cs) p = assocGet 0 cs p := by
  induction lanes generalizing cs with
  | nil => rfl
  | cons l r ih =>
    rw [List.foldl_cons, ih (assocSet_wf h (Nat.zero_le _) l.2) (fun m hm => hp m (List.mem_cons_of_mem _ hm)),
      assocGet_assocSet h]
    simp [hp l List.mem_cons_self]

/-- Each stored sample is read back at its place. -/
theorem setCells_same {w : Nat} {lanes : List (Nat × Sample)} {cs : List (Nat × Sample)} (h : assocWf 0 0 cs = true)
    (hn : (lanes.map Prod.fst).Nodup) {l : Nat × Sample} (hl : l ∈ lanes) :
    assocGet 0 (lanes.foldl (fun cs l => assocSet 0 cs (4 * w + l.1) l.2) cs) (4 * w + l.1) = l.2 := by
  induction lanes generalizing cs with
  | nil => cases hl
  | cons m r ih =>
    rw [List.map_cons, List.nodup_cons] at hn
    rw [List.foldl_cons]
    rcases List.mem_cons.1 hl with rfl | hr
    · rw [setCells_other (assocSet_wf h (Nat.zero_le _) _), assocGet_assocSet h, if_pos rfl]
      intro k hk he
      exact hn.1 (List.mem_map.2 ⟨k, hk, by omega⟩)
    · exact ih (assocSet_wf h (Nat.zero_le _) _) hn.2 hr

/-! ## Counts -/

@[simp] theorem countOutcome_cells (o : ReadOutcome) (st : Store) : (countOutcome o st).cells = st.cells := by
  cases o <;> rfl
@[simp] theorem countOutcome_marks (o : ReadOutcome) (st : Store) : (countOutcome o st).marks = st.marks := by
  cases o <;> rfl

theorem countOutcome_wf {o : ReadOutcome} {st : Store} (h : st.wf = true) : (countOutcome o st).wf = true := by
  rw [Store.wf_iff] at *; simpa using h

/-! ## The word operations keep the form (R13, R14, R15, R18) -/

theorem storeRead_wf {w : Nat} {found : ReadOutcome} {st : Store} (h : st.wf = true) :
    (storeRead w found st).2.wf = true := countOutcome_wf (setMark_wf h)

theorem storeWriteWhole_wf {w : Nat} {lanes : List (Nat × Sample)} {st : Store} (h : st.wf = true) :
    (storeWriteWhole w lanes st).wf = true := setMark_wf (setLanes_wf h)

theorem storeWritePart_wf {w : Nat} {lanes : List (Nat × Sample)} {found : ReadOutcome} {st : Store}
    (h : st.wf = true) : (storeWritePart w lanes found st).2.wf = true := by
  unfold storeWritePart
  split
  · exact setMark_wf h
  · exact countOutcome_wf (setMark_wf (setLanes_wf h))
  · exact setMark_wf (setLanes_wf h)

theorem storeScrub_wf {w : Nat} {found : ReadOutcome} {st : Store} (h : st.wf = true) :
    (storeScrub w found st).2.wf = true := by
  unfold storeScrub
  split
  · exact setMark_wf h
  · exact countOutcome_wf (setMark_wf h)
  · exact h

end Sys2Proof.Machine
end

