-- ==== Sys2Proof/Tests/Slice0.lean ====
section
/-! SUPPORT. The model's own tests: well-formedness refusals, the manual's worked cases, one small step per command, and
for each statement a concrete state and operands that meet its hypotheses, clause by clause. -/

set_option Elab.async false

namespace Sys2Proof.Tests
open Sys2Proof Sys2Proof.Machine

/-! ## Helpers -/

/-- The state after a command. -/
def after (c : Instr) (s : State) : State :=
  match exec c s with
  | .next t => t
  | .fault _ => s
  | .refused _ => s

/-- The status of the reply owed. -/
def status (s : State) : Option Status := s.link.reply.map (fun r => r.status)

/-- A drive channel with mean 100, park 40 and slew limit 64. -/
def chan0 : ChannelRec :=
  { enabled := 1, holdOutPermitted := 1, mean := 100, park := 40, lo := BitVec.ofInt 16 (-30000), hi := 30000, slew := 64 }

/-- Monitor 0: feedback channel 3, -2,000 to 2,000, F = 3, class PAUSE, SELF_CLEARING, owned by channel 0. -/
def mon0 : MonitorRec :=
  { enabled := 1, feedback := 3, low := BitVec.ofInt 16 (-2000), high := 2000, filter := 3, cls := 1, latching := 0, owner := 0 }

/-- An image with channel 0 enabled and monitor 0 watching. -/
def img : Image :=
  { factoryImage with
    general := { factoryGeneral with heartbeatEnable := 1, captureSet := 9 }
    channels := tset factoryImage.channels 0 chan0
    monitors := tset factoryImage.monitors 0 mon0 }

/-- The device in CONFIG with that image pending and PERMIT high. -/
def configuring : State :=
  { State.reset with
    permit := { raw := .high, filtered := .high, timer := false }
    config := { ConfigStore.atReset with mode := .config, timer := some 100, pending := img } }

/-- The device in ACTIVE with that image, channel 0 at its park value. -/
def act : State :=
  { State.reset with
    permit := { raw := .high, filtered := .high, timer := false }
    config := { ConfigStore.atReset with mode := .active, pending := img, active := some img }
    faults := { FaultTable.atReset with entries := reclassify img FaultTable.atReset.entries }
    monitors := tmk 32 (fun k => { record := tget img.monitors k, tripped := false, outside := 0, inside := 0 })
    pipeline := { Pipeline.atReset with
      channels := tset Pipeline.atReset.channels 0 { DriveChannel.atReset with previous := some 40 } } }

/-- A run state in ACTIVE, its pressure high. -/
def inRun (r : RunState) : State := { act with run := { act.run with state := r, pressure := .high } }

/-- A source made active with a class. -/
def withSource (k : Nat) (c : FaultClass) (s : State) : State :=
  let e := tset s.faults.entries k { active := true, subject := 0, cls := c, latched := true }
  { s with faults := { entries := e, action := effectiveAction e, faultN := faultLine e } }

/-- Segment data: channel 0, four drive frames in page 0. -/
def data0 : SegData := { channels := 1, frames := 4, ratio := 1, pages := [0], expected := 0, dataCrc := some 0 }

/-- Segment 5 in a state, with that data. -/
def withSeg (st : SegState) (repl : Option Replacement) (s : State) : State :=
  { s with
    segments := tset s.segments 5 { state := st, data := data0, doubleErrors := 0, inPlay := false, repl := repl }
    pool := (List.range 512).drop 1 }

/-- A PLAY of segment 5. -/
def entry0 : PlayEntry := { seg := 5, gain := 16384, range := none, edge := .tapered, capture := true }

/-- That play's parameters. -/
def play0 : PlayParams := playParams 0 entry0 false data0

/-- A capture record of that play. -/
def record0 : CaptureRecord :=
  { entry := 0, ordinal := 1, seg := 5, channels := 9, frames := 4, pages := [1], state := .filling, endedEarly := false,
    damaged := false }

/-- The capture slots with a record in slot 0. -/
def withRecord (r : CaptureRecord) (current : Option Nat) (s : State) : State :=
  { s with
    capture := { slots := tset s.capture.slots 0 (some r), current := current, ops := [], writing := none, closing := false }
    pool := (List.range 512).drop 2 }

/-- The play of segment 5 in progress, in a run state, with a capture record. -/
def playing (r : RunState) : State :=
  let s := withRecord record0 (some 0) (withSeg .ready none (inRun r))
  { s with
    schedule := [.play entry0]
    sequencer := { Sequencer.atReset with
      phase := .inEntry, entry := some 0, position := 1
      fetch := { samples := [(0, 5), (1, 6), (2, 7), (3, 8)], nextWord := 1, dueWord := 1 } }
    pipeline := { s.pipeline with params := some (.play play0), taper := 1 }
    summaries := { (openSummary 0 5 s).summaries with queue := [] } }

/-- A request in hand. -/
def inHand (kind : Byte) (job : LinkJob) (s : State) : State :=
  { s with link := { s.link with inHand := some { kind := kind, tag := 7, job := job } } }

/-- A grant. -/
def granting (r : Requestor) (op : MemOp) (s : State) : State :=
  { s with arbiter := { s.arbiter with granted := some { requestor := r, op := op, live := true } } }

/-- PAUSED by monitor 0, whose next value inside untrips it, before a PLAY of segment 5 with the first sample 5. -/
def untripping : State :=
  let s := withSource 0 .pause (withSeg .ready none (inRun .paused))
  { s with
    schedule := [.play entry0]
    sequencer := { Sequencer.atReset with phase := .awaiting }
    store := { Store.cleared with cells := [(0, 5)] }
    run := { s.run with sources := [0] }
    faults := { s.faults with entries := tset s.faults.entries 0 { source s 0 with latched := false }, faultN := .high }
    monitors := tset s.monitors 0 { record := mon0, tripped := true, outside := 0, inside := 2 }
    rig := { s.rig with window := some { frame := 0, bytes := [], corrupt := false, good := false, inStay := true } } }

/-- A summary to read. -/
def summary0 : Summary :=
  { ordinal := 1, playFrames := 0, counter := 0, entry := 0, seg := 5, captureId := none, aborted := true,
    noSamples := true, joined := false, drive := tmk 16 (fun _ => default), feedback := tmk 32 (fun _ => default) }

/-- An event record. -/
def event0 : EventRecord := { seq := 200, stamp := 0, kind := .mark, subject := 1, value := 0 }

/-! ## Well-formedness: each check refuses an ill-formed command -/

theorem test_wf_response_low_stop : (Instr.responseFrame [] (some 0)).wellFormed = false := rfl
theorem test_wf_frame_low_stop : (Instr.requestFrameDiscarded [1] (some 1)).wellFormed = false := rfl
theorem test_wf_read_back_length : (Instr.configSaveEnd [0]).wellFormed = false := rfl
theorem test_wf_known_kind : (Instr.unknownRequest 0x70 0 []).wellFormed = false := rfl
theorem test_wf_unknown_kind : (Instr.unknownRequest 0x71 0 []).wellFormed = true := rfl
theorem test_wf_body_limit : (Instr.segData 0 (List.replicate 1041 0)).wellFormed = false := by decide +kernel
theorem test_wf_body_within : (Instr.segData 0 (List.replicate 1040 0)).wellFormed = true := by decide +kernel
theorem test_wf_open_flag : (Instr.segOpen 0 [0, 0, 0, 0, 0, 0, 0, 0, 1]).wellFormed = false := rfl
theorem test_wf_open_replace_flag : (Instr.segOpenReplace 0 [0, 0, 0, 0, 0, 0, 0, 0, 0]).wellFormed = false := rfl

/-! ## The manual's worked cases -/

/-- R2: the check values over "123456789". -/
theorem test_crc16_check : crc16 [49, 50, 51, 52, 53, 54, 55, 56, 57] = 0x29B1#16 := by decide +kernel
theorem test_crc32_check :
    crc32Final ([49, 50, 51, 52, 53, 54, 55, 56, 57].foldl crc32Byte crc32Init) = 0xCBF43926#32 := by decide +kernel

/-- 04, worked case: one played sample. -/
theorem test_played_sample :
    interpolate 1200 (-403) 1 4 = 799 ∧ gainStage 799 20480 = 999 ∧ taperFactor 750 1000 = 768 ∧
      taperStage 999 768 = 749 ∧
      slewStage { chan0 with slew := 40 } (-1700) (clampStage chan0 (-2500 + 749)) = -1740 := by decide +kernel

/-- 04, worked case: the clamp at the extremes. -/
theorem test_clamp_extremes :
    gainStage (-32768) 65535 = -131070 ∧ taperStage (-131070) 1024 = -131070 ∧
      slewStage chan0 (-29980) (clampStage chan0 (-2500 + -131070)) = -30000 := by decide +kernel

/-- 04, a short tapered entry: the counter's rule at P = 6, Nt = 4. -/
theorem test_taper_triangle :
    [(0, 4), (1, 3), (2, 2), (2, 1), (1, 0)].map (fun x => risingTaper x.1 4 (some x.2)) = [1, 2, 2, 1, 0] := by decide

/-- 01, pool allocation: the pages needed in steps 1 and 3, and the lowest pages. -/
theorem test_pages_needed : pagesNeeded 0x1089 20000 = 3 ∧ pagesNeeded 0xFFFF 65536 = 32 := by decide +kernel
theorem test_pool_lowest :
    (allocateBlock 3 State.reset).map (fun x => x.1) = some [0, 1, 2] ∧
      ((releasePages [0, 1, 2] { State.reset with pool := (List.range 512).drop 37 }).pool.take 4) = [0, 1, 2, 37] := by
  decide +kernel

/-- 01, locating a sample: rank 2, offset 40,002, store word 10,000. -/
theorem test_locating_sample :
    10000 * maskCount (0x1089 : BitVec 16) + maskRank (0x1089 : BitVec 16) 7 = 40002 ∧ wordOf [0, 1, 2] (40002 / 4) = 10000 := by
  decide +kernel

/-- 01, a write that meets a double error: the first run is split, its first word partial; the second is whole. -/
theorem test_run_split :
    (runOps [0] 2402 [1, 2, 3, 4, 5, 6]).map (fun op => match op with
      | .write w l => (w, isWhole l)
      | _ => (0, false)) = [(600, false), (601, true)] ∧
    (runOps [0] 2400 [1, 2, 3, 4, 5, 6, 7, 8]).map (fun op => match op with
      | .write w l => (w, isWhole l)
      | _ => (0, false)) = [(600, true), (601, true)] := by decide +kernel

/-- 03, nested loops: how a REPEAT with remaining 2 and one with remaining 0 pass. -/
theorem test_repeat_passes :
    passRepeat 2 1 3 2 [.mark 1, .mark 2, .rep 1 3 2] = (1, [.mark 1, .mark 2, .rep 1 3 1]) ∧
      passRepeat 2 1 3 0 [.mark 1, .mark 2, .rep 1 3 0] = (3, [.mark 1, .mark 2, .rep 1 3 2]) := by decide

/-- 07, filter counting: deliveries 1 to 7 of the worked sequence. -/
theorem test_filter_counting :
    let m : Monitor := { record := mon0, tripped := false, outside := 0, inside := 3 }
    let n := [1850, 2040, 2110, 1990, 2200, 2260, 2180].foldl (fun m v => countValue v m) m
    n.outside = 3 ∧ n.inside = 0 ∧ verdict false n = .trips := by decide +kernel

/-- 08, one summary: feedback values 100, -300, 250, 0. -/
theorem test_mean_square :
    closeStat 4 (([100, -300, 250, 0] : List Sample).foldl (fun f v => accumulateStat v f) .none) =
      { least := -300, greatest := 250, meanSquare := 40625 } := by decide +kernel

/-- R192: a HEARTBEAT request of tag 9; its CRC is computed by hand from R2's parameters. -/
theorem test_request_frame :
    requestFrame 0x70 9 [] = [0xA7, 0x70, 9, 0, 0, 0x24, 0x58] ∧
      frameFails [0x70, 9, 0, 0, 0x24, 0x59] none = true := by decide +kernel

/-- R179: the serialization takes 533 bytes. -/
theorem test_image_length : (imageBytes img).length = 533 := by decide +kernel

/-! ## One step per command -/

theorem test_power_on : (after .powerOn act).life = .startUp .powerOn ∧ (after .powerOn act).config.mode = .idle := by
  decide +kernel
theorem test_reset_n_low : (after .resetNLow act).life = .held .warm ∧ (after .resetNLow act).cause = .line := by
  decide +kernel
theorem test_reset_n_high :
    (after .resetNHigh { State.reset with life := .held .warm, resetN := .low }).life = .startUp .warm := by decide +kernel
theorem test_start_up_end : (after .startUpEnd { State.reset with life := .startUp .warm }).config.origin = .factory := by
  decide +kernel
theorem test_frame_boundary : (after (.frameBoundary false) act).timebase.counter = 1 := by decide +kernel
/-- R12, R72, R117: a miss taken first untrips a PAUSE monitor, and the play it starts has its first sample, 5. -/
theorem test_miss_starts_play :
    (tget (after (.frameBoundary true) untripping).pipeline.channels 0).held = 5 := by decide +kernel
theorem test_response_frame :
    let b : List Byte := le16 4 ++ List.replicate 66 9
    let s := { act with rig := { act.rig with
      window := some { frame := 4, bytes := [], corrupt := false, good := false, inStay := true }, misses := 2 } }
    tget (after (.responseFrame (b ++ le16 (crc16 b)) none) s).rig.feedback 31 = 0x0909 := by decide +kernel
theorem test_permit_change : (after .permitLineChange act).permit.timer = true := by decide +kernel
theorem test_permit_expiry :
    (after .permitFilterExpiry { inRun .running with permit := { raw := .low, filtered := .high, timer := true } }).run.state
      = .frozen := by decide +kernel
theorem test_window_open :
    (after .heartbeatWindowOpen { act with supervisor := { running := true, windowOpen := false, loop := 0 } }).supervisor
      = { running := true, windowOpen := true, loop := 0 } := by decide +kernel
theorem test_period_expiry :
    (after .heartbeatPeriodExpiry { act with supervisor := { running := true, windowOpen := true, loop := 3 } }).supervisor.loop
      = 4 := by decide +kernel
theorem test_grace : (after .readyGraceExpiry { act with run := { act.run with grace := .counting } }).run.grace = .elapsed := by
  decide +kernel
theorem test_unload_delay :
    (after .unloadDelayExpiry { act with run := { (inRun .unloading).run with unload := .inUnloading } }).run.state = .stopped := by
  decide +kernel
theorem test_stopped_delay :
    (after .stoppedUnloadDelayExpiry { act with run := { (inRun .stopped).run with unload := .inStopped } }).run.pressure = .low := by
  decide +kernel
theorem test_config_timer : (after .configTimerExpiry configuring).config.mode = .locked := by decide +kernel
theorem test_save_end :
    (after (.configSaveEnd (imageBytes img)) { act with config := { act.config with save := some (imageBytes img) } }).config.stored.valid
      = true := by decide +kernel
theorem test_memory_read :
    (after (.memoryRead .corrected) (granting .link (.read 7 0 .verify) State.reset)).store.corrected = 1 := by decide +kernel
theorem test_whole_write :
    sampleAt (after .wholeWordWrite (granting .link (.write 7 [(0, 1), (1, 2), (2, 3), (3, 4)]) State.reset)).store 30 = 3 := by
  decide +kernel
theorem test_partial_write :
    sampleAt (after (.partialWordWrite .uncorrectable) (granting .link (.write 7 [(0, 1)]) State.reset)).store 28 = 0 := by
  decide +kernel
theorem test_scrub :
    markOf (after (.scrub .uncorrectable) (granting .scrub (.scrub 0 9) State.reset)).store 9 = .uncorrectable := by decide +kernel
/-- R192: the HEARTBEAT frame of tag 9 with its CRC's high byte changed fails; its first bytes alone are collected. -/
theorem test_frame_discarded :
    (after (.requestFrameDiscarded [0, 0, 0x24, 0x59] none) (after (.requestFrameDiscarded [0x70, 9] none)
      (after .frameMarker State.reset))).link = { ControlLink.atReset with badFrames := 1 } := by decide +kernel
theorem test_frame_collected :
    (after (.requestFrameDiscarded [0x70, 9] none) (after .frameMarker State.reset)).link.collected = [0x70, 9] := by
  decide +kernel
theorem test_byte_gap :
    (after .controlByteGap { State.reset with link := { State.reset.link with assembly := .assembling } }).link.badFrames = 1 := by
  decide +kernel
theorem test_unknown : status (after (.unknownRequest 0x71 7 []) act) = some .unknown := by decide +kernel
theorem test_busy : (after (.busyRequest 0x40 9) (inHand 1 .answered act)).link.busy = [(0x40, 9)] := by decide +kernel
theorem test_reply_sent : (after .replySent (after (.identify 7 []) act)).link.inHand = none := by decide +kernel
/-- 11, steps 5 and 6: the STATUS reply leaves first, and the BUSY reply that follows it sets the interface free. -/
theorem test_replies_one_by_one :
    let s := after .replySent (after (.eventsRead 18 [8]) (after (.identify 17 []) act))
    occupied s = true ∧ linkFree (after .replySent s) = true := by decide +kernel
theorem test_identify_length : status (after (.identify 7 [1]) act) = some .badLength := by decide +kernel
theorem test_status : status (after (.frameBoundary true) (after (.status 7 []) act)) = some .ok := by decide +kernel
theorem test_events_read : status (after (.eventsRead 7 [8]) act) = some .notFound := by decide +kernel
theorem test_reset : (after .replySent (after (.reset 7 []) act)).cause = .request := by decide +kernel
theorem test_config_write :
    (after (.configWrite 7 [3, 0, 1, 1, 1, 1, 1]) State.reset).config.pending.classes.memory = 1 := by decide +kernel
theorem test_config_read : status (after (.configRead 7 [1, 0, 1]) State.reset) = some .notFound := by decide +kernel
theorem test_config_commit_crc :
    status (after (.configCommit 7 [0, 0]) { State.reset with config := { ConfigStore.atReset with mode := .active } }) =
      some .wrongState := by decide +kernel
theorem test_config_save : status (after (.configSave 7 []) act) = some .accepted := by decide +kernel
theorem test_seg_open :
    (descriptor (after (.segOpen 7 [5, 0x89, 0x10, 0x20, 0x4E, 0, 0, 1, 0]) act) 5).data.pages = [0, 1, 2] := by decide +kernel
theorem test_seg_open_replace :
    status (after (.segOpenReplace 7 [5, 1, 0, 4, 0, 0, 0, 1, 1]) act) = some .wrongState := by decide +kernel
theorem test_seg_data :
    (after (.segData 7 [5, 0, 0, 0, 0, 9, 0]) (withSeg .loading none act)).arbiter.granted =
      some { requestor := .link, op := .write 0 [(0, 9)], live := true } := by decide +kernel
theorem test_seg_close :
    (after (.segClose 7 [5, 1, 0, 0, 0]) (withSeg .loading none act)).verifier.queue = [{ seg := 5, repl := false }] := by
  decide +kernel
theorem test_seg_abandon : (after (.segAbandon 7 [5]) (withSeg .loading none act)).pool.length = 512 := by decide +kernel
theorem test_seg_free : (descriptor (after (.segFree 7 [5]) (withSeg .ready none act)) 5).state = .empty := by decide +kernel
theorem test_seg_query : status (after (.segQuery 7 [64]) act) = some .badValue := by decide +kernel
theorem test_sched_append :
    (after (.schedAppend 7 [3, 0, 7, 0, 0, 0, 0, 0, 0, 0, 0, 0, 0, 0, 0, 0]) act).schedule = [.mark 7] := by decide +kernel
theorem test_sched_truncate : status (after (.schedTruncate 7 [0, 0]) (playing .running)) = some .inUse := by decide +kernel
theorem test_sched_clear : status (after (.schedClear 7 []) (playing .running)) = some .wrongState := by decide +kernel
theorem test_sched_read : status (after (.schedRead 7 [0, 0, 1]) act) = some .notFound := by decide +kernel
theorem test_run_start :
    (after (.runStart 7 [0, 0]) { inRun .stopped with schedule := [.dwell 3] }).run.state = .starting := by decide +kernel
theorem test_run_pause : (after (.runPause 7 []) (playing .running)).run.state = .pausing := by decide +kernel
theorem test_run_resume :
    (after (.runResume 7 []) { playing .pausing with run := { (inRun .pausing).run with host := true } }).run.state = .running := by
  decide +kernel
theorem test_run_stop : (after (.runStop 7 []) (playing .running)).run.state = .parking := by decide +kernel
theorem test_run_unload : (after (.runUnload 7 []) (inRun .parking)).run.state = .unloading := by decide +kernel
theorem test_pressure_on : (after (.pressureOn 7 []) act).run.grace = .counting := by decide +kernel
theorem test_pressure_off : (after (.pressureOff 7 []) (inRun .stopped)).run.pressure = .low := by decide +kernel
theorem test_hold_out : (after (.holdOut 7 [0]) act).run.holdOut = [0] := by decide +kernel
theorem test_restore :
    (after (.restore 7 [0]) { act with run := { act.run with holdOut := [0] } }).run.holdOut = [] := by decide +kernel
theorem test_clear_faults :
    (source (after (.clearFaults 7 []) (withSource 36 .note act)) 36).active = false := by decide +kernel
theorem test_faults_read : status (after (.faultsRead 7 []) act) = some .ok := by decide +kernel
theorem test_capture_list : status (after (.captureList 7 []) act) = some .ok := by decide +kernel
theorem test_capture_read : status (after (.captureRead 7 [0, 0, 0, 0, 0, 1, 0]) act) = some .notFound := by decide +kernel
theorem test_capture_free :
    (after (.captureFree 7 [0]) (withRecord { record0 with state := .complete } none act)).pool.length = 511 := by decide +kernel
theorem test_summary_read : status (after (.summaryRead 7 []) act) = some .notFound := by decide +kernel
theorem test_heartbeat :
    (after (.heartbeat 7 []) { act with supervisor := { running := true, windowOpen := true, loop := 4 } }).supervisor.loop = 3 := by
  decide +kernel
theorem test_frame_marker : (after .frameMarker State.reset).link.assembly = .assembling := by decide +kernel
theorem test_supply_loss : (after .supplyLoss (inRun .running)).run.pressure = .low := by decide +kernel

/-! ## Witnesses: a state and operands that meet each statement's hypotheses, clause by clause -/

/-- A state held in reset, in start-up, or without supply. -/
def standing (l : Life) : State := { State.reset with life := l }

theorem holds_StepTakesFrontCommand :
    ({ State.reset with pending := [.powerOn] } : State).pending = .powerOn :: [] ∧ State.reset.pending = [] := ⟨rfl, rfl⟩

theorem holds_PowerOnClearsSupplyLossStops : State.reset.life ≠ .off ∧ (standing .off).life = .off := by decide

theorem holds_ResetLineAndStartUp :
    (State.reset.resetN = .high ∧ State.reset.life = .up) ∧
    ((standing (.startUp .powerOn)).resetN = .high ∧ (standing (.startUp .powerOn)).life = .startUp .powerOn) ∧
    ((standing .off).resetN = .high ∧ (standing .off).life = .off) ∧
    ({ State.reset with resetN := .low } : State).resetN = .low ∧ (standing (.held .warm)).life = .held .warm ∧
    (∀ k, State.reset.life ≠ .held k) ∧ (∀ k, State.reset.life ≠ .startUp k) :=
  ⟨by decide, by decide, by decide, by decide, by decide, (fun k h => nomatch (show Life.up = Life.held k from h)),
    (fun k h => nomatch (show Life.up = Life.startUp k from h))⟩



theorem holds_FramesAreJudgedAndCounted :
    (State.reset.life = .up ∧ State.reset.link.assembly = .hunting) ∧
    (after .frameMarker State.reset).link.assembly = .assembling ∧ (standing .off).life ≠ .up ∧
    (frameFails [0, 0, 0x11, 4] none = true ∧ frameFails [0, 0, 0x10, 4] none = false ∧
      (le16At [0, 0, 0x10, 4] 2).toNat = 1040 ∧ frameFails (requestFrame 0x70 9 []).tail none = false ∧
      6 + (le16At (requestFrame 0x70 9 []).tail 2).toNat = (requestFrame 0x70 9 []).tail.length) ∧
    (List.replicate 1040 (0 : Byte)).length ≤ 1040 ∧ 1040 < (1041 : BitVec 16).toNat ∧
    (6 < frameEnd (requestFrame 0x01 7 [9]).tail ∧ ¬ 7 < frameEnd (requestFrame 0x01 7 [9]).tail) ∧
    (requestOf (.identify 1 []) = some (0x01, 1, []) ∧ (inHand 1 .answered act).life = .up ∧
      occupied (inHand 1 .answered act) = true ∧ 1040 < (List.replicate 1041 (0 : Byte)).length) ∧
    (requestOf (.segData 1 []) = some (0x21, 1, []) ∧ (standing (.startUp .warm)).life ≠ .up) := by decide +kernel

theorem holds_UnfitRequestsChangeNothing :
    (linkFree act = true ∧ (List.replicate 1040 (0 : Byte)).length ≤ 1040 ∧ (0x71 : Byte) ∉ requestKinds) ∧
    (act.config.mode ≠ .locked ∧ act.config.timer = none) ∧
    (configuring.config.mode ≠ .locked ∧ configuring.config.timer = some 100 ∧ linkFree configuring = true) ∧
    (∀ n, n ∈ [0, 1, 2, 3, 5, 7, 9] → (List.replicate 4 (0 : Byte)).length ≠ n) ∧
    (∀ n, n ∈ [1, 3, 5, 1030, 1031] → (List.replicate n (0 : Byte)).length < 7 ∨
      1029 < (List.replicate n (0 : Byte)).length ∨ (List.replicate n (0 : Byte)).length % 2 = 0) ∧
    (∀ n, n ∈ [15, 17, 129] → (List.replicate n (0 : Byte)).length < 16 ∨
      128 < (List.replicate n (0 : Byte)).length ∨ (List.replicate n (0 : Byte)).length % 16 ≠ 0) ∧
    recordLength (byteAt [3, 0] 0) = some 5 ∧ recordLength (byteAt [] 0) = some 16 ∧ recordLength (byteAt [4] 0) = none := by
  decide +kernel

theorem holds_ReplySentFreesOrResets :
    (let s := after (.busyRequest 0x40 9) (after (.identify 7 []) act)
     s.life = .up ∧ s.link.reply ≠ none ∧ ∀ h, s.link.inHand = some h → h.job ≠ .resetAfter) ∧
    (let s := after .replySent (after (.busyRequest 0x40 9) (after (.identify 7 []) act))
     s.life = .up ∧ s.link.inHand = none ∧ s.link.reply = none ∧ s.link.busy.length = 1) ∧
    (let s := inHand 0x61 .answered act
     s.link.inHand ≠ none ∧ s.link.reply = none) ∧
    (let s := after (.reset 7 []) act
     s.life = .up ∧ s.link.inHand = some { kind := 4, tag := 7, job := .resetAfter } ∧ s.link.reply ≠ none) ∧
    linkFree act = true ∧ (standing .off).life ≠ .up := by
  refine ⟨⟨by decide +kernel, by decide +kernel, ?_⟩, by decide +kernel, by decide +kernel, by decide +kernel,
    by decide +kernel, by decide⟩
  intro h e
  have : (after (.busyRequest 0x40 9) (after (.identify 7 []) act)).link.inHand =
    some { kind := 1, tag := 7, job := .answered } := by decide +kernel
  rw [this] at e; cases e; decide

theorem holds_StatusSnapshotMatchesFrame :
    linkFree act = true ∧ act.life = .up ∧
      (inHand 2 .awaitSnapshot act).link.inHand = some { kind := 0x02, tag := 7, job := .awaitSnapshot } ∧
      (act.rig.window = none ∧ act.capture.ops = [] ∧ act.pipeline.params = none) ∧
      (playing .running).sequencer.fetch.dueWord ≤ (playing .running).sequencer.fetch.nextWord := by
  decide +kernel

/-- Nothing is due where no play is in force and no capture frame is in hand. -/
theorem nothingDue_idle {s : State} (ho : s.capture.ops = []) (hp : s.pipeline.params = none) : nothingDue s :=
  ⟨ho, fun p h => by rw [hp] at h; cases h⟩

/-- Nothing is due where no capture frame is in hand and the play's reads are made. -/
theorem nothingDue_read {s : State} (ho : s.capture.ops = []) (h : s.sequencer.fetch.dueWord ≤ s.sequencer.fetch.nextWord) :
    nothingDue s := ⟨ho, fun _ _ => h⟩

/-- No miss is closed where no window is open. -/
theorem closesNoMiss_none {s : State} (h : s.rig.window = none) : closesNoMiss s := fun w e => by rw [h] at e; cases e

theorem holds_ReadRequestsReportState :
    linkFree act = true ∧ (63 : Byte).toNat ≤ 63 ∧ 63 < (64 : Byte).toNat := by decide +kernel

theorem holds_QueuesKeepNewestGiveOldest :
    (let s := { State.reset with
        events := { EventQueue.atReset with records := List.replicate 64 event0 }
        summaries := { Summaries.atReset with queue := List.replicate 16 summary0 } }
     s.events.records.length = 64 ∧ s.summaries.queue.length = 16) ∧
    (let s := { State.reset with events := { EventQueue.atReset with records := [event0] } }
     linkFree s = true ∧ 1 ≤ (8 : Byte).toNat ∧ (8 : Byte).toNat ≤ 8 ∧ s.events.records ≠ []) ∧
    8 < (9 : Byte).toNat ∧ State.reset.events.records = [] ∧
    (let s := { State.reset with summaries := { Summaries.atReset with queue := [summary0] } }
     linkFree s = true ∧ s.summaries.queue = summary0 :: []) ∧ State.reset.summaries.queue = [] := by decide +kernel

/-- The supervisor running in ACTIVE, its window open or not, at a loop counter. -/
def beating (isOpen : Bool) (n : Nat) : State :=
  { act with supervisor := { running := true, windowOpen := isOpen, loop := n } }

theorem holds_BeatsAreJudgedByWindow :
    (linkFree (beating true 0) = true ∧ (beating true 0).supervisor.running = true ∧
      (beating true 0).supervisor.windowOpen = true) ∧
    (linkFree act = true ∧ act.supervisor.running = false) ∧
    (linkFree (beating false 2) = true ∧ (beating false 2).supervisor.windowOpen = false ∧
      (beating false 2).supervisor.loop + 1 < (general (beating false 2)).loopLimit.toNat) ∧
    ((beating false 3).config.mode = .active ∧ linkFree (beating false 3) = true ∧
      (beating false 3).supervisor.windowOpen = false ∧
      (beating false 3).supervisor.loop + 1 = (general (beating false 3)).loopLimit.toNat ∧
      (beating false 4).supervisor.loop = (general (beating false 4)).loopLimit.toNat) := by decide +kernel

/-- A CONFIG_WRITE body: the FAULT_CLASS record. -/
def classBody : List Byte := [3, 0, 1, 1, 1, 1, 1]

theorem holds_ConfigWriteReplacesRecord :
    linkFree State.reset = true ∧ recordLength (byteAt classBody 0) = some 5 ∧ classBody.length = 2 + 5 ∧
    selectorOf (byteAt classBody 0) (byteAt classBody 1) = some .faultClass ∧ State.reset.config.mode = .idle ∧
    State.reset.config.timer = none ∧ linkFree configuring = true ∧ configuring.config.mode = .config ∧
    configuring.config.timer = some 100 ∧ selectorOf 2 31 = some (.monitor 31) ∧ recordLength 2 = some 10 := by
  decide +kernel

theorem holds_ConfigWriteLeavesActive :
    linkFree act = true ∧ act.config.mode = .active ∧ act.config.active = some img ∧ act.config.timer = none ∧
    (act.run.state = .stopped ∧ act.run.pressure = .low) ∧ (inRun .stopped).run.pressure = .high ∧
    (inRun .stopped).config.active = some img := by decide +kernel

theorem holds_RecordsAndImagesReadBack :
    (linkFree act = true ∧ act.config.mode ≠ .locked ∧ selectorOf 1 15 = some (.channel 15) ∧ act.config.timer = none) ∧
    (linkFree configuring = true ∧ configuring.config.mode ≠ .locked ∧ configuring.config.timer = some 100) ∧
    (recordLength (byteAt classBody 0) = some 5 ∧ classBody.length = 2 + 5 ∧
      selectorOf (byteAt classBody 0) 0 = some .faultClass ∧ Selector.general ≠ .faultClass) := by decide +kernel

theorem another_crc (x : BitVec 16) : x + 1 ≠ x := by
  intro h
  have h := congrArg BitVec.toNat h
  rw [BitVec.toNat_add] at h
  have := x.isLt
  simp at h
  omega

theorem holds_CommitDecidesByImage :
    (linkFree configuring = true ∧ configuring.config.mode = .config ∧ configuring.config.timer = some 100 ∧
      commitFailure configuring.config.pending = none ∧ (∀ k, k < 38 → (source configuring k).active = false) ∧
      configuring.permit.filtered = .high) ∧
    (linkFree State.reset = true ∧ State.reset.config.mode = .idle ∧ State.reset.config.timer = none) ∧
    crc16 (imageBytes configuring.config.pending) + 1 ≠ crc16 (imageBytes configuring.config.pending) ∧
    commitFailure { img with general := { img.general with nt := 15 } } = some { selector := 0, index := 0, offset := 2 } ∧
    commitFailure { img with general := { img.general with nt := 16 } } = none ∧
    (source (withSource 34 .stop configuring) 34).active = true ∧
    (source (withSource 34 .stop configuring) 35).active = false ∧
    (withSource 34 .stop configuring).pipeline.params = none ∧
    (withSource 34 .stop configuring).sequencer.joinPending = false ∧
    (act.config.mode = .active ∧ act.config.timer = none) :=
  ⟨by decide +kernel, by decide +kernel, another_crc _, by decide +kernel⟩

/-- The device in LOCKED. -/
def lockedDevice : State := after .configTimerExpiry configuring

theorem holds_TimerExpiryLocksConfiguration :
    (configuring.config.mode = .config ∧ configuring.config.timer = some 100) ∧ act.config.mode ≠ .config ∧
    (linkFree lockedDevice = true ∧ (List.replicate 1040 (0 : Byte)).length ≤ 1040 ∧ lockedDevice.config.mode = .locked ∧ lockedDevice.config.timer = none) ∧
    (linkFree State.reset = true ∧ State.reset.config.mode ≠ .locked ∧ State.reset.config.timer = none ∧
      selectorOf 1 16 = none) ∧
    (configuring.config.mode ≠ .locked ∧ configuring.config.timer = some 100 ∧ recordLength 1 = some 12 ∧
      (1 :: 16 :: List.replicate 12 (0 : Byte)).length = 2 + 12) := by decide +kernel

theorem holds_SaveWritesActiveImage :
    (linkFree act = true ∧ act.config.timer = none ∧ act.config.mode = .active ∧ act.config.active = some img ∧
      act.config.save = none) ∧
    (after (.configSave 7 []) act).config.save = some (imageBytes img) ∧ State.reset.config.mode ≠ .active ∧
    (linkFree configuring = true ∧ configuring.config.mode = .config ∧ configuring.config.timer = some 100) ∧
    (([1, 2] : List Byte).length = ([1, 3] : List Byte).length ∧ ([1, 2] : List Byte).take 1 = ([1, 3] : List Byte).take 1 ∧
      ([1, 2] : List Byte).getD 1 0 ≠ ([1, 3] : List Byte).getD 1 0) := by decide +kernel

theorem holds_WordOperationsKeepStore :
    let st : Store := { cells := [(28, 5)], marks := [(7, .corrected), (8, .uncorrectable)], corrected := 0 }
    let lanes : List (Nat × Sample) := [(0, 1), (3, 2)]
    st.wf = true ∧ (lanes.map Prod.fst).Nodup ∧ (∀ l, l ∈ lanes → l.1 < 4) ∧ outcomeAt st 7 .clean = .corrected ∧
    outcomeAt st 8 .clean = .uncorrectable ∧ outcomeAt st 9 .clean = .clean := by decide +kernel

theorem holds_RunWritesItsOffsetsOnly :
    Store.cleared.wf = true ∧ ([0, 3] : List Nat).Nodup ∧ ([1, 2] : List Sample) ≠ [] ∧
    65534 + ([1, 2] : List Sample).length ≤ 32768 * ([0, 3] : List Nat).length ∧
    ∀ w, markOf Store.cleared w ≠ .uncorrectable :=
  ⟨rfl, by decide, by decide, by decide, fun _ => by simp [markOf, Store.cleared, assocGet]⟩

theorem holds_ArbiterGrantsByPriority :
    (granting .link (.write 7 []) act).life = .up ∧ act.life = .up ∧ act.arbiter.granted = none ∧
    (let s := playing .running
     let due := { s with sequencer := { s.sequencer with fetch := { s.sequencer.fetch with dueWord := 2 } } }
     due.pipeline.params = some (.play play0) ∧ due.sequencer.fetch.nextWord < due.sequencer.fetch.dueWord ∧
     ¬ s.sequencer.fetch.nextWord < s.sequencer.fetch.dueWord ∧ s.sequencer.lookahead = none) ∧
    (let l := resolve { playing .running with schedule := [.dwell 1, .play entry0] }
     l.prefetch.map (fun q => decide (q.nextWord < q.stopWord)) = some true) ∧
    (inHand 0x21 (.segData [.write 0 [(3, 9)]]) act).link.inHand =
      some { kind := 0x21, tag := 7, job := .segData [.write 0 [(3, 9)]] } ∧
    (slot (withRecord record0 none act) 0 = some record0 ∧ act.link.inHand = none) ∧
    (let s := { withRecord record0 none act with sweep := { page := 511, word := 3 } }
     s.sweep.page ∈ s.pool ∧ s.pool.Pairwise (· < ·) ∧ 0 ∉ s.pool ∧ (withRecord record0 none act).sweep.page ∉ s.pool) ∧
    (act.sweep.page ∈ act.pool ∧ act.pool.length = 512) := by decide +kernel

theorem holds_PoolGivesLowestPages :
    State.reset.pool.Pairwise (· < ·) ∧ (allocateBlock 512 State.reset).isSome = true ∧
    allocateBlock 513 State.reset = none ∧ (allocateOne State.reset).isSome = true ∧
    (let s := granting .scrub (.scrub 3 8191) State.reset
     s.arbiter.granted.map (fun g => opWord g.op / 8192) = some 3) := by
  refine ⟨?_, by decide +kernel, by decide +kernel, by decide +kernel, by decide +kernel⟩
  exact (show State.reset.pool = List.range 512 by simp only [State.reset]) ▸ List.pairwise_lt_range

theorem holds_CompletionsChangeStore :
    ((granting .link (.read 4194303 0 .verify) act).life = .up ∧ 4194303 < 4194304) ∧ ¬ 4194304 < 4194304 ∧
    (granting .link (.write 7 [(0, 1), (1, 1), (2, 1), (3, 1)]) act).life = .up ∧
    (granting .scrub (.scrub 511 8191) act).life = .up ∧
    outcomeAt act.store (8192 * 511 + 8191) .clean ≠ .uncorrectable ∧ act.arbiter.granted = none := by decide +kernel

/-- A SEG_OPEN body for segment 5, channel 0, with a frame count and a flag. -/
def openBody (frames : BitVec 32) (flag : Byte) : List Byte := [5, 1, 0] ++ le32 frames ++ [1, flag]

theorem holds_SegOpenTakesPages :
    (openBody 4 0).length = 9 ∧ 63 < (byteAt (64 :: (openBody 4 0).tail) 0).toNat ∧ (byteAt (openBody 4 0) 0).toNat ≤ 63 ∧ (byteAt (openBody 4 0) 8).getLsbD 0 = false ∧
    (byteAt (openBody 4 1) 8).getLsbD 0 = true ∧ linkFree act = true ∧
    (le16At (openBody 4 0) 1 ≠ 0 ∧ (le32At (openBody 4 0) 3).toNat = 4 ∧ (byteAt (openBody 4 0) 7).toNat ∈ [1, 2, 4, 8]) ∧
    ¬ 2 ≤ (le32At (openBody 1 0) 3).toNat ∧ (descriptor act 5).state = .empty ∧
    (descriptor (withSeg .loading none act) 5).state = .loading ∧ (descriptor (withSeg .ready none act) 5).state = .ready ∧
    (descriptor (withSeg .ready (some { state := .loading, data := data0 }) act) 5).repl ≠ none ∧
    1 ≤ act.pool.length ∧ ({ act with pool := [] } : State).pool.length < 1 := by decide +kernel

/-- A SEG_DATA body for segment 5 at an offset, one sample. -/
def dataBody (offset : Byte) : List Byte := [5, offset, 0, 0, 0, 9, 0]

theorem holds_SegDataWritesRun :
    (linkFree (withSeg .loading none act) = true ∧ 7 ≤ (dataBody 3).length ∧ (dataBody 3).length ≤ 1029 ∧
      (dataBody 3).length % 2 = 1 ∧ (byteAt (dataBody 3) 0).toNat ≤ 63) ∧
    63 < (byteAt (64 :: (dataBody 3).tail) 0).toNat ∧
    (descriptor (withSeg .loading none act) 5).repl = none ∧
    (descriptor (withSeg .ready (some { state := .loading, data := data0 }) act) 5).repl =
      some { state := .loading, data := data0 } ∧
    (let s := after (.segData 7 (dataBody 3)) (withSeg .loading none act)
     s.life = .up ∧ s.arbiter.granted = some { requestor := .link, op := .write 0 [(3, 9)], live := true } ∧
      s.link.inHand = some { kind := 0x21, tag := 7, job := .segData [.write 0 [(3, 9)]] }) := by decide +kernel

theorem holds_SegTargetsCloseAndGo :
    63 < (64 : Byte).toNat ∧ (5 : Byte).toNat ≤ 63 ∧ linkFree (withSeg .loading none act) = true ∧
    (descriptor (withSeg .loading none act) 5).state = .loading ∧
    (descriptor (withSeg .verifying none act) 5).state = .verifying ∧
    (source (withSeg .loading none act) 35).active = false ∧
    (withSeg .ready (some { state := .ready, data := data0 }) act).sequencer.lookahead = none ∧
    (descriptor (withSeg .ready (some { state := .verifying, data := data0 }) act) 5).repl =
      some { state := .verifying, data := data0 } ∧
    (descriptor (withSeg .ready (some { state := .loading, data := data0 }) act) 5).repl =
      some { state := .loading, data := data0 } ∧
    (descriptor (withSeg .ready none act) 5).state = .ready ∧
    references { withSeg .ready none act with schedule := [.play entry0] } 5 ≠ 0 ∧ references act 5 = 0 := by
  decide +kernel

/-- Segment 5 under verification, its one word's read granted. -/
def verifying0 : State :=
  { granting .link (.read 0 0 .verify) (withSeg .verifying none act) with
    verifier := { Verifier.idle with queue := [{ seg := 5, repl := false }] } }

/-- The segment data whose expected CRC is that of four samples 0. -/
def fitting : SegData := { data0 with expected := crc32Final (crc32Samples crc32Init [0, 0, 0, 0]) }

/-- A replacement of segment 5 under verification, its one word's read granted. -/
def verifyingRepl : State :=
  { granting .link (.read 0 0 .verify) (withSeg .ready (some { state := .verifying, data := fitting }) act) with
    verifier := { Verifier.idle with queue := [{ seg := 5, repl := true }] } }

theorem holds_VerificationJudgesTarget :
    verifying0.life = .up ∧ verifying0.sequencer.lookahead = none ∧ (source verifying0 35).active = false ∧
    verifying0.arbiter.granted = some { requestor := .link, op := .read 0 0 .verify, live := true } ∧
    verifying0.verifier.queue = [{ seg := 5, repl := false }] ∧
    outcomeAt verifying0.store 0 .uncorrectable = .uncorrectable ∧ outcomeAt verifying0.store 0 .clean ≠ .uncorrectable ∧
    (descriptor verifying0 5).data.count * (descriptor verifying0 5).data.frames ≤ 4 * (verifying0.verifier.nextWord + 1) ∧
    crc32Final (crc32Samples verifying0.verifier.crc [0, 0, 0, 0]) ≠ (descriptor verifying0 5).data.expected ∧
    (verifyingRepl.life = .up ∧ verifyingRepl.verifier.queue = [{ seg := 5, repl := true }] ∧
      (descriptor verifyingRepl 5).repl = some { state := .verifying, data := fitting } ∧
      (descriptor verifyingRepl 5).inPlay = false ∧
      verifyingRepl.arbiter.granted = some { requestor := .link, op := .read 0 0 .verify, live := true } ∧
      crc32Final (crc32Samples verifyingRepl.verifier.crc ((wordSamples verifyingRepl.store 0).take 4)) = fitting.expected) := by
  decide +kernel

/-- R31, R38: its verification ended well, that replacement is swapped in at once. -/
theorem test_replacement_ready :
    (after (.memoryRead .clean) verifyingRepl).events.records.map (fun r => r.kind) =
      [.segmentReady, .replacementApplied] := by decide +kernel

theorem holds_ScrubReportsToOwner :
    (let s := granting .scrub (.scrub 0 9) (withSeg .ready none act)
     s.life = .up ∧ s.sequencer.lookahead = none ∧ outcomeAt s.store (8192 * 0 + 9) .uncorrectable = .uncorrectable ∧
      ownerOf s 0 = some (.segment 5) ∧ (descriptor s 5).state = .ready) ∧
    ((descriptor (withSeg .damaged none act) 5).state ≠ .ready ∧ ownerOf (withSeg .damaged none act) 0 = some (.segment 5)) ∧
    (let s := withSeg .ready (some { state := .ready, data := { data0 with pages := [2] } }) act
     ownerOf s 2 = some (.replacement 5) ∧ (descriptor s 5).repl = some { state := .ready, data := { data0 with pages := [2] } }) ∧
    ownerOf (withSeg .ready (some { state := .loading, data := { data0 with pages := [2] } }) act) 2 =
      some (.replacement 5) ∧
    (let s := granting .scrub (.scrub 1 8191) (withRecord record0 none act)
     ownerOf s 1 = some (.capture 0) ∧ slot s 0 = some record0 ∧ record0.damaged = false) ∧
    ownerOf (withRecord { record0 with damaged := true } none act) 1 = some (.capture 0) ∧
    ownerOf act 511 = none := by decide +kernel

/-- A MARK entry as SCHED_APPEND lays it out. -/
def markBytes : List Byte := [3, 0, 7, 0, 0, 0, 0, 0, 0, 0, 0, 0, 0, 0, 0, 0]

set_option maxRecDepth 8000 in
theorem holds_SchedAppendAddsEntries :
    linkFree act = true ∧ act.sequencer.lookahead = none ∧ act.schedule.length < 256 ∧
    (List.replicate 8 (0 : Byte)).length = 8 ∧ (63 : Byte).toNat ≤ 63 ∧ 3 < (4 : Byte).toNat ∧
    (List.replicate 8 markBytes).flatten.length = 16 * 8 ∧
    appendedEntries (List.replicate 8 markBytes).flatten 0 = .ok (List.replicate 8 (.mark 7)) ∧
    appendedEntries (markBytes ++ 4 :: List.replicate 15 0) 0 = .error 1 := by
  refine ⟨by decide +kernel, by decide +kernel, by decide +kernel, by decide, by decide, by decide, by decide +kernel,
    rfl, rfl⟩

theorem holds_SchedTruncateAndClearSpareRun :
    linkFree act = true ∧ act.sequencer.lookahead = none ∧ act.schedule.length < (1 : BitVec 16).toNat ∧
    (linkFree (playing .running) = true ∧ (playing .running).sequencer.lookahead = none ∧
      (0 : BitVec 16).toNat ≤ (playing .running).sequencer.cursor ∧ (playing .running).run.state ≠ .stopped) ∧
    (¬ (1 : BitVec 16).toNat ≤ (playing .running).sequencer.cursor ∧
      (1 : BitVec 16).toNat ≤ (playing .running).schedule.length) := by decide +kernel

theorem holds_AdvanceEndsWithinItsSteps :
    256 ≤ 256 ∧ scheduleLaw [.dwell 1, .rep 0 65535 65534] = true := by decide +kernel

/-- A resumable run in PAUSED at index 0 of a schedule, SEGMENT_MISSING under a class. -/
def resumable (es : List Entry) (cls : FaultClass) : State :=
  let s := withSeg .ready none (inRun .paused)
  { s with
    schedule := es
    run := { s.run with host := true }
    sequencer := { Sequencer.atReset with phase := .awaiting }
    faults := { s.faults with entries := tset s.faults.entries 35 { active := false, subject := 0, cls := cls, latched := false } } }

/-- A run that waits in PAUSED at its PLAY of segment 5, whose verification is about to end well. -/
def waitingRun : State :=
  let s := withSource 35 .pause (withSeg .verifying none (inRun .paused))
  { granting .link (.read 0 0 .verify) s with
    segments := tset s.segments 5 { state := .verifying, data := fitting, doubleErrors := 0, inPlay := false, repl := none }
    verifier := { Verifier.idle with queue := [{ seg := 5, repl := false }] }
    schedule := [.play entry0]
    run := { s.run with sources := [35] }
    sequencer := { Sequencer.atReset with phase := .awaiting } }

theorem holds_EntriesStartByTheirKind :
    (∀ c, c ∈ [FaultClass.note, .pause, .stop, .trip] →
      let s := resumable [.play { entry0 with range := some (0, 4) }, .dwell 2] c
      linkFree s = true ∧ s.config.mode = .active ∧ s.run.state = .paused ∧ s.run.host = true ∧ s.run.sources = [] ∧
      s.sequencer.joinPending = false ∧ s.capture.closing = false ∧ s.sequencer.phase = .awaiting ∧
      s.sequencer.cursor = 0 ∧ (source s 35).active = false ∧ actionLaw s = true ∧ s.faults.action = none ∧
      (source s 35).cls = c ∧ (descriptor s 5).data.frames = 4) ∧
    (resumable [.play { entry0 with range := some (0, 3) }] .pause).schedule[0]? =
      some (.play { entry0 with range := some (0, 3) }) ∧
    (descriptor (resumable [.play entry0] .pause) 5).state = .ready ∧ (resumable [] .pause).schedule[0]? = none ∧
    (resumable [.play { entry0 with range := some (0, 4) }, .play entry0] .note).schedule[1]? = some (.play entry0) ∧
    (resumable [.mark 3, .dwell 2] .pause).schedule[1]? = some (.dwell 2) ∧
    (resumable [.dwell 2, .rep 0 3 0, .dwell 4] .pause).schedule[2]? = some (.dwell 4) ∧
    (waitingRun.life = .up ∧ waitingRun.sequencer.lookahead = none ∧ waitingRun.config.mode = .active ∧
      waitingRun.arbiter.granted = some { requestor := .link, op := .read 0 0 .verify, live := true } ∧
      waitingRun.verifier.queue = { seg := 5, repl := false } :: [] ∧ (source waitingRun 35).active = true ∧
      (source waitingRun 35).cls = .pause ∧ actionLaw waitingRun = true ∧ waitingRun.run.state = .paused ∧
      waitingRun.sequencer.phase = .awaiting ∧ waitingRun.schedule[0]? = some (.play entry0) ∧
      outcomeAt waitingRun.store 0 .clean ≠ .uncorrectable ∧ fitting.count * fitting.frames = 4 ∧
      crc32Final (crc32Samples waitingRun.verifier.crc ((wordSamples waitingRun.store 0).take 4)) = fitting.expected) := by
  decide +kernel

/-- The last drive frame of the play of segment 5, under an edge, a taper counter, a successor and a lookahead. -/
def ending (edge : Edge) (taper : Nat) (successor : List Entry) (continues : Bool) : State :=
  let s := playing .running
  { s with
    schedule := .play { entry0 with edge := edge } :: successor
    capture := { s.capture with current := none }
    sequencer := { s.sequencer with
      position := 3
      lookahead := some { successor := some 1, continues := continues, reach := 1, prefetch := none } }
    pipeline := { s.pipeline with params := some (.play { play0 with edge := edge }), taper := taper } }

theorem holds_PlaysEndOrJoin :
    (∀ e, e ∈ [Edge.tapered, .butted] → ∀ i, i ∈ [0, 1, 2] → ∀ r, r ∈ [RunState.running, .pausing] →
      let s := { ending e i [.play { entry0 with range := some (0, 3) }] true with run := (inRun r).run }
      s.life = .up ∧ s.config.mode = .active ∧ s.rig.window = none ∧
      s.pipeline.params = some (.play { play0 with edge := e }) ∧ play0.seg < 64 ∧
      s.sequencer.fetch.dueWord ≤ s.sequencer.fetch.nextWord ∧ s.capture.ops = [] ∧ s.capture.current = none ∧
      s.capture.closing = false ∧ s.sequencer.joinPending = false ∧ s.run.state = r ∧
      s.sequencer.phase = .inEntry ∧ s.sequencer.position + 1 = play0.length ∧ play0.joinFailed = false ∧ s.summaries.opened.isSome = true ∧
      s.summaries.queue.length ≤ 16) ∧
    frameTaper .play (ending .tapered 1 [.dwell 3] false) = 0 ∧ frameTaper .play (ending .tapered 2 [] false) ≠ 0 ∧
    (ending .tapered 0 [] false).schedule[1]? = none ∧
    (ending .butted 0 [.dwell 3] true).sequencer.lookahead.isSome = true ∧
    frameTaper .play (ending .butted 2 [.play { entry0 with range := some (0, 4) }] true) ≠ 0 ∧
    (descriptor (ending .butted 2 [.play { entry0 with range := some (0, 3) }] true) 5).data.frames = 4 := by decide +kernel

/-- A frame of a DWELL of 3 frames at a drive position, before a successor. -/
def dwelling (r : RunState) (position : Nat) (successor : List Entry) : State :=
  let s := withSeg .ready none (inRun r)
  { s with
    schedule := .dwell 3 :: successor
    sequencer := { Sequencer.atReset with phase := .inEntry, entry := some 0, position := position }
    pipeline := { s.pipeline with params := some (.dwell 3) } }

/-- A run-out frame of the play of segment 5, a replacement of two frames waiting, at a taper counter before it. -/
def runningOut (r : RunState) (taper : Nat) (failed : Bool) (current : Option Nat) (successor : List Entry) : State :=
  let s := playing r
  { s with
    schedule := .play entry0 :: successor
    capture := { s.capture with current := current }
    sequencer := { s.sequencer with position := 4 }
    segments := tset s.segments 5 { descriptor s 5 with
      inPlay := true, repl := some { state := .ready, data := { data0 with pages := [9], frames := 2 } } }
    pipeline := { s.pipeline with params := some (.play { play0 with joinFailed := failed }), taper := taper } }

/-- The same statement's entry ends: dwell frames, run-out frames and last drive frames, captured or not. -/
theorem holds_PlaysEndOrJoin_ends :
    (∀ r, r ∈ [RunState.running, .pausing] → ∀ e, e ∈ [[], [.dwell 4], [.mark 7, .dwell 4], [.play entry0]] →
      let s := dwelling r 2 e
      s.life = .up ∧ s.config.mode = .active ∧ nothingDue s ∧ closesNoMiss s ∧ s.sequencer.phase = .inEntry ∧
      s.sequencer.joinPending = false ∧ s.capture.closing = false ∧ s.run.state = r ∧
      s.pipeline.params = some (.dwell 3) ∧ s.sequencer.position + 1 = 3 ∧ s.schedule[1]? = e[0]? ∧
      (descriptor s 5).state = .ready) ∧
    (∀ r, r ∈ [RunState.running, .pausing] → ∀ i, i ∈ [1, 2] → ∀ f, f ∈ [true, false] → ∀ c, c ∈ [none, some 0] →
      let s := runningOut r i f c [.dwell 4]
      s.life = .up ∧ s.config.mode = .active ∧ nothingDue s ∧ closesNoMiss s ∧ s.sequencer.phase = .inEntry ∧
      s.sequencer.joinPending = false ∧ s.capture.closing = false ∧ s.run.state = r ∧
      s.pipeline.params = some (.play { play0 with joinFailed := f }) ∧ play0.seg < 64 ∧
      s.summaries.opened.isSome = true ∧ s.summaries.queue.length ≤ 16 ∧ s.sequencer.position = play0.length ∧
      s.sequencer.lookahead = none ∧ s.pipeline.continuation = false ∧ frameTaper (frameKind s) s = i - 1 ∧
      s.capture.current = c ∧ slot s 0 = some record0) ∧
    (record0.state = .filling ∧ 0 < maskCount record0.channels ∧
      (record0.frames + 1) * maskCount record0.channels ≤ 32768 * record0.pages.length) ∧
    (let s := ending .tapered 1 [] true
     s.sequencer.position + 1 = play0.length ∧ frameTaper (frameKind s) s = 0 ∧
      s.pipeline.params = some (.play { play0 with edge := .tapered })) := by
  refine ⟨?_, ?_, by decide +kernel, by decide +kernel⟩
  · intro r hr e he
    refine ⟨rfl, rfl, ⟨rfl, fun p h => by cases h⟩, closesNoMiss_none rfl, rfl, rfl, rfl, rfl, rfl, rfl, ?_, ?_⟩
    · simp only [List.mem_cons, List.not_mem_nil, or_false] at he
      rcases he with rfl | rfl | rfl | rfl <;> rfl
    · revert r e; decide +kernel
  · intro r hr i hi f hf c hc
    refine ⟨rfl, rfl, nothingDue_read rfl (by show (1 : Nat) ≤ 1; decide), closesNoMiss_none rfl, ?_⟩
    revert r i f c; decide +kernel

/-- R83, R38: the run-out frame of counter 0 ends the play before the advance: the waiting replacement is swapped in, the
summary queued, and the MARK behind the play raised after both. -/
theorem test_run_out_end :
    ((after (.frameBoundary false) (runningOut .running 1 false none [.mark 3, .dwell 4])).events.records.map
      (fun e => e.kind)) = [.replacementApplied, .summaryQueued, .mark] := by decide +kernel

/-- R59: the last dwell frame given in PAUSING leaves the run PAUSED, the advance waiting in SPENT. -/
theorem test_dwell_end_pausing :
    let t := after (.frameBoundary false) (dwelling .pausing 2 [.dwell 4])
    t.run.state = .paused ∧ t.sequencer.phase = .spent ∧ t.sequencer.cursor = 0 := by decide +kernel

/-- R60: at that frame the join is made, the successor's play begun. -/
theorem test_join_made :
    (after (.frameBoundary false) (ending .butted 2 [.play { entry0 with range := some (0, 3) }] true)).sequencer.cursor = 1 := by
  decide +kernel

/-- The play of segment 5 with a successor that a lookahead names, and a prefetch read granted. -/
def looking (fromRepl : Bool) (st : SegState) (repl : Option Replacement) : State :=
  let s := granting .playback (.read 0 0 .prefetch) (withSeg st repl (playing .running))
  { s with
    schedule := [.play entry0, .play entry0]
    sequencer := { s.sequencer with
      lookahead := some
        { successor := some 1, continues := true, reach := 1,
          prefetch := some { seg := 5, fromRepl := fromRepl, pages := [0], lo := 0, hi := 2, samples := [],
                             nextWord := 0, stopWord := 1 } } } }

theorem holds_LookaheadFollowsScheduleAndSegments :
    (let s := withSeg .ready (some { state := .ready, data := data0 }) (playing .running)
     s.pipeline.params = some (.play play0) ∧ (descriptor s 5).repl = some { state := .ready, data := data0 }) ∧
    (0 < (entry0.range.getD (0, 3)).2 ∧ (3, 3).1 ≤ ((3, 3) : Nat × Nat).2) ∧
    ({ playing .running with schedule := [.play entry0, .rep 0 2 0, .dwell 3] } : State).schedule[1]? = some (.rep 0 2 0) ∧
    ({ playing .running with schedule := [.play entry0, .mark 3] } : State).schedule[1]? = some (.mark 3) ∧
    (linkFree (looking false .ready none) = true ∧ schedAppendFits markBytes = true ∧
      (looking false .ready none).schedule.length + 1 ≤ 256 ∧
      (looking false .ready none).sequencer.cursor < (1 : BitVec 16).toNat ∧
      (looking false .ready none).sequencer.entry = some 0 ∧
      (1 : BitVec 16).toNat ≤ (looking false .ready none).schedule.length) ∧
    appendedEntries markBytes 2 = .ok [.mark 7] ∧
    (∀ b, b ∈ [true, false] → ∀ st, st ∈ [SegState.ready, .damaged] →
      let s := looking b st (some { state := .ready, data := data0 })
      s.life = .up ∧ s.arbiter.granted = some { requestor := .playback, op := .read 0 0 .prefetch, live := true } ∧
      s.schedule[1]? = some (.play entry0) ∧ entry0.seg = 5 ∧
      outcomeAt s.store 0 .uncorrectable = .uncorrectable ∧ outcomeAt s.store 0 .clean ≠ .uncorrectable ∧
      (descriptor s 5).state = st) := by
  refine ⟨?_, ?_, ?_, ?_, ?_, rfl, ?_⟩ <;> decide +kernel

/-- A run about to start: a DWELL listed, the pressure high. -/
def aboutToStart : State := { inRun .stopped with schedule := [.dwell 3] }

theorem holds_RunStartBeginsRun :
    (linkFree State.reset = true ∧ State.reset.config.mode ≠ .active) ∧
    linkFree aboutToStart = true ∧ aboutToStart.config.mode = .active ∧ aboutToStart.run.state = .stopped ∧
    (0 : BitVec 16).toNat < aboutToStart.schedule.length ∧ aboutToStart.schedule.length ≤ (1 : BitVec 16).toNat ∧
    (∀ k, k < 38 → (source aboutToStart k).active = false) ∧ aboutToStart.run.pressure = .high ∧
    aboutToStart.run.grace ≠ .counting ∧ aboutToStart.run.unload ≠ .inStopped ∧
    (source (withSource 34 .stop aboutToStart) 34).active = true ∧ (inRun .running).run.state ≠ .stopped := by
  decide +kernel

/-- HOST in the pause-reason set of a play. -/
def hostPaused (r : RunState) : State := { playing r with run := { (playing r).run with host := true } }

theorem holds_PauseAndResumeFollowHost :
    (linkFree (playing .running) = true ∧ (playing .running).config.mode = .active ∧
      (playing .running).run.state = .running ∧ (playing .running).run.host = false) ∧
    (hostPaused .running).run.host = true ∧ act.run.state = .stopped ∧
    (linkFree (hostPaused .paused) = true ∧ (hostPaused .paused).run.sources = [] ∧
      (hostPaused .paused).run.state = .paused ∧ (hostPaused .paused).sequencer.phase = .inEntry ∧
      (hostPaused .paused).sequencer.joinPending = false) ∧
    ({ hostPaused .paused with run := { (hostPaused .paused).run with sources := [35] } } : State).run.sources ≠ [] := by
  decide +kernel

theorem holds_StopAndUnloadAbortEntry :
    linkFree (playing .running) = true ∧ (playing .running).config.mode = .active ∧
    (playing .running).run.state ∈ [.starting, .running, .pausing, .paused, .holding] ∧
    ¬ act.run.state ∈ [.starting, .running, .pausing, .paused, .holding] ∧
    (act.run.state = .stopped ∧ act.run.unload ≠ .inStopped) := by decide +kernel

theorem holds_StopAbortsPlayInOrder :
    (let s := playing .running
     linkFree s = true ∧ s.config.mode = .active ∧ s.run.state = .running ∧ s.pipeline.params = some (.play play0) ∧
     play0.seg < 64 ∧ s.summaries.opened.isSome = true ∧ s.summaries.queue.length ≤ 16 ∧ s.capture.current = some 0 ∧
     slot s 0 = some record0 ∧ record0.state = .filling ∧ (source s 35).active = false ∧
     s.sequencer.joinPending = false) ∧
    (let s := withSeg .ready (some { state := .ready, data := data0 }) (playing .paused)
     (descriptor s 5).repl = some { state := .ready, data := data0 } ∧ s.run.state = .paused) := by decide +kernel

/-- R103: the swap is reported before the summary. -/
theorem test_abort_order :
    ((after (.runStop 7 []) (withSeg .ready (some { state := .ready, data := data0 }) (playing .running))).events.records.map
      (fun r => r.kind)) = [.replacementApplied, .summaryQueued] := by decide +kernel

theorem holds_PressureRequestsMoveLine :
    (linkFree act = true ∧ act.config.mode = .active ∧ act.run.state = .stopped ∧ act.permit.filtered = .high ∧
      (∀ k, k < 38 → (source act k).active = false) ∧ act.run.unload ≠ .inStopped ∧ act.run.pressure = .low) ∧
    (inRun .stopped).run.pressure = .high ∧ (inRun .running).run.state ≠ .stopped ∧
    ({ act with permit := Permit.mk .low .low false } : State).permit.filtered = .low ∧
    ((source (withSource 37 .trip act) 37).active = true ∧ (source (withSource 37 .trip act) 37).cls = .trip) ∧
    ({ inRun .stopped with run := { (inRun .stopped).run with unload := .inStopped } } : State).run.unload = .inStopped := by
  decide +kernel

theorem holds_HoldOutChangesSet :
    linkFree act = true ∧ act.config.mode = .active ∧ 15 < (16 : Byte).toNat ∧ (15 : Byte).toNat ≤ 15 ∧
    act.run.state = .stopped ∧ (inRun .running).run.state = .running ∧ (channelRec act 15).enabled ≠ 1 ∧
    (channelRec act 0).enabled = 1 := by decide +kernel

theorem holds_ArrivalsAndTimersMoveRun :
    (let s := { act with run := { act.run with state := .starting } }
     s.life = .up ∧ s.config.mode = .active ∧ s.capture.ops = [] ∧ s.rig.window = none ∧ s.pipeline.params = none ∧
      s.run.state = .starting) ∧
    (let s := playing .pausing
     s.life = .up ∧ s.capture.ops = [] ∧ s.rig.window = none ∧ s.pipeline.params = some (.play play0) ∧
      s.sequencer.fetch.dueWord ≤ s.sequencer.fetch.nextWord ∧ s.run.state = .pausing ∧
      s.sequencer.position + 1 < play0.length ∧
      ({ s with capture := { s.capture with current := none } } : State).capture.current = none) ∧
    ((inRun .parking).pipeline.stopTaper = false ∧
      (tget (formFrame (inRun .parking)).pipeline.channels 0).previous = some (channelRec (inRun .parking) 0).park.toInt) ∧
    ({ inRun .starting with schedule := [.dwell 3] } : State).schedule[0]? = some (.dwell 3) ∧
    (inRun .unloading).run.unload = .idle ∧ (general (inRun .unloading)).unloadMs ≠ 0 := by decide +kernel

/-- The same statement's frames that move the drive position, and those of the other run states. -/
theorem holds_ArrivalsAndTimersMoveRun_frames :
    (∀ r, r ∈ [RunState.stopped, .paused, .holding, .parking, .unloading, .frozen] →
      (inRun r).life = .up ∧ (inRun r).config.mode = .active ∧ nothingDue (inRun r) ∧ closesNoMiss (inRun r) ∧
      (inRun r).run.state = r) ∧
    (∀ r, r ∈ [RunState.running, .pausing] →
      (let s := playing r
       s.life = .up ∧ s.config.mode = .active ∧ nothingDue s ∧ closesNoMiss s ∧ s.run.state = r ∧
        s.pipeline.params = some (.play play0) ∧ s.sequencer.position + 1 < play0.length ∧
        s.sequencer.phase = .inEntry) ∧
      (let s := dwelling r 1 []
       s.life = .up ∧ s.config.mode = .active ∧ nothingDue s ∧ closesNoMiss s ∧ s.run.state = r ∧
        s.pipeline.params = some (.dwell 3) ∧ s.sequencer.position + 1 < 3)) :=
  ⟨fun _ _ => ⟨rfl, rfl, nothingDue_idle rfl rfl, closesNoMiss_none rfl, rfl⟩,
    fun _ _ =>
      ⟨⟨rfl, rfl, nothingDue_read rfl (by show (1 : Nat) ≤ 1; decide), closesNoMiss_none rfl, rfl, rfl,
          (by decide +kernel : 1 + 1 < play0.length), rfl⟩,
        rfl, rfl, ⟨rfl, fun p h => by cases h⟩, closesNoMiss_none rfl, rfl, rfl, (by decide : 1 + 1 < 3)⟩⟩

/-- Source 0 of a class, LATCHED and not active. -/
def armed (c : FaultClass) (s : State) : State :=
  { s with faults := { s.faults with
      entries := tset s.faults.entries 0 { active := false, subject := 0, cls := c, latched := true } } }

theorem holds_RaiseMakesSourceActive :
    (source (withSource 33 .note act) 33).active = true ∧
    ((source act 33).active = false ∧ act.config.mode = .active ∧ (source act 33).cls = .trip) ∧
    ((source act 35).active = false ∧ actionLaw act = true) ∧
    ((source act 36).cls = .note ∧ actionLaw act = true ∧ faultLineLaw act = true) ∧
    ((source act 0).cls = .pause ∧ act.run.state ≠ .running ∧ act.faults.action = none) ∧
    (let s := playing .running
     (source s 0).cls = .pause ∧ (source s 0).active = false ∧ s.config.mode = .active ∧ s.run.state = .running ∧
      s.sequencer.phase = .inEntry ∧ actionLaw s = true ∧ faultLineLaw s = true) ∧
    (let s := armed .stop (inRun .stopped)
     (source s 0).active = false ∧ s.config.mode = .active ∧ (source s 0).cls = .stop ∧ actionLaw s = true ∧
      faultLineLaw s = true ∧ s.faults.action = none ∧ s.run.pressure = .high ∧ s.run.unload = .idle ∧
      (general s).unloadMs ≠ 0) ∧
    (let s := armed .stop (playing .running)
     actionLaw s = true ∧ faultLineLaw s = true ∧ s.faults.action = none ∧
      s.run.state ∈ [RunState.starting, .running, .pausing, .paused, .holding, .parking]) ∧
    (let s := armed .stop (withSource 34 .stop (inRun .unloading))
     actionLaw s = true ∧ faultLineLaw s = true ∧ s.faults.action = some .stop) ∧
    (let s := armed .trip (withSource 34 .trip (inRun .frozen))
     actionLaw s = true ∧ faultLineLaw s = true ∧ s.faults.action = some .trip) ∧
    (let s := armed .trip (playing .running)
     actionLaw s = true ∧ faultLineLaw s = true ∧ s.faults.action ≠ some .trip) := by decide +kernel

/-- R105, R134: a STOP raise in STOPPED with the pressure high starts the unload delay. -/
theorem test_stop_starts_delay :
    let t := raise 0 6 (armed .stop (inRun .stopped))
    t.run.unload = .inStopped ∧ t.run.state = .stopped ∧ t.events.records.map (fun r => r.value) = [131078] := by
  decide +kernel

/-- R64, R153: a run that becomes PAUSED after a join keeps the frames carried for the successor that waits. -/
theorem test_paused_join_keeps_frames (s : State) (h : s.sequencer.joinPending = true) :
    (enterPaused s).sequencer.carried = s.sequencer.carried := by simp [enterPaused, h]

theorem holds_ClearFaultsEndsAbsentConditions :
    (let s := withSource 34 .stop act
     linkFree s = true ∧ s.config.mode = .active ∧ s.run.state = .stopped ∧ s.faults.action ≠ some .trip ∧
     actionLaw s = true ∧ (source s 34).active = true) ∧
    State.reset.config.mode ≠ .active ∧
    (let s := withSource 37 .trip { act with run := { act.run with state := .frozen } }
     s.run.state = .frozen ∧ s.permit.filtered = .high ∧ actionLaw s = true ∧ s.faults.action = some .trip) ∧
    (let s := withSource 0 .pause (playing .pausing)
     let s := { s with run := { s.run with sources := [0], host := false } }
     s.run.state = .pausing ∧ s.faults.action = some .pause ∧ s.run.sources ≠ [] ∧ s.sequencer.phase = .inEntry ∧
     s.sequencer.joinPending = false ∧ actionLaw s = true ∧ (source s 0).latched = true) := by decide +kernel

/-- R142, R143: a LATCHED monitor at inside count F ends, SERVO with the pressure high and no ready flag does not. -/
theorem test_clear_latched :
    let s := { withSource 32 .pause (withSource 0 .pause (inRun .stopped)) with
      monitors := tset act.monitors 0 { record := mon0, tripped := true, outside := 0, inside := 3 } }
    (source (after (.clearFaults 7 []) s) 0).active = false ∧ (source (after (.clearFaults 7 []) s) 32).active = true := by
  decide +kernel

/-- Monitor 0 with its counts, a value outside its window delivered, and the pressure high. -/
def watching (outside inside : Byte) (tripped : Bool) (v : Sample) : State :=
  let s := inRun .stopped
  { s with
    monitors := tset s.monitors 0 { record := mon0, tripped := tripped, outside := outside, inside := inside }
    faults := { s.faults with entries := tset s.faults.entries 0 { source s 0 with active := tripped } }
    rig := { s.rig with feedback := tset s.rig.feedback 3 v } }

theorem holds_MonitorsTripAtFilterCount :
    (mon0.low.toInt ≤ (2000 : Sample).toInt ∧ (2000 : Sample).toInt ≤ mon0.high.toInt) ∧
    mon0.high.toInt < (2001 : Sample).toInt ∧
    (let s := watching 2 0 false 2180
     let m := tget s.monitors 0
     evaluates s m = true ∧ m.tripped = false ∧ (source s 0).active = false ∧ (countValue 2180 m).outside = m.record.filter) ∧
    (let s := watching 0 2 true 1100
     let m := tget s.monitors 0
     evaluates s m = true ∧ m.tripped = true ∧ (source s 0).active = true ∧ (source s 0).latched = false ∧
      (countValue 1100 m).inside = m.record.filter) ∧
    (let s := watching 0 0 false 2180
     evaluates s (tget s.monitors 0) = true ∧ evaluates s (tget s.monitors 1) = false ∧
      (∀ k, k < 32 → evaluates s (tget s.monitors k) = true →
        (tget s.monitors k).tripped = false ∧
          (countValue (tget s.rig.feedback (tget s.monitors k).record.feedback.toNat) (tget s.monitors k)).outside ≠
            (tget s.monitors k).record.filter) ∧
      s.run.pressure = .high ∧ (deliver s).run.pressure = .high ∧ (tget (deliver s).monitors 0).outside = 1) ∧
    (let s := armed .trip (watching 2 0 false 2180)
     s.run.pressure = .high ∧ (deliver s).run.pressure = .low) := by
  decide +kernel

theorem holds_PermitFallFreezesRun :
    (act.life ≠ .off ∧ Level.low ≠ act.permit.raw) ∧
    (let s := { act with permit := { raw := .low, filtered := .high, timer := true } }
     s.permit.timer = true ∧ s.permit.filtered = .high ∧ s.permit.raw = .low ∧ s.config.mode = .active ∧
      (source s 37).active = false ∧ (source s 37).cls = .trip ∧ (source s 37).latched = true ∧
      s.faults.action ≠ some .trip) ∧
    (let s := { State.reset with permit := { raw := .low, filtered := .high, timer := true } }
     s.permit.timer = true ∧ s.config.mode ≠ .active) ∧ act.permit.timer = false ∧
    (let s := { configuring with permit := { raw := .low, filtered := .low, timer := false } }
     linkFree s = true ∧ s.config.mode = .config ∧ commitFailure s.config.pending = none ∧ s.permit.filtered = .low) ∧
    (let s := { State.reset with config := { ConfigStore.atReset with pending := img } }
     linkFree s = true ∧ s.config.mode = .idle ∧ s.permit.filtered = .low) := by
  decide +kernel

theorem holds_CaptureReadAndFree :
    linkFree act = true ∧ ¬ (32 : Byte).toNat ≤ 31 ∧ slot act 31 = none ∧
    (let s := withRecord { record0 with state := .complete } none act
     linkFree s = true ∧ slot s 0 = some { record0 with state := .complete } ∧ maskCount record0.channels = 2 ∧
      record0.frames * maskCount record0.channels = 8) ∧
    record0.state = .filling ∧
    (let j : CaptureJob := { id := 0, offset := 4, count := 4, nextWord := 1, stopWord := 2, values := [], bad := 0 }
     let s := inHand 0x61 (.captureRead j) (granting .link (.read 8193 1 .captureRead) (withRecord record0 none act))
     s.life = .up ∧ s.arbiter.granted = some { requestor := .link, op := .read 8193 j.nextWord .captureRead, live := true } ∧
      s.link.inHand = some { kind := 0x61, tag := 7, job := .captureRead j } ∧ j.nextWord + 1 = j.stopWord ∧
      slot s j.id = some record0 ∧ outcomeAt s.store 8193 .uncorrectable = .uncorrectable ∧
      outcomeAt s.store 8193 .clean = .clean) ∧
    (let j : CaptureJob := { id := 0, offset := 4, count := 5, nextWord := 1, stopWord := 3, values := [], bad := 0 }
     j.nextWord + 1 < j.stopWord) := by
  decide +kernel

/-- The play of segment 5 with a capture frame's last write granted, the close waiting or not. -/
def capturing (lanes : List (Nat × Sample)) (closing : Bool) : State :=
  let s := granting .capture (.write 8192 lanes) (playing .running)
  { s with capture := { s.capture with ops := [.write 8192 lanes], writing := some 0, closing := closing } }

/-- A play that has ended, the last write of its record still to complete, and what waits for that. -/
def afterPlay (r : RunState) (phase : Phase) (joined : Bool) : State :=
  let s := capturing [(0, 1), (1, 2), (2, 3), (3, 4)] true
  { s with
    run := (inRun r).run
    schedule := [if joined then .play entry0 else .dwell 2, .dwell 3]
    sequencer := { Sequencer.atReset with phase := phase, joinPending := joined }
    pipeline := { s.pipeline with params := none } }

theorem holds_CapturesOpenFillTruncate :
    (general State.reset).captureSet = 0 ∧ (general act).captureSet = 9 ∧
    (∀ i, i < 32 → slot { act with capture := { act.capture with slots := Vector.replicate 32 (some record0) } } i ≠ none) ∧
    (slot act 0 = none ∧ act.pool.length = 512 ∧ ({ act with pool := [] } : State).pool = []) ∧
    (let s := playing .running
     s.capture.current = some 0 ∧ slot s 0 = some record0 ∧ (record0.frames + 1) * maskCount record0.channels ≤ 32768) ∧
    (32768 * 1 < (16384 + 1) * maskCount record0.channels ∧ (16383 + 1) * maskCount record0.channels ≤ 32768 * 1) ∧
    (playing .running).pipeline.params = some (.play play0) ∧
    (∀ c, c ∈ [true, false] → ∀ l, l ∈ [[(0, 1)], [(0, 1), (1, 1), (2, 1), (3, 1)]] →
      let s := capturing l c
      s.life = .up ∧ s.arbiter.granted = some { requestor := .capture, op := .write 8192 l, live := true } ∧
      s.capture.ops = .write 8192 l :: [] ∧ s.capture.writing = some 0 ∧ slot s 0 = some record0 ∧
      s.capture.closing = c ∧ s.capture.current = some 0 ∧ record0.state = .filling) := by decide +kernel

/-- The same statement's ends of the wait for a last write: an advance, an entry start and a joined play, and a run that
stands. -/
theorem holds_CapturesOpenFillTruncate_waits :
    ∀ r, r ∈ [RunState.running, .paused] → ∀ ph, ph ∈ [Phase.spent, .awaiting] → ∀ j, j ∈ [true, false] →
      let s := afterPlay r ph j
      s.life = .up ∧ s.arbiter.granted =
        some { requestor := .capture, op := .write 8192 [(0, 1), (1, 2), (2, 3), (3, 4)], live := true } ∧
      s.capture.ops = .write 8192 [(0, 1), (1, 2), (2, 3), (3, 4)] :: [] ∧ s.capture.writing = some 0 ∧
      slot s 0 = some record0 ∧ s.capture.closing = true ∧ s.sequencer.joinPending = j ∧ s.run.state = r ∧
      s.sequencer.phase = ph ∧ s.sequencer.cursor = 0 ∧ s.schedule[0]? = some (if j then .play entry0 else .dwell 2) ∧
      s.schedule[1]? = some (.dwell 3) := by decide +kernel

/-- R153: the last write of an ended play's record lets the advance go on to the DWELL behind it. -/
theorem test_advance_after_capture :
    let t := after .wholeWordWrite (afterPlay .running .spent false)
    t.sequencer.cursor = 1 ∧ t.sequencer.phase = .inEntry ∧ (slot t 0).map (fun r => r.state) = some .complete := by
  decide +kernel

/-- The play of segment 5 with its next read granted, MEMORY under a class, a substitute made before or not. -/
def fetching (cls : FaultClass) (substituted : Bool) : State :=
  let s := granting .playback (.read 0 0 .play) (playing .running)
  { s with
    pipeline := { s.pipeline with params := some (.play { play0 with substituted := substituted }) }
    faults := { s.faults with entries := tset s.faults.entries 36 { source s 36 with cls := cls } }
    sequencer := { s.sequencer with fetch := { samples := [], nextWord := 0, dueWord := 1 } } }

theorem holds_SummariesAccumulateAndSubstitutesCount :
    ([-32768, 32767] : List Sample) ≠ [] ∧ ([-32768, 32767] : List Sample).length < 4294967296 ∧
    (let s := playing .running
     s.life = .up ∧ s.config.mode = .active ∧ s.rig.window = none ∧ s.pipeline.params = some (.play play0) ∧
     s.sequencer.fetch.dueWord ≤ s.sequencer.fetch.nextWord ∧ s.capture.ops = [] ∧ s.run.state = .running ∧
     s.sequencer.position + 1 < play0.length ∧ s.summaries.opened.isSome = true) ∧
    (∀ b, b ∈ [true, false] → ∀ c, c ∈ [FaultClass.note, .pause] →
      let s := fetching c b
      s.life = .up ∧ s.config.mode = .active ∧ play0.seg < 64 ∧
      s.arbiter.granted = some { requestor := .playback, op := .read 0 0 .play, live := true } ∧
      s.pipeline.params = some (.play { play0 with substituted := b }) ∧ s.summaries.opened.isSome = true ∧
      outcomeAt s.store 0 .uncorrectable = .uncorrectable ∧ actionLaw s = true ∧ (source s 36).cls = c) := by decide +kernel

theorem holds_BoundaryBeginsFrame :
    act.life = .up ∧ (State.reset.config.mode ≠ .active ∧ State.reset.config.active = none) ∧ (standing .off).life ≠ .up := by
  decide

/-- The device in ACTIVE at the boundary that closes a window without a response, with two misses before it. -/
def missing (r : RunState) : State :=
  { inRun r with rig := { act.rig with
      window := some { frame := 4, bytes := [], corrupt := false, good := false, inStay := true }, misses := 2 } }

/-- The same statement's frames in ACTIVE: one formed before a miss, one that closes none, and one after a miss whose
RIG_LINK freezes the run. -/
theorem holds_BoundaryBeginsFrame_active :
    (nothingDue act ∧ closesNoMiss act ∧ (channelRec act 0).enabled = 1 ∧ (channelRec act 1).enabled ≠ 1) ∧
    (let s := missing .stopped
     nothingDue s ∧ s.life = .up ∧ s.config.mode = .active ∧
      s.rig.window = some { frame := 4, bytes := [], corrupt := false, good := false, inStay := true } ∧
      (general s).missLimit.toNat ≤ (if s.rig.misses = 255 then 255 else s.rig.misses + 1).toNat ∧
      (source s 33).active = false ∧ (source s 33).cls = .trip ∧ actionLaw s = true ∧ tripLaw s = true ∧
      frozenLaw s = true ∧ (tget s.pipeline.channels 0).previous = some 40) :=
  ⟨⟨nothingDue_idle rfl rfl, closesNoMiss_none rfl, by decide +kernel, by decide +kernel⟩,
    nothingDue_idle rfl rfl, rfl, rfl, rfl, by decide +kernel⟩

/-- R117: taken first, that miss sends FROZEN's code 8, the pressure flag 0, channel 0's flag and its held setpoint 40;
taken after the frame, it leaves STOPPED's code and the pressure flag in it. -/
theorem test_miss_first_freezes_frame :
    ((after (.frameBoundary true) (missing .stopped)).rig.sent.take 8 = [1, 0, 8, 0, 1, 0, 40, 0]) ∧
    ((after (.frameBoundary false) (missing .stopped)).rig.sent.take 8 = [1, 0, 0, 1, 1, 0, 40, 0]) := by decide +kernel

theorem holds_FrameFormsSetpoints :
    (channelRec (playing .running) 0).enabled = 1 ∧
    (tget ({ act with pipeline := .atReset } : State).pipeline.channels 0).previous = none ∧
    (tget (playing .running).pipeline.channels 0).previous = some 40 ∧ frameKind act = .held ∧
    frameKind (inRun .starting) = .mean ∧ frameKind (inRun .parking) = .park ∧
    frameKind { inRun .parking with pipeline := { act.pipeline with stopTaper := true } } = .stopTaper ∧
    (playing .running).run.state ∈ [.running, .pausing] ∧
    ({ playing .running with sequencer := { (playing .running).sequencer with position := 4 } } : State).sequencer.position =
      play0.length ∧
    (frameKind (playing .running) = .play ∧ (playing .running).pipeline.params = some (.play play0) ∧ 1 ≤ play0.ratio) := by
  decide +kernel

/-- The same statement's boundaries: one that closes no missed window, and a miss before and after the frame. -/
theorem holds_FrameFormsSetpoints_boundary :
    (act.life = .up ∧ act.config.mode = .active ∧ nothingDue (playing .running) ∧ closesNoMiss (playing .running) ∧
      (playing .running).life = .up ∧ (playing .running).config.mode = .active) ∧
    ((missing .running).life = .up ∧ (missing .running).config.mode = .active ∧
      (missing .running).rig.window =
        some { frame := 4, bytes := [], corrupt := false, good := false, inStay := true }) :=
  ⟨⟨rfl, rfl, nothingDue_read rfl (by show (1 : Nat) ≤ 1; decide), closesNoMiss_none rfl, rfl, rfl⟩, rfl, rfl, rfl⟩

/-- R68, R78: a boundary in RUNNING moves channel 0 from 40 toward its play by the slew limit at most, here to its target. -/
theorem test_boundary_takes_formed :
    (tget (after (.frameBoundary false) (playing .running)).pipeline.channels 0).previous = some 100 := by decide +kernel

theorem holds_InterpolationStaysBetweenSamples : 8 ∈ [1, 2, 4, 8] ∧ 7 < 8 := by decide

theorem holds_GainAndTaperStayBounded :
    ((-32768 : Int) ≤ 32767 ∧ 0 < 16 ∧ 16 ≤ 16 ∧ 1024 ≤ 1024) ∧
    (let s := playing .running
     s.pipeline.params = some (.play play0) ∧ s.run.state = .running ∧ s.sequencer.position ≠ 0 ∧
      s.pipeline.taper ≤ (general s).nt.toNat) ∧
    (let s := { playing .running with sequencer := Sequencer.atReset }
     s.sequencer.position = 0 ∧ play0.byJoin = false) ∧ (playing .pausing).run.state = .pausing := by decide +kernel

theorem holds_ConsecutiveSetpointsWithinSlew :
    act.life = .up ∧ act.config.mode = .active ∧ (channelRec act 0).enabled = 1 ∧
    (tget act.pipeline.channels 0).previous = some 40 ∧
    (tget ({ act with pipeline := .atReset } : State).pipeline.channels 0).previous = none := by decide +kernel

/-- A response to frame 4 with its CRC. -/
def response0 : List Byte :=
  let b : List Byte := le16 4 ++ List.replicate 66 9
  b ++ le16 (crc16 b)

/-- A window of frame 4, with what has come into it. -/
def opened (bytes : List Byte) (good : Bool) (s : State) : State :=
  { s with rig := { s.rig with
      window := some { frame := 4, bytes := bytes, corrupt := false, good := good, inStay := true }, misses := 2 } }

theorem holds_ResponsesAndMissesAreJudged :
    ((opened [] false act).life = .up ∧ response0.length = 70 ∧
      (opened [] false act).rig.window =
        some { frame := 4, bytes := [], corrupt := false, good := false, inStay := true } ∧
      crc16 (response0.take 68) = le16At response0 68 ∧ le16At response0 0 = 4) ∧
    (let s := opened (response0.take 69) false (inRun .running)
     s.rig.window.map (fun w => w.bytes.length) = some 69 ∧
     ((response0.take 69 ++ response0.drop 69 ++ [7]).take 70).length = 70 ∧
     (69 + 0 < 70 ∧ ¬ 69 + 1 < 70)) ∧
    (∀ k, k < 32 → evaluates act (tget act.monitors k) = false) ∧
    (let s := { inRun .running with run := { (inRun .running).run with grace := .elapsed } }
     s.config.mode = .active ∧ s.run.pressure = .high ∧ s.run.grace = .elapsed ∧ (channelRec s 0).enabled = 1 ∧
     (0 : BitVec 16).getLsbD 0 = false ∧ (source s 32).active = false) ∧
    act.rig.window = none ∧ (standing .off).life ≠ .up ∧
    ((opened [] false act).config.mode = .active ∧ (general (opened [] false act)).missLimit.toNat ≤ (3 : Byte).toNat ∧
      (general (opened [] false act)).missLimit.toNat = 3) := by
  decide +kernel

/-- Monitor 0 one value short of its trip, or of its end, at a boundary that closes a window without a response. -/
def missingWatch (outside inside : Byte) (tripped : Bool) (v : Sample) : State :=
  let s := watching outside inside tripped v
  { s with rig := { s.rig with window := (missing .stopped).rig.window } }

/-- The device as it would stand had the open window's response been good. -/
def responded (s : State) : State := { s with rig := { s.rig with window := s.rig.window.map (fun w => { w with good := true }) } }

/-- The same statement's deliveries at a miss: the held value counts, trips the monitor and ends its trip. -/
theorem holds_ResponsesAndMissesAreJudged_deliveries :
    (let s := missingWatch 1 0 false 2180
     s.life = .up ∧ s.run.pressure = .high ∧ (after (.frameBoundary true) s).run.pressure = .high ∧
      evaluates s (tget s.monitors 0) = true ∧ evaluates s (tget s.monitors 1) = false) ∧
    nothingDue (missingWatch 2 0 false 2180) ∧ nothingDue (missingWatch 0 2 true 1100) ∧
    (∀ first, first ∈ [true, false] →
      (let s := missingWatch 2 0 false 2180
       let g := after (.frameBoundary false) (responded s)
       let u := if first then s else g
       let m := tget u.monitors 0
       evaluates u m = true ∧ m.tripped = false ∧ (source u 0).active = false ∧
        (countValue 2180 m).outside = m.record.filter) ∧
      (let s := missingWatch 0 2 true 1100
       let g := after (.frameBoundary false) (responded s)
       let u := if first then s else g
       let m := tget u.monitors 0
       evaluates u m = true ∧ m.tripped = true ∧ (source u 0).active = true ∧ (source u 0).latched = false ∧
        (countValue 1100 m).inside = m.record.filter)) :=
  ⟨by decide +kernel, nothingDue_idle rfl rfl, nothingDue_idle rfl rfl, by decide +kernel⟩

/-- R120: a miss delivers the held value 2,180, outside monitor 0's window for the third time, and its source is raised. -/
theorem test_miss_delivers_held :
    (source (after (.frameBoundary true) (missingWatch 2 0 false 2180)) 0).active = true ∧
    (source (after (.frameBoundary false) (missingWatch 2 0 false 2180)) 0).active = true ∧
    (tget (after (.frameBoundary false) (missingWatch 0 0 false 2180)).monitors 0).outside = 1 := by decide +kernel

/-- R122: a response that arrives in two parts, channel 0 not ready, raises SERVO with channel 0. -/
theorem test_servo_from_parts :
    let s := opened (response0.take 30) false { inRun .stopped with run := { (inRun .stopped).run with grace := .elapsed } }
    let b : List Byte := le16 4 ++ [0, 0] ++ List.replicate 64 0
    let whole := b ++ le16 (crc16 b)
    let s := { s with rig := { s.rig with
      window := some { frame := 4, bytes := whole.take 30, corrupt := false, good := false, inStay := true } } }
    (source (after (.responseFrame (whole.drop 30 ++ [1, 2]) (some 41)) s) 32).active = true := by decide +kernel

/-! The invariants: states that hold them, and the commands' next states. -/

theorem holds_FaultTableFollowsItsSources :
    let s := withSource 34 .stop (inRun .unloading)
    faultLineLaw s = true ∧ actionLaw s = true ∧ pauseSetLaw s = true ∧
    exec (.heartbeat 7 []) s = .next (after (.heartbeat 7 []) s) := by
  refine ⟨?_, ?_, ?_, rfl⟩ <;> decide +kernel

theorem holds_PressureNeedsActivePermitNoTrip :
    let s := inRun .running
    pressureLaw s = true ∧ pressureGround s = true ∧ actionLaw s = true ∧
    exec .permitLineChange s = .next (after .permitLineChange s) := by
  refine ⟨?_, ?_, ?_, rfl⟩ <;> decide +kernel

theorem holds_TablesKeepTheirLimits :
    let s := playing .running
    scheduleLaw s.schedule = true ∧ queuesBounded s = true ∧ s.store.wf = true ∧ modeLaw s = true ∧ sequencerLaw s = true ∧
    exec (.runStop 7 []) s = .next (after (.runStop 7 []) s) := by
  refine ⟨?_, ?_, ?_, ?_, ?_, rfl⟩ <;> decide +kernel

theorem holds_SetpointsStayWithinLimits :
    setpointLaw (playing .running) ∧
    exec (.frameBoundary false) (playing .running) = .next (after (.frameBoundary false) (playing .running)) := by
  refine ⟨⟨rfl, rfl, by decide +kernel, fun c hc => ⟨?_, ?_⟩⟩, rfl⟩
  · have : ∀ c, c < 16 → limitsLawful (tget img.channels c) = true := by decide +kernel
    exact this c hc
  · have : ∀ c, c < 16 →
        (match (tget (playing .running).pipeline.channels c).previous with
        | none => true
        | some y => decide ((tget img.channels c).lo.toInt ≤ y) && decide (y ≤ (tget img.channels c).hi.toInt)) = true := by
      decide +kernel
    intro y hy
    have h := this c hc
    rw [hy] at h
    simpa using h

theorem holds_CaptureRecordsFitTheirPages :
    captureLaw (playing .running) ∧
    exec (.runStop 7 []) (playing .running) = .next (after (.runStop 7 []) (playing .running)) := by
  refine ⟨fun i r hi hr => ?_, rfl⟩
  have h : ∀ i, i < 32 →
      (match slot (playing .running) i with
      | none => true
      | some r => decide (r.frames * r.count ≤ 32768 * r.pages.length ∧ r.count ≤ 32 ∧ 1 ≤ r.pages.length)) = true := by
    decide +kernel
  have h := h i hi
  rw [hr] at h
  have h := of_decide_eq_true h
  exact ⟨h.1, h.2.1, h.2.2, fun _ ho => absurd (by decide +kernel) ho⟩

theorem holds_EveryPageInOnePlace :
    pageLaw (withSeg .ready none act) ∧ segmentLaw (withSeg .ready none act) ∧
    exec (.segFree 7 [5]) (withSeg .ready none act) = .next (after (.segFree 7 [5]) (withSeg .ready none act)) := by
  refine ⟨⟨?_, ?_⟩, ⟨?_, by decide, by decide⟩, rfl⟩
  · exact (show (withSeg .ready none act).pool = (List.range 512).drop 1 by simp only [withSeg]) ▸
      List.pairwise_lt_range.sublist (List.drop_sublist 1 _)
  · have : ownedPages (withSeg .ready none act).segments (withSeg .ready none act).capture.slots = [0] := by decide +kernel
    rw [this, show (withSeg .ready none act).pool = (List.range 512).drop 1 by simp only [withSeg]]
    have split : [0] ++ (List.range 512).drop 1 = List.range 512 := by decide +kernel
    exact List.perm_append_comm.trans (.of_eq split)
  · have : ∀ id, id < 64 →
        ((descriptor (withSeg .ready none act) id).state = .empty →
          (descriptor (withSeg .ready none act) id).data.pages = []) ∧
        (descriptor (withSeg .ready none act) id).repl = none := by decide +kernel
    exact fun id hid => ⟨(this id hid).1, fun h => absurd (this id hid).2 h⟩

/-- A FROZEN run whose TRIP has gone away with PERMIT high again. -/
def frozenRun : State := withSource 37 .trip { act with run := { act.run with state := .frozen } }

theorem holds_FrozenHoldsUntilCleared :
    frozenLaw frozenRun = true ∧ actionLaw frozenRun = true ∧ tripLaw frozenRun = true ∧
    exec (.clearFaults 7 []) frozenRun = .next (after (.clearFaults 7 []) frozenRun) ∧ frozenRun.run.state = .frozen ∧
    (after (.clearFaults 7 []) frozenRun).run.state ≠ .frozen := by
  refine ⟨?_, ?_, ?_, rfl, ?_, ?_⟩ <;> decide +kernel

end Sys2Proof.Tests
end

section
/-! PROOF. Where every page is (R6): the parts of the state that page ownership rests on, and how each of the moves of a
page between the pool and a page list keeps the law of pages. -/

namespace Sys2Proof.Machine

/-- The parts of the state that the law of pages and what it rests on speak of. -/
def holdings (s : State) : List Nat × Vector Descriptor 64 × List Target × Vector (Option CaptureRecord) 32 :=
  (s.pool, s.segments, s.verifier.queue, s.capture.slots)

/-- What O59 says that every command keeps: the law of pages and what it rests on. -/
def ownershipLaw (s : State) : Prop := pageLaw s ∧ segmentLaw s

theorem ownershipLaw_congr {s t : State} (h : holdings t = holdings s) : ownershipLaw t ↔ ownershipLaw s := by
  simp only [holdings, Prod.mk.injEq] at h
  obtain ⟨hpool, hseg, hqueue, hslots⟩ := h
  simp only [ownershipLaw, pageLaw, segmentLaw, descriptor, hpool, hseg, hqueue, hslots]

/-- R22, R23: the part of `segmentLaw` that speaks of one descriptor. -/
def descriptorLaw (d : Descriptor) : Prop :=
  (d.state = .empty → d.data.pages = []) ∧ (d.repl ≠ none → d.state = .ready ∨ d.state = .damaged)

/-- R29: the target of verification that a descriptor is, or with `repl` its replacement, is VERIFYING. -/
def verifyingIn (d : Descriptor) (repl : Bool) : Prop :=
  (repl = false → d.state = .verifying) ∧ (repl = true → ∃ r, d.repl = some r ∧ r.state = .verifying)

theorem segmentLaw_iff {s : State} : segmentLaw s ↔
    (∀ id, id < 64 → descriptorLaw (descriptor s id)) ∧ s.verifier.queue.Nodup ∧
      ∀ t, t ∈ s.verifier.queue → t.seg < 64 ∧ verifyingIn (descriptor s t.seg) t.repl := Iff.rfl

/-! ## Descriptors and slots by number -/

theorem descriptor_out {s : State} {id : Nat} (h : 64 ≤ id) : descriptor s id = default := tget_out _ h

theorem slot_out {s : State} {i : Nat} (h : 32 ≤ i) : slot s i = none := tget_out _ h

/-- A segment that has a replacement is in the table. -/
theorem lt_of_repl {s : State} {id : Nat} {r : Replacement} (h : (descriptor s id).repl = some r) : id < 64 := by
  by_contra hid
  rw [descriptor_out (Nat.not_lt.mp hid)] at h
  cases h

/-- A slot that holds a record is in the table. -/
theorem lt_of_slot {s : State} {i : Nat} {r : CaptureRecord} (h : slot s i = some r) : i < 32 := by
  by_contra hi
  rw [slot_out (Nat.not_lt.mp hi)] at h
  cases h

/-- A write beyond a table changes nothing. -/
theorem tset_out {α : Type} {n : Nat} (v : Vector α n) {i : Nat} (x : α) (h : n ≤ i) : tset v i x = v := by
  have hl : v.toList.set i x = v.toList := List.set_eq_of_length_le (by simpa using h)
  simp only [tset, hl]
  rfl

theorem setDescriptor_out {s : State} {id : Nat} (d : Descriptor) (h : 64 ≤ id) : setDescriptor id d s = s := by
  rw [setDescriptor, tset_out _ _ h]

theorem descriptor_setDescriptor {s : State} {id : Nat} (d : Descriptor) (h : id < 64) (j : Nat) :
    descriptor (setDescriptor id d s) j = if j = id then d else descriptor s j := tget_tset _ _ _ _ h

theorem descriptor_setDescriptor_same {s : State} {id : Nat} (d : Descriptor) (h : id < 64) :
    descriptor (setDescriptor id d s) id = d := tget_tset_same _ _ h

theorem slot_setSlot {s : State} {i : Nat} (r : Option CaptureRecord) (h : i < 32) (j : Nat) :
    slot (setSlot i r s) j = if j = i then r else slot s j := tget_tset _ _ _ _ h

/-! ## Counting the pages of the owners -/

/-- R6: the pages of a slot's record. -/
def slotPages : Option CaptureRecord → List Nat
  | some r => r.pages
  | none => []

theorem ownedPages_eq (segments : Vector Descriptor 64) (slots : Vector (Option CaptureRecord) 32) :
    ownedPages segments slots = segments.toList.flatMap descriptorPages ++ slots.toList.flatMap slotPages := rfl

/-- An entry of a list replaced: what its pages counted before and after. -/
theorem count_flatMap_set {α : Type} (f : α → List Nat) (l : List α) (i : Nat) (h : i < l.length) (x : α) (p : Nat) :
    ((l.set i x).flatMap f).count p + (f l[i]).count p = (l.flatMap f).count p + (f x).count p := by
  induction l generalizing i with
  | nil => simp at h
  | cons a l ih =>
    cases i with
    | zero => simp; omega
    | succ i =>
      have := ih i (by simpa using h)
      simp only [List.set_cons_succ, List.flatMap_cons, List.count_append, List.getElem_cons_succ]
      omega

theorem count_table_set {α : Type} [Inhabited α] {n : Nat} (f : α → List Nat) (v : Vector α n) {i : Nat} (h : i < n)
    (x : α) (p : Nat) :
    ((tset v i x).toList.flatMap f).count p + (f (tget v i)).count p = (v.toList.flatMap f).count p + (f x).count p := by
  have := count_flatMap_set f v.toList i (by simpa using h) x p
  rw [tget_eq_getElem v h]
  simpa [tset, Vector.toList] using this

/-- A descriptor replaced: how often a page stands in the owners' page lists before and after. -/
theorem count_ownedPages_descriptor (v : Vector Descriptor 64) (slots : Vector (Option CaptureRecord) 32) {id : Nat}
    (h : id < 64) (d : Descriptor) (p : Nat) :
    (ownedPages (tset v id d) slots).count p + (descriptorPages (tget v id)).count p =
      (ownedPages v slots).count p + (descriptorPages d).count p := by
  have := count_table_set descriptorPages v h d p
  simp only [ownedPages_eq, List.count_append]
  omega

/-- A slot replaced: how often a page stands in the owners' page lists before and after. -/
theorem count_ownedPages_slot (v : Vector Descriptor 64) (slots : Vector (Option CaptureRecord) 32) {i : Nat}
    (h : i < 32) (r : Option CaptureRecord) (p : Nat) :
    (ownedPages v (tset slots i r)).count p + (slotPages (tget slots i)).count p =
      (ownedPages v slots).count p + (slotPages r).count p := by
  have := count_table_set slotPages slots h r p
  simp only [ownedPages_eq, List.count_append]
  omega

theorem count_insertNum {x : Nat} {l : List Nat} (h : x ∉ l) (p : Nat) :
    (insertNum x l).count p = (x :: l).count p := by
  induction l with
  | nil => rfl
  | cons y l ih =>
    obtain ⟨hxy, hl⟩ := not_or.mp (List.mem_cons.not.mp h)
    simp only [insertNum, hxy, if_false]
    split
    · rfl
    · have := ih hl
      simp only [List.count_cons] at this ⊢
      omega

/-- Pages of which none is in the pool and none occurs twice enter it, each once. -/
theorem count_foldl_insertNum {ps l : List Nat} (h : (ps ++ l).Nodup) (p : Nat) :
    (ps.foldl (fun q p => insertNum p q) l).count p = ps.count p + l.count p := by
  induction ps generalizing l with
  | nil => simp
  | cons x ps ih =>
    rw [List.cons_append, List.nodup_cons] at h
    obtain ⟨hx, hps⟩ := h
    have hxl : x ∉ l := fun hm => hx (List.mem_append_right _ hm)
    have hn : (ps ++ insertNum x l).Nodup := by
      rw [List.nodup_iff_count_le_one] at hps ⊢
      intro a
      have := hps a
      have hxa : x = a → ps.count a = 0 ∧ l.count a = 0 := by
        rintro rfl
        exact ⟨List.count_eq_zero.2 fun hm => hx (List.mem_append_left _ hm), List.count_eq_zero.2 hxl⟩
      simp only [List.count_append, count_insertNum hxl, List.count_cons, beq_iff_eq] at this ⊢
      split <;> rename_i e
      · have := hxa e; omega
      · omega
    rw [List.foldl_cons, ih hn, count_insertNum hxl, List.count_cons, List.count_cons]
    omega

/-! ## Moves of pages -/

/-- The law of pages, counted: the pool ascends, and each of the 512 pages stands once in the pool and the owners' page
lists together. -/
theorem pageLaw_iff_count {s : State} : pageLaw s ↔ s.pool.Pairwise (· < ·) ∧
    ∀ p, s.pool.count p + (ownedPages s.segments s.capture.slots).count p = (List.range 512).count p := by
  simp only [pageLaw, List.perm_iff_count, List.count_append]

/-- No page stands twice in the pool and the owners' page lists together. -/
theorem pageLaw_count_le {s : State} (h : pageLaw s) (p : Nat) :
    s.pool.count p + (ownedPages s.segments s.capture.slots).count p ≤ 1 := by
  rw [(pageLaw_iff_count.1 h).2]
  exact List.nodup_iff_count_le_one.1 List.nodup_range p

/-- The law of pages is kept where each page has moved as often into the pool or a page list as out of one. -/
theorem pageLaw_of_count {s t : State} (h : pageLaw s) (hp : t.pool.Pairwise (· < ·))
    (hc : ∀ p, t.pool.count p + (ownedPages t.segments t.capture.slots).count p =
      s.pool.count p + (ownedPages s.segments s.capture.slots).count p) : pageLaw t :=
  pageLaw_iff_count.2 ⟨hp, fun p => (hc p).trans ((pageLaw_iff_count.1 h).2 p)⟩

/-- Pages that their owner gives up enter the pool: the law of pages is kept. `rest` is what the owner holds on. -/
theorem pageLaw_of_release {s t : State} {pages : List Nat} (h : pageLaw s)
    (hpool : t.pool = pages.foldl (fun q p => insertNum p q) s.pool)
    (hc : ∀ p, (ownedPages t.segments t.capture.slots).count p + pages.count p =
      (ownedPages s.segments s.capture.slots).count p) : pageLaw t := by
  have hn : (pages ++ s.pool).Nodup := by
    rw [List.nodup_iff_count_le_one]
    intro p
    have := pageLaw_count_le h p
    have := hc p
    rw [List.count_append]
    omega
  refine pageLaw_of_count h (hpool ▸ foldl_insertNum_pairwise h.1) fun p => ?_
  have := hc p
  rw [hpool, count_foldl_insertNum hn]
  omega

/-- Pages from the front of the pool come to an owner: the law of pages is kept. -/
theorem pageLaw_of_take {s t : State} {pages : List Nat} (h : pageLaw s) (hpool : pages ++ t.pool = s.pool)
    (hc : ∀ p, (ownedPages t.segments t.capture.slots).count p =
      (ownedPages s.segments s.capture.slots).count p + pages.count p) : pageLaw t := by
  have hs : t.pool.Pairwise (· < ·) := h.1.sublist (hpool ▸ List.sublist_append_right pages t.pool)
  refine pageLaw_of_count h hs fun p => ?_
  have := hc p
  rw [← hpool, List.count_append]
  omega

end Sys2Proof.Machine
end

section
/-! PROOF. Page ownership through the segment table, the evidence and the sequencer: what leaves the holdings alone, and
how each operation that moves pages or judges targets keeps `ownershipLaw`. -/

namespace Sys2Proof.Machine

variable {s t : State}

theorem ownershipLaw.of_holdings (h : ownershipLaw s) (e : holdings t = holdings s) : ownershipLaw t :=
  (ownershipLaw_congr e).2 h

/-! ## What leaves the holdings alone -/

@[simp] theorem holdings_raiseEvent (k : EventKind) (a v : Nat) : holdings (raiseEvent k a v s) = holdings s := by
  simp [holdings]
@[simp] theorem holdings_answer (st : Status) (b : ReplyBody) : holdings (answer st b s) = holdings s := by
  simp [holdings]
@[simp] theorem holdings_setJob (j : LinkJob) : holdings (setJob j s) = holdings s := by simp [holdings]
@[simp] theorem holdings_settle : holdings (settle s) = holdings s := by simp [holdings]
@[simp] theorem holdings_withdrawReads (q : ReadPurpose) : holdings (withdrawReads q s) = holdings s := rfl
@[simp] theorem holdings_voidLookahead : holdings (voidLookahead s) = holdings s := rfl
@[simp] theorem holdings_installLookahead : holdings (installLookahead s) = holdings s := rfl
@[simp] theorem holdings_redoLookahead : holdings (redoLookahead s) = holdings s := by
  unfold redoLookahead; split <;> simp
@[simp] theorem holdings_segChanged (id : Nat) : holdings (segChanged id s) = holdings s := by
  unfold segChanged; split <;> simp
@[simp] theorem holdings_zeroCounts : holdings (zeroCounts s) = holdings s := rfl
@[simp] theorem holdings_openSummary (e g : Nat) : holdings (openSummary e g s) = holdings s := rfl
@[simp] theorem holdings_accumulate : holdings (accumulate s) = holdings s := by unfold accumulate; split <;> rfl
@[simp] theorem holdings_countMemoryErrors (cs : List Nat) : holdings (countMemoryErrors cs s) = holdings s := by
  unfold countMemoryErrors; split <;> rfl
@[simp] theorem holdings_queueSummary (m : Summary) : holdings (queueSummary m s) = holdings s := by
  simp only [queueSummary, holdings_raiseEvent]; split <;> rfl
@[simp] theorem holdings_closeSummary (a j : Bool) : holdings (closeSummary a j s) = holdings s := by
  unfold closeSummary; split <;> simp; rfl
@[simp] theorem holdings_issueFrame (i : Nat) (r : CaptureRecord) : holdings (issueFrame i r s) = holdings s := rfl
@[simp] theorem holdings_pauseJoined : holdings (pauseJoined s) = holdings s := by
  unfold pauseJoined; split
  · split <;> rfl
  · rfl
@[simp] theorem holdings_joinSet (k : Nat) : holdings (joinSet k s) = holdings s := holdings_pauseJoined
@[simp] theorem holdings_endSource (k : Nat) : holdings (endSource k s) = holdings s := by
  simp only [endSource, holdings_raiseEvent]; split <;> rfl
@[simp] theorem holdings_leaveSet (k : Nat) : holdings (leaveSet k s) = holdings s := rfl
@[simp] theorem holdings_setEntry (k : Nat) (e : FaultEntry) : holdings (setEntry k e s) = holdings s := rfl
@[simp] theorem holdings_setAction : holdings (setAction s) = holdings s := rfl
@[simp] theorem holdings_setFaultLine : holdings (setFaultLine s) = holdings s := rfl
@[simp] theorem holdings_endWait : holdings (endWait s) = holdings s := by unfold endWait; split <;> simp
@[simp] theorem holdings_endStoppedDelay : holdings (endStoppedDelay s) = holdings s := by
  simp only [endStoppedDelay, holdings_raiseEvent]; rfl
@[simp] theorem holdings_raiseEnded (k n : Nat) : holdings (raiseEnded k n s) = holdings s := by
  unfold raiseEnded; split <;> simp
@[simp] theorem holdings_callReads : holdings (callReads s) = holdings s := by rw [callReads_eq]; rfl
@[simp] theorem holdings_carryLookahead : holdings (carryLookahead s) = holdings s := rfl
@[simp] theorem holdings_stand (p : Phase) (c : Nat) : holdings (stand p c s) = holdings s := rfl
@[simp] theorem holdings_leaveEntry (p : Phase) : holdings (leaveEntry p s) = holdings s := rfl
@[simp] theorem holdings_endSchedule : holdings (endSchedule s) = holdings s := by
  simp only [endSchedule]; split
  · exact (holdings_raiseEvent _ _ _).trans (holdings_stand _ _)
  · simp
@[simp] theorem holdings_skipEntry (i g : Nat) : holdings (skipEntry i g s) = holdings s := by
  simp only [skipEntry, holdings_raiseEvent, holdings_raiseEnded]; rfl
@[simp] theorem holdings_seek (fuel i : Nat) : holdings (seek fuel i s).2 = holdings s := by
  induction fuel generalizing i s with
  | zero => rfl
  | succ n ih =>
    unfold seek; split
    · simp [ih]
    · rw [ih]; rfl
    · rfl

/-! ## One descriptor replaced -/

@[simp] theorem setDescriptor_segments (id : Nat) (d : Descriptor) :
    (setDescriptor id d s).segments = tset s.segments id d := rfl

/-- Equal holdings have the same verification queue. -/
theorem queue_of_holdings (h : holdings t = holdings s) : t.verifier.queue = s.verifier.queue :=
  congrArg (fun x => x.2.2.1) h

/-- A descriptor replaced and pages of it released: the laws are kept where the new descriptor is lawful, the pages it
has and the released ones are those that were there, and its targets in the queue are VERIFYING. -/
theorem ownershipLaw_of_descriptor {id : Nat} {d : Descriptor} {pages : List Nat} (h : ownershipLaw s) (hid : id < 64)
    (hseg : t.segments = tset s.segments id d) (hslots : t.capture.slots = s.capture.slots)
    (hpool : t.pool = pages.foldl (fun q p => insertNum p q) s.pool)
    (hqueue : t.verifier.queue = s.verifier.queue)
    (hc : ∀ p, (descriptorPages d).count p + pages.count p = (descriptorPages (descriptor s id)).count p)
    (hd : descriptorLaw d) (hv : ∀ r, ⟨id, r⟩ ∈ s.verifier.queue → verifyingIn d r) : ownershipLaw t := by
  obtain ⟨hp, hs⟩ := h
  obtain ⟨hlaw, hnodup, htargets⟩ := segmentLaw_iff.1 hs
  have hdesc : ∀ j, descriptor t j = if j = id then d else descriptor s j := fun j => by
    rw [descriptor, hseg]; exact tget_tset _ _ _ _ hid
  refine ⟨pageLaw_of_release hp hpool fun p => ?_, segmentLaw_iff.2 ⟨fun j hj => ?_, ?_, fun u hu => ?_⟩⟩
  · have := count_ownedPages_descriptor s.segments s.capture.slots hid d p
    have := hc p
    rw [descriptor] at this
    rw [hseg, hslots]
    omega
  · rw [hdesc]; split
    · exact hd
    · exact hlaw j hj
  · exact hqueue ▸ hnodup
  · rw [hqueue] at hu
    refine ⟨(htargets u hu).1, ?_⟩
    rw [hdesc]; split
    · next e => exact hv u.repl (e ▸ hu)
    · exact (htargets u hu).2

/-- A descriptor replaced by one with the same pages. -/
theorem ownershipLaw_setDescriptor {id : Nat} {d : Descriptor} (h : ownershipLaw s)
    (hpages : descriptorPages d = descriptorPages (descriptor s id))
    (hd : descriptorLaw (descriptor s id) → descriptorLaw d)
    (hv : ∀ r, ⟨id, r⟩ ∈ s.verifier.queue → verifyingIn (descriptor s id) r → verifyingIn d r) :
    ownershipLaw (setDescriptor id d s) := by
  by_cases hid : id < 64
  · obtain ⟨hlaw, -, htargets⟩ := segmentLaw_iff.1 h.2
    exact ownershipLaw_of_descriptor (pages := []) h hid rfl rfl rfl rfl (fun p => by simp [hpages]) (hd (hlaw id hid))
      (fun r hr => hv r hr (htargets _ hr).2)
  · rwa [setDescriptor_out _ (Nat.not_lt.mp hid)]

/-- What a descriptor that keeps its state, its data and its replacement changes does not matter to the laws. -/
theorem ownershipLaw_setDescriptor_same {id : Nat} {d : Descriptor} (h : ownershipLaw s)
    (hstate : d.state = (descriptor s id).state) (hdata : d.data = (descriptor s id).data)
    (hrepl : d.repl = (descriptor s id).repl) : ownershipLaw (setDescriptor id d s) :=
  ownershipLaw_setDescriptor h (by rw [descriptorPages, descriptorPages, hdata, hrepl])
    (by rw [descriptorLaw, descriptorLaw, hstate, hdata, hrepl]; exact fun hl => hl)
    (fun r _ => by rw [verifyingIn, verifyingIn, hstate, hrepl]; exact fun hv => hv)

/-- A segment's READY replacement is not a target of verification. -/
theorem not_mem_of_repl_state {id : Nat} {r : Replacement} (h : segmentLaw s) (hr : (descriptor s id).repl = some r)
    (hstate : r.state ≠ .verifying) : ⟨id, true⟩ ∉ s.verifier.queue := fun hm => by
  obtain ⟨-, -, hv⟩ := h.2.2 _ hm
  obtain ⟨r', hr', hv⟩ := hv rfl
  rw [hr] at hr'
  cases hr'
  exact hstate hv

/-- A segment without a replacement has none among the targets of verification. -/
theorem not_mem_of_repl_none {id : Nat} (h : segmentLaw s) (hr : (descriptor s id).repl = none) :
    ⟨id, true⟩ ∉ s.verifier.queue := fun hm => by
  obtain ⟨-, -, hv⟩ := h.2.2 _ hm
  obtain ⟨r, hr', -⟩ := hv rfl
  rw [hr] at hr'
  cases hr'

/-- A descriptor that is not VERIFYING is not a target of verification. -/
theorem not_mem_of_state {id : Nat} (h : segmentLaw s) (hd : (descriptor s id).state ≠ .verifying) :
    ⟨id, false⟩ ∉ s.verifier.queue := fun hm => hd ((h.2.2 _ hm).2.1 rfl)

/-- R22, R23: a descriptor with a replacement is READY or DAMAGED. -/
theorem state_of_repl {id : Nat} {r : Replacement} (h : segmentLaw s) (hr : (descriptor s id).repl = some r) :
    (descriptor s id).state = .ready ∨ (descriptor s id).state = .damaged :=
  (h.1 id (lt_of_repl hr)).2 (by rw [hr]; exact Option.some_ne_none r)

/-- A descriptor that is neither READY nor DAMAGED has no replacement. -/
theorem repl_of_state {id : Nat} (h : segmentLaw s) (hr : (descriptor s id).state ≠ .ready)
    (hd : (descriptor s id).state ≠ .damaged) : (descriptor s id).repl = none := by
  rcases e : (descriptor s id).repl with _ | r
  · rfl
  · rcases state_of_repl h e with hs | hs
    · exact absurd hs hr
    · exact absurd hs hd

theorem descriptorPages_some {d : Descriptor} {r : Replacement} (h : d.repl = some r) :
    descriptorPages d = d.data.pages ++ r.data.pages := by simp [descriptorPages, h]

theorem descriptorPages_none {d : Descriptor} (h : d.repl = none) : descriptorPages d = d.data.pages := by
  simp [descriptorPages, h]

/-! ## The verification queue -/

theorem dropTarget_queue (u : Target) (s : State) : (dropTarget u s).verifier.queue = s.verifier.queue.erase u := by
  unfold dropTarget; split <;> rfl

@[simp] theorem descriptor_dropTarget (u : Target) (id : Nat) : descriptor (dropTarget u s) id = descriptor s id := by
  simp [descriptor]

/-- R29: a target that leaves the verification queue. -/
theorem ownershipLaw_dropTarget (u : Target) (h : ownershipLaw s) : ownershipLaw (dropTarget u s) := by
  obtain ⟨hp, hs⟩ := h
  obtain ⟨hlaw, hnodup, htargets⟩ := segmentLaw_iff.1 hs
  refine ⟨?_, segmentLaw_iff.2 ⟨fun id hid => ?_, ?_, fun v hv => ?_⟩⟩
  · simpa only [pageLaw, dropTarget_pool, dropTarget_segments, dropTarget_capture] using hp
  · rw [descriptor_dropTarget]; exact hlaw id hid
  · rw [dropTarget_queue]; exact hnodup.erase u
  · rw [dropTarget_queue] at hv
    rw [descriptor_dropTarget]
    exact htargets v (List.mem_of_mem_erase hv)

theorem not_mem_dropTarget {u : Target} (h : segmentLaw s) : u ∉ (dropTarget u s).verifier.queue := by
  rw [dropTarget_queue]; exact h.2.1.not_mem_erase

/-! ## Segments -/

/-- R38: a swap, once the replacement is no target of verification any more. -/
theorem ownershipLaw_swapIn (id : Nat) (h : ownershipLaw s) (hq : ⟨id, true⟩ ∉ s.verifier.queue) :
    ownershipLaw (swapIn id s) := by
  unfold swapIn
  split
  · exact h
  · next r hr =>
    have hnv : ⟨id, false⟩ ∉ s.verifier.queue := not_mem_of_state h.2 fun hv => by
      rcases state_of_repl h.2 hr with e | e <;> rw [hv] at e <;> cases e
    have hswap : ownershipLaw (releasePages (descriptor s id).data.pages (carriedAtSwap id
        (setDescriptor id { descriptor s id with state := .ready, data := r.data, doubleErrors := 0, repl := none } s))) := by
      refine ownershipLaw_of_descriptor
        (d := { descriptor s id with state := .ready, data := r.data, doubleErrors := 0, repl := none })
        h (lt_of_repl hr) (by simp) (by simp) (by rw [releasePages_pool]; rfl) (by simp) (fun p => ?_)
        ⟨nofun, fun hn => absurd rfl hn⟩ fun b hb => ?_
      · rw [descriptorPages_none rfl, descriptorPages_some hr, List.count_append]
        exact Nat.add_comm _ _
      · cases b
        · exact absurd hb hnv
        · exact absurd hb hq
    exact hswap.of_holdings (by simp)

/-- R36, R37: a play of a segment ends, with the swap if one waits. -/
theorem ownershipLaw_endSegPlay (id : Nat) (h : ownershipLaw s) : ownershipLaw (endSegPlay id s) := by
  have h1 : ownershipLaw (setDescriptor id { descriptor s id with inPlay := false } s) :=
    ownershipLaw_setDescriptor_same h rfl rfl rfl
  simp only [endSegPlay]
  split
  · next hw =>
    refine ownershipLaw_swapIn id h1 ?_
    unfold waitingRepl at hw
    split at hw
    · next r hr =>
      split at hw
      · next hready => exact not_mem_of_repl_state h1.2 hr (by rw [hready]; nofun)
      · cases hw
    · cases hw
  · exact h1

theorem ownershipLaw_addDoubleErrors (id k : Nat) (h : ownershipLaw s) : ownershipLaw (addDoubleErrors id k s) :=
  ownershipLaw_setDescriptor_same h rfl rfl rfl

theorem ownershipLaw_markDamaged (id o : Nat) (h : ownershipLaw s) : ownershipLaw (markDamaged id o s) := by
  unfold markDamaged
  split
  · next hready =>
    have hd : ownershipLaw (setDescriptor id { descriptor s id with state := .damaged } s) :=
      ownershipLaw_setDescriptor h rfl (fun _ => ⟨nofun, fun _ => .inr rfl⟩)
        fun b _ hv => ⟨fun hb => absurd (hready.symm.trans (hv.1 hb)) nofun, hv.2⟩
    exact hd.of_holdings (by simp)
  · exact h

/-- R33: a replacement that is no target of verification ceases to exist. -/
theorem ownershipLaw_removeReplacement (id : Nat) (h : ownershipLaw s) (hq : ⟨id, true⟩ ∉ s.verifier.queue) :
    ownershipLaw (removeReplacement id s) := by
  unfold removeReplacement
  split
  · exact h
  · next r hr =>
    refine ownershipLaw_of_descriptor (d := { descriptor s id with repl := none }) h (lt_of_repl hr) (by simp) (by simp)
      (by rw [releasePages_pool]; rfl) (by simp) (fun p => ?_) ⟨(h.2.1 id (lt_of_repl hr)).1, fun hn => absurd rfl hn⟩ fun b hb => ?_
    · rw [descriptorPages_none rfl, descriptorPages_some hr, List.count_append]
    · cases b
      · exact ⟨fun _ => (h.2.2.2 _ hb).2.1 rfl, nofun⟩
      · exact absurd hb hq

theorem descriptor_removeReplacement {id : Nat} : descriptor (removeReplacement id s) id =
    { descriptor s id with repl := none } := by
  unfold removeReplacement
  split
  · next hr => rw [← hr]
  · next r hr =>
    simp only [descriptor, releasePages_segments, dropCarried_segments]
    exact tget_tset_same _ _ (lt_of_repl hr)

theorem removeReplacement_verifier (id : Nat) : (removeReplacement id s).verifier = s.verifier := by
  unfold removeReplacement; split <;> simp

theorem waitingRepl_isSome {id : Nat} (h : (waitingRepl id s).isSome = true) :
    ∃ r, (descriptor s id).repl = some r ∧ r.state = .ready := by
  unfold waitingRepl at h
  split at h
  · next r hr =>
    split at h
    · next hready => exact ⟨r, hr, hready⟩
    · cases h
  · cases h

theorem ownershipLaw_dropReplacement (id : Nat) (h : ownershipLaw s) : ownershipLaw (dropReplacement id s) := by
  unfold dropReplacement
  split
  · next hw =>
    obtain ⟨r, hr, hready⟩ := waitingRepl_isSome hw
    exact (ownershipLaw_removeReplacement id h (not_mem_of_repl_state h.2 hr (by rw [hready]; nofun))).of_holdings
      (by simp)
  · exact h

/-- R32 to R34: a descriptor without a replacement that is no target of verification becomes EMPTY. -/
theorem ownershipLaw_emptyDescriptor {id : Nat} (h : ownershipLaw s) (hid : id < 64)
    (hr : (descriptor s id).repl = none) (hq : ⟨id, false⟩ ∉ s.verifier.queue) :
    ownershipLaw (emptyDescriptor id s) := by
  refine ownershipLaw_of_descriptor (d := .blank) h hid (by simp [emptyDescriptor]) (by simp [emptyDescriptor])
    (by rw [emptyDescriptor, releasePages_pool]; rfl) (by simp [emptyDescriptor]) (fun p => ?_)
    ⟨fun _ => rfl, fun hn => absurd rfl hn⟩ fun b hb => ?_
  · rw [descriptorPages_none rfl, descriptorPages_none hr]
    simp [Descriptor.blank, SegData.blank]
  · cases b
    · exact absurd hb hq
    · exact absurd hb (not_mem_of_repl_none h.2 hr)

/-- R32: a target of the verification queue is rejected. -/
theorem ownershipLaw_rejectTarget {u : Target} (m : Bool) (h : ownershipLaw s) (hu : u ∈ s.verifier.queue) :
    ownershipLaw (rejectTarget u m s) := by
  have hd := ownershipLaw_dropTarget u h
  have hq := not_mem_dropTarget (u := u) h.2
  obtain ⟨hid, hv, -⟩ := h.2.2.2 u hu
  obtain ⟨seg, repl⟩ := u
  unfold rejectTarget
  cases repl
  · have hstate := hv rfl
    have hr : (descriptor s seg).repl = none := repl_of_state h.2 (by rw [hstate]; nofun) (by rw [hstate]; nofun)
    exact (ownershipLaw_emptyDescriptor hd hid (by rwa [descriptor_dropTarget]) hq).of_holdings (by simp)
  · exact (ownershipLaw_removeReplacement seg hd hq).of_holdings (by simp)

/-- R31: a target of the verification queue becomes READY, and a replacement of a segment not in play is swapped in. -/
theorem ownershipLaw_readyTarget {u : Target} (h : ownershipLaw s) (hu : u ∈ s.verifier.queue) :
    ownershipLaw (readyTarget u s) := by
  have hd := ownershipLaw_dropTarget u h
  have hq := not_mem_dropTarget (u := u) h.2
  obtain ⟨hid, hv, -⟩ := h.2.2.2 u hu
  obtain ⟨seg, repl⟩ := u
  simp only [readyTarget]
  cases repl
  · have hset : ownershipLaw (setDescriptor seg { descriptor s seg with
        state := .ready
        data := { (descriptor s seg).data with dataCrc := some (descriptor s seg).data.expected } }
        (dropTarget ⟨seg, false⟩ s)) := by
      refine ownershipLaw_setDescriptor hd (by rw [descriptor_dropTarget]; rfl) (fun _ => ⟨nofun, fun _ => .inl rfl⟩)
        fun b hb hvb => ?_
      cases b
      · exact absurd hb hq
      · exact ⟨nofun, fun _ => by simpa using hvb.2 rfl⟩
    exact hset.of_holdings (by simp)
  · simp only [if_true]
    split
    · exact hd
    · next r hr =>
      have hset : ownershipLaw (setDescriptor seg { descriptor s seg with
          repl := some { state := .ready, data := { r.data with dataCrc := some r.data.expected } } }
          (dropTarget ⟨seg, true⟩ s)) := by
        refine ownershipLaw_setDescriptor hd ?_ ?_ fun b hb hvb => ?_
        · rw [descriptor_dropTarget, descriptorPages_some rfl, descriptorPages_some hr]
        · rw [descriptor_dropTarget]
          exact fun hl => ⟨hl.1, fun _ => hl.2 (by rw [hr]; exact Option.some_ne_none r)⟩
        · cases b
          · exact ⟨fun _ => by simpa using hvb.1 rfl, nofun⟩
          · exact absurd hb hq
      split
      · exact hset.of_holdings (by simp)
      · refine ownershipLaw_swapIn seg (hset.of_holdings (by simp)) ?_
        rw [queue_of_holdings ((holdings_segChanged _).trans (holdings_raiseEvent _ _ _))]
        exact hq

end Sys2Proof.Machine
end

section
/-! PROOF. Page ownership through the capture unit, the faults, the sequencer and the arbiter's completions: each keeps
`ownershipLaw`. -/

namespace Sys2Proof.Machine

variable {s t : State}

/-! ## Captures -/

@[simp] theorem setSlot_slots (i : Nat) (r : Option CaptureRecord) :
    (setSlot i r s).capture.slots = tset s.capture.slots i r := rfl

/-- What R22, R23 and R29 say of a state does not depend on its captures and its pool. -/
theorem segmentLaw_congr (hseg : t.segments = s.segments) (hq : t.verifier = s.verifier) :
    segmentLaw t ↔ segmentLaw s := by simp only [segmentLaw, descriptor, hseg, hq]

/-- A slot's record replaced by one with the same pages. -/
theorem ownershipLaw_setSlot {i : Nat} {r : Option CaptureRecord} (h : ownershipLaw s)
    (hp : slotPages r = slotPages (slot s i)) : ownershipLaw (setSlot i r s) := by
  by_cases hi : i < 32
  · refine ⟨pageLaw_of_count h.1 h.1.1 fun p => ?_, (segmentLaw_congr rfl rfl).2 h.2⟩
    have := count_ownedPages_slot s.segments s.capture.slots hi r p
    rw [slot] at hp
    rw [hp] at this
    rw [setSlot_slots, setSlot_segments, setSlot_pool]
    omega
  · rwa [setSlot, tset_out _ _ (Nat.not_lt.mp hi)]

/-- R5: the lowest page of the pool comes to a record. -/
theorem ownershipLaw_takePage {i page : Nat} {r : CaptureRecord} {s1 : State} (h : ownershipLaw s) (hi : i < 32)
    (ha : allocateOne s = some (page, s1)) (hp : r.pages = slotPages (slot s i) ++ [page]) :
    ownershipLaw (setSlot i (some r) s1) := by
  obtain ⟨rest, hpool, rfl⟩ := allocateOne_some ha
  refine ⟨pageLaw_of_take (pages := [page]) h.1 (by simp [hpool]) fun p => ?_, (segmentLaw_congr rfl rfl).2 h.2⟩
  have := count_ownedPages_slot s.segments s.capture.slots hi (some r) p
  rw [slotPages, hp, List.count_append, slot] at this
  rw [setSlot_slots, setSlot_segments]
  simp only
  omega

theorem freeSlot_some {i : Nat} (h : freeSlot s = some i) : i < 32 ∧ slot s i = none := by
  have hf := List.find?_some h
  have hm := List.mem_of_find?_eq_some h
  exact ⟨List.mem_range.1 hm, Option.isNone_iff_eq_none.1 hf⟩

theorem ownershipLaw_openCapture (e g : Nat) (h : ownershipLaw s) : ownershipLaw (openCapture e g s) := by
  simp only [openCapture]
  split
  · exact h.of_holdings (by simp)
  · split
    · exact h.of_holdings (by simp)
    · next i hi =>
      obtain ⟨hi, hfree⟩ := freeSlot_some hi
      split
      · exact h.of_holdings (by simp)
      · next page s1 ha =>
        exact (ownershipLaw_takePage h hi ha (by rw [hfree]; rfl)).of_holdings rfl

theorem ownershipLaw_reportCapture (i o : Nat) (h : ownershipLaw s) : ownershipLaw (reportCapture i o s) := by
  unfold reportCapture
  split
  · exact h
  · next r hr =>
    split
    · exact h
    · have hset : ownershipLaw (setSlot i (some { r with damaged := true }) s) :=
        ownershipLaw_setSlot h (by rw [hr]; rfl)
      exact hset.of_holdings (by simp)

theorem ownershipLaw_captureFrame (h : ownershipLaw s) : ownershipLaw (captureFrame s) := by
  unfold captureFrame
  split
  · exact h
  · next i _ =>
    split
    · exact h
    · next r hr =>
      split
      · split
        · split
          · next page s1 ha =>
            exact (ownershipLaw_takePage h (lt_of_slot hr) ha (by rw [hr]; rfl)).of_holdings rfl
          · have hset : ownershipLaw (setSlot i (some { r with state := .truncated }) s) :=
              ownershipLaw_setSlot h (by rw [hr]; rfl)
            exact hset.of_holdings (by simp)
        · exact h.of_holdings rfl
      · exact h

@[simp] theorem closedRecord_pages (e : Bool) (r : CaptureRecord) : (closedRecord e r).pages = r.pages := by
  unfold closedRecord; split <;> rfl

theorem ownershipLaw_closeRecord (e : Bool) (h : ownershipLaw s) : ownershipLaw (closeRecord e s) := by
  simp only [closeRecord]
  split
  · exact h.of_holdings rfl
  · split
    · exact h.of_holdings rfl
    · next r hr =>
      have hset := ownershipLaw_setSlot (r := some (closedRecord e r)) h (by rw [hr]; exact closedRecord_pages e r)
      exact hset.of_holdings rfl

theorem ownershipLaw_closeCapture (a : Bool) (h : ownershipLaw s) : ownershipLaw (closeCapture a s) := by
  unfold closeCapture
  split
  · exact ownershipLaw_closeRecord a h
  · exact h.of_holdings rfl

theorem ownershipLaw_countFrame (h : ownershipLaw s) : ownershipLaw (countFrame s) := by
  unfold countFrame
  split
  · exact h.of_holdings rfl
  · split
    · exact h.of_holdings rfl
    · next r hr =>
      have hset := ownershipLaw_setSlot (r := some { r with frames := r.frames + 1 }) h (by rw [hr]; rfl)
      exact hset.of_holdings rfl

theorem ownershipLaw_endPlay (a j : Bool) (h : ownershipLaw s) : ownershipLaw (endPlay a j s) := by
  simp only [endPlay]
  split
  · next p _ =>
    have hseg : ownershipLaw (endSegPlay p.seg (withdrawReads .play s)) := ownershipLaw_endSegPlay _ (h.of_holdings rfl)
    have hsum := hseg.of_holdings (holdings_closeSummary a j)
    exact ownershipLaw_closeCapture a (hsum.of_holdings rfl)
  · exact h

/-! ## Faults -/

theorem ownershipLaw_endJoinWait (h : ownershipLaw s) : ownershipLaw (endJoinWait s) := by
  unfold endJoinWait
  split
  · split
    · exact ownershipLaw_endSegPlay _ h
    · exact h
  · exact h

theorem ownershipLaw_abortEntry (h : ownershipLaw s) : ownershipLaw (abortEntry s) :=
  (ownershipLaw_endPlay true false (ownershipLaw_endJoinWait (s := voidLookahead s) (h.of_holdings rfl))).of_holdings rfl

theorem ownershipLaw_enterParking (h : ownershipLaw s) : ownershipLaw (enterParking s) :=
  ((ownershipLaw_abortEntry (s := { s with run.state := .parking }) (h.of_holdings rfl)).of_holdings
    holdings_endWait).of_holdings rfl

theorem ownershipLaw_enterUnloading (h : ownershipLaw s) : ownershipLaw (enterUnloading s) :=
  ((ownershipLaw_abortEntry (s := { s with run.state := .unloading }) (h.of_holdings rfl)).of_holdings
    holdings_endWait).of_holdings rfl

theorem ownershipLaw_freeze (h : ownershipLaw s) : ownershipLaw (freeze s) :=
  ((ownershipLaw_abortEntry (s := pressureFall { s with run.state := .frozen, run.unload := .idle })
    (h.of_holdings rfl)).of_holdings holdings_endWait).of_holdings rfl

theorem ownershipLaw_stopAction (h : ownershipLaw s) : ownershipLaw (stopAction s) := by
  unfold stopAction
  split
  case h_9 =>
    split
    · split
      · exact h.of_holdings (by simp)
      · exact h.of_holdings rfl
    · exact h
  case h_7 => exact h
  case h_8 => exact h
  all_goals exact ownershipLaw_enterUnloading h

theorem ownershipLaw_handAction (a : Option FaultClass) (h : ownershipLaw s) : ownershipLaw (handAction a s) := by
  unfold handAction
  split
  · exact ownershipLaw_freeze h
  · exact ownershipLaw_stopAction h
  · exact h

theorem ownershipLaw_formAction (h : ownershipLaw s) : ownershipLaw (formAction s) := by
  unfold formAction
  split
  · exact h
  · exact ownershipLaw_handAction _ (h.of_holdings rfl)

theorem ownershipLaw_raise (k n : Nat) (h : ownershipLaw s) : ownershipLaw (raise k n s) := by
  simp only [raise]
  split
  · exact h
  · refine (ownershipLaw_formAction ?_).of_holdings rfl
    split <;> exact h.of_holdings (by simp)

/-! ## The sequencer -/

@[simp] theorem holdings_enterEntry (i : Nat) : holdings (enterEntry i s) = holdings s := rfl

theorem ownershipLaw_beginPlay (i : Nat) (p : PlayEntry) (b : Bool) (h : ownershipLaw s) :
    ownershipLaw (beginPlay i p b s) := by
  have hplay : ownershipLaw (setDescriptor p.seg { descriptor s p.seg with inPlay := true } s) :=
    ownershipLaw_setDescriptor_same h rfl rfl rfl
  simp only [beginPlay]
  rw [ownershipLaw_congr (holdings_installLookahead.trans (holdings_enterEntry i))]
  split
  · exact ownershipLaw_openCapture _ _ (hplay.of_holdings rfl)
  · exact hplay.of_holdings rfl

theorem ownershipLaw_advance (fuel i : Nat) (h : ownershipLaw s) : ownershipLaw (advance fuel i s) := by
  induction fuel generalizing i s with
  | zero => exact h
  | succ n ih =>
    unfold advance
    split
    · exact h.of_holdings (by simp)
    · exact ih _ (h.of_holdings (by simp))
    · exact ih _ (h.of_holdings rfl)
    · exact h.of_holdings rfl
    · split
      · exact ownershipLaw_beginPlay _ _ _ h
      · split
        · exact ih _ (h.of_holdings (by simp))
        · exact ownershipLaw_raise _ _ (h.of_holdings (holdings_stand _ _))

theorem ownershipLaw_proceed (h : ownershipLaw s) : ownershipLaw (proceed s) := by
  unfold proceed
  split
  · exact h
  · split
    · split
      · exact ownershipLaw_beginPlay _ _ _ h
      · exact h
    · split
      · split
        · exact ownershipLaw_advance _ _ h
        · exact ownershipLaw_advance _ _ h
        · exact h
      · exact h

theorem ownershipLaw_enterRunning (h : ownershipLaw s) : ownershipLaw (enterRunning s) :=
  ownershipLaw_proceed ((h.of_holdings (t := { s with run.state := .running }) rfl).of_holdings holdings_callReads)

theorem ownershipLaw_pauseEmptied (h : ownershipLaw s) : ownershipLaw (pauseEmptied s) := by
  unfold pauseEmptied
  split
  · split
    · refine ownershipLaw_enterRunning (ownershipLaw.of_holdings ?_ (holdings_raiseEvent _ _ _))
      exact h.of_holdings rfl
    · refine ownershipLaw_enterRunning (ownershipLaw.of_holdings ?_ (holdings_raiseEvent _ _ _))
      exact h.of_holdings rfl
    · exact h
  · exact h

theorem ownershipLaw_faultEnd (k : Nat) (h : ownershipLaw s) : ownershipLaw (faultEnd k s) := by
  have hend : ownershipLaw (leaveSet k (endSource k s)) := h.of_holdings (by simp)
  simp only [faultEnd]
  split
  · refine (ownershipLaw_formAction ?_).of_holdings rfl
    split
    · exact ownershipLaw_pauseEmptied hend
    · exact hend
  · exact h

theorem ownershipLaw_recheckMissing (id : Nat) (h : ownershipLaw s) : ownershipLaw (recheckMissing id s) := by
  unfold recheckMissing
  split
  · split
    · split
      · exact ownershipLaw_faultEnd 35 h
      · exact h
    · exact h
  · exact h

theorem ownershipLaw_endEntry (p : PlayParams) (h : ownershipLaw s) : ownershipLaw (endEntry p s) :=
  ownershipLaw_proceed ((ownershipLaw_endPlay false false h).of_holdings (holdings_leaveEntry _))

theorem ownershipLaw_makeJoin (j id : Nat) (h : ownershipLaw s) : ownershipLaw (makeJoin j id s) := by
  have hleft : ownershipLaw (leaveEntry .awaiting (endPlay false true s)) :=
    (ownershipLaw_endPlay false true h).of_holdings (holdings_leaveEntry _)
  have hplay := ownershipLaw_setDescriptor_same (id := id)
    (d := { descriptor (leaveEntry .awaiting (endPlay false true s)) id with inPlay := true }) hleft rfl rfl rfl
  exact ownershipLaw_proceed (hplay.of_holdings rfl)

theorem ownershipLaw_failJoin (p : PlayParams) (j : Nat) (h : ownershipLaw s) : ownershipLaw (failJoin p j s) := by
  simp only [failJoin]
  split
  · exact ownershipLaw_endEntry _ (h.of_holdings rfl)
  · exact h.of_holdings rfl

theorem ownershipLaw_join (p : PlayParams) (h : ownershipLaw s) : ownershipLaw (join p s) := by
  have hseek : ownershipLaw (seek advanceFuel (s.sequencer.cursor + 1) (carryLookahead s)).2 :=
    h.of_holdings (by simp)
  simp only [join]
  split
  · split
    · exact ownershipLaw_makeJoin _ _ hseek
    · exact ownershipLaw_failJoin _ _ hseek
  · exact ownershipLaw_failJoin _ _ hseek

theorem ownershipLaw_lastDriveFrame (p : PlayParams) (h : ownershipLaw s) : ownershipLaw (lastDriveFrame p s) := by
  unfold lastDriveFrame
  split
  · exact ownershipLaw_join p h
  · split
    · exact ownershipLaw_endEntry p (h.of_holdings rfl)
    · exact h.of_holdings rfl

theorem ownershipLaw_endDwell (h : ownershipLaw s) : ownershipLaw (endDwell s) :=
  ownershipLaw_proceed (h.of_holdings rfl)

/-! ## Completions -/

@[simp] theorem holdings_setPrefetch (q : Prefetch) : holdings (setPrefetch q s) = holdings s := by
  unfold setPrefetch; split <;> rfl
@[simp] theorem holdings_finishCaptureRead (j : CaptureJob) : holdings (finishCaptureRead j s) = holdings s := by
  unfold finishCaptureRead; split <;> simp
@[simp] theorem holdings_moveSweep (p w : Nat) : holdings (moveSweep p w s) = holdings s := by
  unfold moveSweep; split <;> rfl
@[simp] theorem holdings_segDataWritten (lost : Bool) : holdings (segDataWritten lost s) = holdings s := by
  unfold segDataWritten
  split
  · split
    · simp
    · split <;> simp
  · rfl

theorem ownershipLaw_substitute (p : PlayParams) (i : Nat) (h : ownershipLaw s) : ownershipLaw (substitute p i s) := by
  simp only [substitute]
  have hmark (k : Nat) (cs : List Nat) (u : State) (hu : ownershipLaw u) :
      ownershipLaw (markDamaged p.seg 2 (countMemoryErrors cs (addDoubleErrors p.seg k u))) :=
    ownershipLaw_markDamaged _ _ ((ownershipLaw_addDoubleErrors _ _ hu).of_holdings (holdings_countMemoryErrors _))
  split
  · exact hmark _ _ _ (h.of_holdings rfl)
  · exact ownershipLaw_raise _ _ (hmark _ _ _ (h.of_holdings rfl))

theorem ownershipLaw_playRead (i : Nat) (o : ReadOutcome) (v : List Sample) (h : ownershipLaw s) :
    ownershipLaw (playRead i o v s) := by
  unfold playRead
  split
  · simp only
    split
    · exact ownershipLaw_substitute _ _ (h.of_holdings rfl)
    · exact h.of_holdings rfl
  · exact h

theorem ownershipLaw_prefetchRead (i : Nat) (o : ReadOutcome) (v : List Sample) (h : ownershipLaw s) :
    ownershipLaw (prefetchRead i o v s) := by
  unfold prefetchRead
  split
  · simp only
    split
    · split
      · exact ownershipLaw_dropReplacement _ (h.of_holdings (holdings_setPrefetch _))
      · exact ownershipLaw_markDamaged _ _ (ownershipLaw_addDoubleErrors _ _ (h.of_holdings (holdings_setPrefetch _)))
    · exact h.of_holdings (holdings_setPrefetch _)
  · exact h

theorem ownershipLaw_verifyRead (o : ReadOutcome) (v : List Sample) (h : ownershipLaw s) :
    ownershipLaw (verifyRead o v s) := by
  unfold verifyRead
  split
  · exact h
  · next u rest hq =>
    have hu : u ∈ s.verifier.queue := by rw [hq]; exact List.mem_cons_self
    split
    · exact ownershipLaw_recheckMissing _ (ownershipLaw_rejectTarget true h hu)
    · simp only
      split
      · split
        · exact ownershipLaw_recheckMissing _ (ownershipLaw_readyTarget h hu)
        · exact ownershipLaw_recheckMissing _ (ownershipLaw_rejectTarget false h hu)
      · exact h.of_holdings rfl

theorem ownershipLaw_captureReadDone (i : Nat) (o : ReadOutcome) (v : List Sample) (h : ownershipLaw s) :
    ownershipLaw (captureReadDone i o v s) := by
  unfold captureReadDone
  split
  · refine ownershipLaw.of_holdings ?_ (holdings_finishCaptureRead _)
    split
    · exact ownershipLaw_reportCapture _ _ h
    · exact h
  · exact h

theorem ownershipLaw_deliverRead (i : Nat) (q : ReadPurpose) (o : ReadOutcome) (v : List Sample) (h : ownershipLaw s) :
    ownershipLaw (deliverRead i q o v s) := by
  unfold deliverRead
  split
  · exact ownershipLaw_playRead i o v h
  · exact ownershipLaw_prefetchRead i o v h
  · exact ownershipLaw_verifyRead o v h
  · exact ownershipLaw_captureReadDone i o v h

theorem ownershipLaw_captureWritten (lost : Bool) (h : ownershipLaw s) : ownershipLaw (captureWritten lost s) := by
  unfold captureWritten
  split
  · exact h
  · next op rest _ =>
    have hrest (u : State) (hu : ownershipLaw u) : ownershipLaw
        (if rest.isEmpty then
          if (countFrame u).capture.closing then proceed (closeRecord false (countFrame u)) else countFrame u
        else u) := by
      split
      · split
        · exact ownershipLaw_proceed (ownershipLaw_closeRecord _ (ownershipLaw_countFrame hu))
        · exact ownershipLaw_countFrame hu
      · exact hu
    simp only
    refine hrest _ ?_
    split
    · exact ownershipLaw_reportCapture _ _ (h.of_holdings rfl)
    · exact h.of_holdings rfl

theorem ownershipLaw_deliverWrite (r : Requestor) (lost : Bool) (h : ownershipLaw s) :
    ownershipLaw (deliverWrite r lost s) := by
  unfold deliverWrite
  split
  · exact ownershipLaw_captureWritten lost h
  · exact h.of_holdings (holdings_segDataWritten lost)
  · exact h
  · exact h

theorem ownershipLaw_reportPage (p : Nat) (h : ownershipLaw s) : ownershipLaw (reportPage p s) := by
  unfold reportPage
  split
  · exact ownershipLaw_markDamaged _ _ h
  · exact ownershipLaw_dropReplacement _ h
  · exact ownershipLaw_reportCapture _ _ h
  · exact h

theorem ownershipLaw_completeGranted (found : ReadOutcome) (h : ownershipLaw s) :
    ownershipLaw (completeGranted found s) := by
  unfold completeGranted
  split
  · exact h
  · split
    · simp only [completeRead]
      split
      · exact ownershipLaw_deliverRead _ _ _ _ (h.of_holdings rfl)
      · exact h.of_holdings rfl
    · simp only [completeWrite]
      split <;> exact ownershipLaw_deliverWrite _ _ (h.of_holdings rfl)
    · simp only [completeScrub]
      have hmove (p w : Nat) (u : State) (hu : ownershipLaw u) : ownershipLaw (moveSweep p w u) :=
        hu.of_holdings (holdings_moveSweep p w)
      split
      · exact ownershipLaw_reportPage _ (hmove _ _ _ (h.of_holdings rfl))
      · exact hmove _ _ _ (h.of_holdings rfl)

theorem ownershipLaw_drain (fuel : Nat) (h : ownershipLaw s) : ownershipLaw (drain fuel s) := by
  induction fuel generalizing s with
  | zero => exact h
  | succ n ih =>
    unfold drain
    split
    · exact ih ((ownershipLaw_completeGranted .clean (h.of_holdings holdings_settle)).of_holdings holdings_settle)
    · exact h

end Sys2Proof.Machine
end

section
/-! PROOF. Page ownership through the monitors, the frame boundary, the requests and the resets; then O59. -/

namespace Sys2Proof.Machine

variable {s t : State}

/-! ## Monitors and the heartbeat -/

theorem ownershipLaw_applyVerdict (k : Nat) (v : Verdict) (h : ownershipLaw s) : ownershipLaw (applyVerdict k v s) := by
  cases v with
  | none => exact h
  | trips => exact ownershipLaw_raise _ _ (h.of_holdings rfl)
  | untrips => exact ownershipLaw_faultEnd k h

theorem ownershipLaw_applyVerdicts (v : Nat → Verdict) (ks : List Nat) (h : ownershipLaw s) :
    ownershipLaw (ks.foldl (fun t k => applyVerdict k (v k) t) s) := by
  induction ks generalizing s with
  | nil => exact h
  | cons k ks ih => exact ih (ownershipLaw_applyVerdict k (v k) h)

theorem ownershipLaw_deliver (h : ownershipLaw s) : ownershipLaw (deliver s) :=
  ownershipLaw_applyVerdicts _ _ (h.of_holdings rfl)

theorem ownershipLaw_servoCheck (h : ownershipLaw s) : ownershipLaw (servoCheck s) := by
  unfold servoCheck
  split
  · split
    · exact ownershipLaw_raise _ _ h
    · exact h
  · exact h

theorem ownershipLaw_rigLinkCheck (w : Window) (h : ownershipLaw s) : ownershipLaw (rigLinkCheck w s) := by
  unfold rigLinkCheck
  split
  · exact ownershipLaw_raise _ _ h
  · exact h

theorem ownershipLaw_missOf (w : Option Window) (h : ownershipLaw s) : ownershipLaw (missOf w s) := by
  unfold missOf
  split
  · exact ownershipLaw_rigLinkCheck _ (ownershipLaw_deliver (h.of_holdings rfl))
  · exact h

theorem ownershipLaw_takeBytes (bytes : List Byte) (low : Option Nat) (h : ownershipLaw s) :
    ownershipLaw (takeBytes bytes low s) := by
  unfold takeBytes
  split
  · exact h
  · split
    · exact h
    · simp only
      split
      · exact ownershipLaw_servoCheck (ownershipLaw_deliver (h.of_holdings rfl))
      · exact h.of_holdings rfl

theorem ownershipLaw_heartbeatError (h : ownershipLaw s) : ownershipLaw (heartbeatError s) := by
  simp only [heartbeatError]
  split
  all_goals
    split
    · exact ownershipLaw_raise _ _ (h.of_holdings rfl)
    · exact h.of_holdings rfl

/-! ## The frame boundary -/

theorem ownershipLaw_reportEvidence (k : FrameKind) (h : ownershipLaw s) : ownershipLaw (reportEvidence k s) := by
  unfold reportEvidence
  split
  · simp only
    split
    · exact ownershipLaw_captureFrame (h.of_holdings holdings_accumulate)
    · exact h.of_holdings holdings_accumulate
  · exact h

theorem ownershipLaw_reportSequencer (k : FrameKind) (h : ownershipLaw s) : ownershipLaw (reportSequencer k s) := by
  unfold reportSequencer
  split
  · simp only
    split
    · exact ownershipLaw_lastDriveFrame _ (h.of_holdings rfl)
    · exact h.of_holdings rfl
  · split
    · exact ownershipLaw_endEntry _ h
    · exact h
  · simp only
    split
    · exact ownershipLaw_endDwell (h.of_holdings rfl)
    · exact h.of_holdings rfl
  · exact h

@[simp] theorem holdings_endUnloadDelay : holdings (endUnloadDelay s) = holdings s := by
  simp only [endUnloadDelay, holdings_raiseEvent]; rfl

@[simp] theorem holdings_enterStopped : holdings (enterStopped s) = holdings s := rfl

@[simp] theorem holdings_parkArrival : holdings (parkArrival s) = holdings s := by
  unfold parkArrival
  split
  · simp
  · split
    · split
      · split
        · simp
        · rfl
      · simp
    · rfl
  · rfl

theorem ownershipLaw_reportRun (k : FrameKind) (was : RunState) (i : Nat) (h : ownershipLaw s) :
    ownershipLaw (reportRun k was i s) := by
  unfold reportRun
  split
  · split
    · split
      · exact ownershipLaw_enterRunning h
      · exact h.of_holdings rfl
    · exact h
  · split
    · exact h.of_holdings rfl
    · exact h
  · split
    · exact h.of_holdings holdings_parkArrival
    · exact h
  · split
    · exact h.of_holdings holdings_parkArrival
    · exact h
  · exact h

@[simp] theorem holdings_latchSnapshot : holdings (latchSnapshot s) = holdings s := by rw [latchSnapshot_eq]; rfl

theorem ownershipLaw_giveFrame (h : ownershipLaw s) : ownershipLaw (giveFrame s) := by
  unfold giveFrame
  split
  · refine ownershipLaw_reportRun _ _ _ (ownershipLaw_reportSequencer _ (ownershipLaw_reportEvidence _ ?_))
    exact ownershipLaw.of_holdings (s := sendFrame (formFrame s)) (h.of_holdings rfl) holdings_latchSnapshot
  · exact ownershipLaw.of_holdings (s := sendFrame s) (h.of_holdings rfl) holdings_latchSnapshot

theorem ownershipLaw_boundary (missFirst : Bool) (h : ownershipLaw s) : ownershipLaw (boundary missFirst s) := by
  have hopen : ownershipLaw (openWindow (tick (drain drainFuel s))) := (ownershipLaw_drain drainFuel h).of_holdings rfl
  simp only [boundary]
  refine ownershipLaw.of_holdings ?_ (holdings_settle.trans holdings_callReads)
  split
  · exact ownershipLaw_giveFrame (ownershipLaw_drain _ (ownershipLaw_missOf _ hopen))
  · exact ownershipLaw_missOf _ (ownershipLaw_giveFrame hopen)

/-! ## Requests -/

section Requests
variable {f : State → State}

theorem ownershipLaw_onRequest (kind tag : Byte) (body : List Byte) (hf : ∀ u, ownershipLaw u → ownershipLaw (f u))
    (h : ownershipLaw s) : ownershipLaw (onRequest kind tag body f s) := by
  unfold onRequest
  split
  · split
    · exact h.of_holdings rfl
    · split
      · exact h.of_holdings (by rw [answerBusy_eq]; rfl)
      · exact hf _ (h.of_holdings rfl)
  · exact h

theorem ownershipLaw_withLength (n : Nat) (body : List Byte) (hf : ∀ u, ownershipLaw u → ownershipLaw (f u)) (u : State)
    (h : ownershipLaw u) : ownershipLaw (withLength n body f u) := by
  unfold withLength
  split
  · exact hf u h
  · exact h.of_holdings (holdings_answer _ _)

@[simp] theorem holdings_runReply (st : Status) : holdings (runReply st s) = holdings s := holdings_answer _ _

theorem ownershipLaw_onRun (n : Nat) (body : List Byte) (hf : ∀ u, ownershipLaw u → ownershipLaw (f u)) (u : State)
    (h : ownershipLaw u) : ownershipLaw (onRun n body f u) := by
  unfold onRun
  split
  · exact h.of_holdings (holdings_runReply _)
  · split
    · exact h.of_holdings (holdings_runReply _)
    · exact hf u h

theorem ownershipLaw_onSegment {g : Nat → State → State} (fits : Bool) (body : List Byte)
    (hg : (byteAt body 0).toNat < 64 → ∀ u, ownershipLaw u → ownershipLaw (g (byteAt body 0).toNat u)) (u : State)
    (h : ownershipLaw u) :
    ownershipLaw (onSegment fits body g u) := by
  unfold onSegment
  split
  · exact h.of_holdings (holdings_answer _ _)
  · split
    · exact h.of_holdings (holdings_answer _ _)
    · next hid => exact hg (by omega) u h

@[simp] theorem holdings_configReply (st : Status) (x : ConfigExtra) : holdings (configReply st x s) = holdings s :=
  holdings_answer _ _

@[simp] theorem holdings_ageTimer : holdings (ageTimer s) = holdings s := by unfold ageTimer; split <;> rfl

theorem ownershipLaw_onConfig (hf : ∀ u, ownershipLaw u → ownershipLaw (f u)) (u : State) (h : ownershipLaw u) :
    ownershipLaw (onConfig f u) := by
  simp only [onConfig]
  split
  · exact h.of_holdings (by simp)
  · exact hf _ (h.of_holdings holdings_ageTimer)

end Requests

/-! ## Segment requests -/

/-- R5, R26, R27: a descriptor replaced by one that has pages from the front of the pool beside its own. -/
theorem ownershipLaw_of_grown {id n : Nat} {d : Descriptor} {pages : List Nat} (h : ownershipLaw s) (hid : id < 64)
    (hpages : pages = s.pool.take n)
    (hc : ∀ p, (descriptorPages d).count p = (descriptorPages (descriptor s id)).count p + pages.count p)
    (hd : descriptorLaw d) (hv : ∀ r, ⟨id, r⟩ ∈ s.verifier.queue → verifyingIn d r) :
    ownershipLaw (setDescriptor id d { s with pool := s.pool.drop n }) := by
  obtain ⟨hlaw, hnodup, htargets⟩ := segmentLaw_iff.1 h.2
  have hdesc : ∀ j, descriptor (setDescriptor id d { s with pool := s.pool.drop n }) j =
      if j = id then d else descriptor s j := fun j => descriptor_setDescriptor d hid j
  refine ⟨pageLaw_of_take (pages := pages) h.1 (by rw [hpages]; exact List.take_append_drop n s.pool) fun p => ?_,
    segmentLaw_iff.2 ⟨fun j hj => ?_, hnodup, fun u hu => ⟨(htargets u hu).1, ?_⟩⟩⟩
  · have hset := count_ownedPages_descriptor s.segments s.capture.slots hid d p
    have := hc p
    rw [descriptor] at this
    rw [setDescriptor_segments, setDescriptor_capture]
    simp only
    omega
  · rw [hdesc]; split
    · exact hd
    · exact hlaw j hj
  · rw [hdesc]; split
    · next e => exact hv u.repl (e ▸ hu)
    · exact (htargets u hu).2

theorem ownershipLaw_openPlain (a : SegOpenArgs) (hid : a.id < 64) (h : ownershipLaw s) : ownershipLaw (openPlain a s) := by
  unfold openPlain
  split
  · exact h.of_holdings (holdings_answer _ _)
  · split
    · exact h.of_holdings (holdings_answer _ _)
    · next hstate =>
      split
      · exact h.of_holdings (holdings_answer _ _)
      · next pages s1 ha =>
        have hempty := not_not.mp hstate
        obtain ⟨-, hpages, rfl⟩ := allocateBlock_some ha
        refine ownershipLaw.of_holdings ?_ (holdings_answer _ _)
        refine ownershipLaw_of_grown h hid hpages (fun p => ?_) ⟨nofun, fun hn => absurd rfl hn⟩ fun b hb => ?_
        · rw [descriptorPages_none rfl, descriptorPages_none (repl_of_state h.2 (by rw [hempty]; nofun)
            (by rw [hempty]; nofun)), (h.2.1 _ hid).1 hempty]
          simp [openedData]
        · cases b
          · exact absurd hb (not_mem_of_state h.2 (by rw [hempty]; nofun))
          · exact absurd hb (not_mem_of_repl_none h.2 (repl_of_state h.2 (by rw [hempty]; nofun) (by rw [hempty]; nofun)))

theorem ownershipLaw_openReplacement (a : SegOpenArgs) (hid : a.id < 64) (h : ownershipLaw s) :
    ownershipLaw (openReplacement a s) := by
  simp only [openReplacement]
  split
  · exact h.of_holdings (holdings_answer _ _)
  · split
    · exact h.of_holdings (holdings_answer _ _)
    · next hstate =>
      split
      · exact h.of_holdings (holdings_answer _ _)
      · next hrepl =>
        have hnone : (descriptor s a.id).repl = none := by simpa using hrepl
        split
        · exact h.of_holdings (holdings_answer _ _)
        · next pages s1 ha =>
          obtain ⟨-, hpages, rfl⟩ := allocateBlock_some ha
          refine ownershipLaw.of_holdings ?_ (holdings_answer _ _)
          refine ownershipLaw_of_grown h hid hpages (fun p => ?_) ⟨(h.2.1 _ hid).1, fun _ => by tauto⟩ fun b hb => ?_
          · rw [descriptorPages_some rfl, descriptorPages_none hnone, List.count_append]
            rfl
          · cases b
            · exact ⟨fun _ => (h.2.2.2 _ hb).2.1 rfl, nofun⟩
            · exact absurd hb (not_mem_of_repl_none h.2 hnone)

theorem ownershipLaw_segOpenEffect (body : List Byte) (u : State) (h : ownershipLaw u) :
    ownershipLaw (segOpenEffect body u) := by
  refine ownershipLaw_onSegment _ _ (fun hid u hu => ?_) u h
  simp only
  split
  · exact ownershipLaw_openReplacement _ hid hu
  · exact ownershipLaw_openPlain _ hid hu

theorem holdings_segDataEffect (body : List Byte) (id : Nat) : holdings (segDataEffect body id s) = holdings s := by
  simp only [segDataEffect]
  split
  · simp
  · split <;> simp

/-- R29: the loading target enters the verification queue as it becomes VERIFYING. -/
theorem ownershipLaw_queueTarget {id : Nat} {d : Descriptor} {repl : Bool} (h : ownershipLaw s) (hid : id < 64)
    (hpages : descriptorPages d = descriptorPages (descriptor s id)) (hd : descriptorLaw d)
    (hnew : verifyingIn d repl) (hrest : ∀ r, ⟨id, r⟩ ∉ s.verifier.queue) :
    ownershipLaw { setDescriptor id d s with verifier.queue := s.verifier.queue ++ [⟨id, repl⟩] } := by
  have hset : ownershipLaw (setDescriptor id d s) :=
    ownershipLaw_setDescriptor h hpages (fun _ => hd) fun r hr => absurd hr (hrest r)
  obtain ⟨hlaw, hnodup, htargets⟩ := segmentLaw_iff.1 hset.2
  refine ⟨hset.1, segmentLaw_iff.2 ⟨hlaw, ?_, fun u hu => ?_⟩⟩
  · exact List.nodup_append.2 ⟨hnodup, List.nodup_singleton _, fun a ha b hb e => hrest repl
      (List.mem_singleton.1 hb ▸ e ▸ ha)⟩
  · rcases List.mem_append.1 hu with hu | hu
    · exact htargets u hu
    · rw [List.mem_singleton.1 hu]
      exact ⟨hid, (descriptor_setDescriptor_same (s := s) d hid).symm ▸ hnew⟩

theorem loadingTarget_some {id : Nat} {r : Replacement} (hr : (descriptor s id).repl = some r) :
    loadingTarget id s = (⟨id, true⟩, r.data, decide (r.state = .loading)) := by rw [loadingTarget, hr]

theorem loadingTarget_none {id : Nat} (hr : (descriptor s id).repl = none) : loadingTarget id s =
    (⟨id, false⟩, (descriptor s id).data, decide ((descriptor s id).state = .loading)) := by rw [loadingTarget, hr]

theorem setVerifying_some {id : Nat} {r : Replacement} (crc : BitVec 32) (hr : (descriptor s id).repl = some r) :
    setVerifying id crc s = setDescriptor id { descriptor s id with
      repl := some { state := .verifying, data := { r.data with expected := crc } } } s := by
  simp only [setVerifying]; split
  · next r' hr' => rw [hr] at hr'; cases hr'; rfl
  · next hn => rw [hr] at hn; cases hn

theorem setVerifying_none {id : Nat} (crc : BitVec 32) (hr : (descriptor s id).repl = none) :
    setVerifying id crc s = setDescriptor id { descriptor s id with
      state := .verifying, data := { (descriptor s id).data with expected := crc } } s := by
  simp only [setVerifying]; split
  · next r' hr' => rw [hr] at hr'; cases hr'
  · rfl

theorem ownershipLaw_segCloseEffect (body : List Byte) (id : Nat) (hid : id < 64) (h : ownershipLaw s) :
    ownershipLaw (segCloseEffect body id s) := by
  simp only [segCloseEffect]
  split
  · exact h.of_holdings (holdings_answer _ _)
  · next hloading =>
    refine ownershipLaw.of_holdings ?_ (holdings_answer _ _)
    rcases hr : (descriptor s id).repl with _ | r
    · have hstate : (descriptor s id).state = .loading := by simpa [loadingTarget_none hr] using hloading
      rw [loadingTarget_none hr, setVerifying_none _ hr]
      refine ownershipLaw_queueTarget h hid ?_ ⟨nofun, fun hn => absurd hr hn⟩ ⟨fun _ => rfl, nofun⟩ fun b => ?_
      · rfl
      · cases b
        · exact not_mem_of_state h.2 (by rw [hstate]; nofun)
        · exact not_mem_of_repl_none h.2 hr
    · have hstate : r.state = .loading := by simpa [loadingTarget_some hr] using hloading
      have hheld := state_of_repl h.2 hr
      rw [loadingTarget_some hr, setVerifying_some _ hr]
      refine ownershipLaw_queueTarget h hid ?_ ⟨(h.2.1 id hid).1, fun _ => hheld⟩
        ⟨nofun, fun _ => ⟨_, rfl, rfl⟩⟩ fun b => ?_
      · rw [descriptorPages_some rfl, descriptorPages_some hr]
      · cases b
        · exact not_mem_of_state h.2 fun hv => by rcases hheld with e | e <;> rw [hv] at e <;> cases e
        · exact not_mem_of_repl_state h.2 hr (by rw [hstate]; nofun)

/-- R33, R34: what a request that gives data up does once the data is gone. -/
theorem ownershipLaw_recheckAnswered (id : Nat) (st : Status) (h : ownershipLaw s) :
    ownershipLaw (recheckMissing id (answer st .empty s)) :=
  ownershipLaw_recheckMissing id (h.of_holdings (holdings_answer _ _))

theorem ownershipLaw_segAbandonEffect (id : Nat) (hid : id < 64) (h : ownershipLaw s) :
    ownershipLaw (segAbandonEffect id s) := by
  simp only [segAbandonEffect]
  split
  · next r hr =>
    refine ownershipLaw_recheckAnswered id .ok (ownershipLaw.of_holdings ?_ (holdings_segChanged id))
    split
    · exact ownershipLaw_removeReplacement id (ownershipLaw_dropTarget _ h) (not_mem_dropTarget h.2)
    · next hv => exact ownershipLaw_removeReplacement id h (not_mem_of_repl_state h.2 hr hv)
  · next hr =>
    split
    · next hstate =>
      exact ownershipLaw_recheckAnswered id .ok
        (ownershipLaw_emptyDescriptor h hid hr (not_mem_of_state h.2 (by rw [hstate]; nofun)))
    · refine ownershipLaw_recheckAnswered id .ok
        (ownershipLaw_emptyDescriptor (ownershipLaw_dropTarget _ h) hid ?_ (not_mem_dropTarget h.2))
      rwa [descriptor_dropTarget]
    all_goals exact h.of_holdings (holdings_answer _ _)

theorem ownershipLaw_segFreeEffect (id : Nat) (hid : id < 64) (h : ownershipLaw s) :
    ownershipLaw (segFreeEffect id s) := by
  have hfree (hv : (descriptor s id).state ≠ .verifying) : ownershipLaw
      (emptyDescriptor id (removeReplacement id (dropTarget ⟨id, true⟩ s))) := by
    have hdrop := ownershipLaw_dropTarget ⟨id, true⟩ h
    refine ownershipLaw_emptyDescriptor (ownershipLaw_removeReplacement id hdrop (not_mem_dropTarget h.2)) hid
      (by rw [descriptor_removeReplacement]) ?_
    rw [removeReplacement_verifier]
    exact not_mem_of_state hdrop.2 (by rwa [descriptor_dropTarget])
  unfold segFreeEffect
  split
  · exact h.of_holdings (holdings_answer _ _)
  · split
    case h_4 hstate => exact ownershipLaw_recheckAnswered id .ok (hfree (by rw [hstate]; nofun))
    case h_5 hstate => exact ownershipLaw_recheckAnswered id .ok (hfree (by rw [hstate]; nofun))
    all_goals exact h.of_holdings (holdings_answer _ _)

/-! ## Capture requests -/

theorem ownershipLaw_freeRecord {i : Nat} {r : CaptureRecord} (h : ownershipLaw s) (hr : slot s i = some r) :
    ownershipLaw (freeRecord i r s) := by
  have hw : (withdrawWrites i s).capture.slots = s.capture.slots := by unfold withdrawWrites; split <;> rfl
  have hh : holdings (withdrawWrites i s) = holdings s := by unfold withdrawWrites; split <;> rfl
  have hrel : ownershipLaw (releasePages r.pages (setSlot i none (withdrawWrites i s))) := by
    have hu := h.of_holdings hh
    refine ⟨pageLaw_of_release (pages := r.pages) hu.1 (by rw [releasePages_pool]; rfl) fun p => ?_,
      (segmentLaw_congr (by simp) (by simp)).2 hu.2⟩
    have := count_ownedPages_slot (withdrawWrites i s).segments (withdrawWrites i s).capture.slots (lt_of_slot hr) none p
    rw [slot] at hr
    rw [hw, hr] at this
    simp only [releasePages_segments, releasePages_capture, setSlot_segments, setSlot_slots, hw]
    simpa [slotPages] using this
  simp only [freeRecord]
  split
  · exact hrel.of_holdings rfl
  · exact hrel

theorem ownershipLaw_captureFreeEffect (id : Nat) (u : State) (h : ownershipLaw u) :
    ownershipLaw (captureFreeEffect id u) := by
  unfold captureFreeEffect
  split
  · exact h.of_holdings (holdings_answer _ _)
  · split
    · exact h.of_holdings (holdings_answer _ _)
    · next r hr =>
      split
      · exact h.of_holdings (holdings_answer _ _)
      · exact (ownershipLaw_freeRecord h hr).of_holdings (holdings_answer _ _)

theorem holdings_captureReadEffect (id o n : Nat) : holdings (captureReadEffect id o n s) = holdings s := by
  unfold captureReadEffect
  split
  · simp
  · split
    · simp
    · split <;> simp

/-! ## Configuration requests -/

theorem ownershipLaw_enterActive (h : ownershipLaw s) : ownershipLaw (enterActive s) := by
  simp only [enterActive]
  rw [ownershipLaw_congr holdings_setFaultLine]
  exact ownershipLaw_handAction _ (h.of_holdings rfl)

theorem ownershipLaw_permitAtEntry (h : ownershipLaw s) : ownershipLaw (permitAtEntry s) := by
  unfold permitAtEntry
  split
  · exact ownershipLaw_raise _ _ h
  · exact h

theorem ownershipLaw_commitEffect (crc : BitVec 16) (h : ownershipLaw s) : ownershipLaw (commitEffect crc s) := by
  simp only [commitEffect]
  split
  · exact h.of_holdings (holdings_configReply _ _)
  · split
    · exact h.of_holdings (holdings_configReply _ _)
    · exact ownershipLaw_permitAtEntry ((ownershipLaw_enterActive h).of_holdings (holdings_configReply _ _))

theorem holdings_configWriteEffect (sel : Selector) (body : List Byte) :
    holdings (configWriteEffect sel body s) = holdings s := by
  unfold configWriteEffect
  split
  · exact holdings_configReply _ _
  · exact holdings_configReply _ _
  · exact holdings_configReply _ _
  · split
    · exact holdings_configReply _ _
    · exact holdings_configReply _ _

theorem holdings_configReadEffect (sel : Selector) (body : List Byte) :
    holdings (configReadEffect sel body s) = holdings s := by
  simp only [configReadEffect]
  split
  · simp
  · split
    · split <;> simp
    · simp

/-! ## Run requests -/

theorem holdings_runStartEffect (i : Nat) : holdings (runStartEffect i s) = holdings s := by
  have hstart : holdings (startRun i s) = holdings s :=
    (holdings_raiseEvent _ _ _).trans (Eq.trans (holdings_stand _ _) rfl)
  unfold runStartEffect
  repeat' split
  all_goals simp [hstart]

theorem ownershipLaw_runPauseEffect (h : ownershipLaw s) : ownershipLaw (runPauseEffect s) := by
  have hjoin : holdings (joinHost s) = holdings s := by
    unfold joinHost
    split
    · rfl
    · exact (holdings_pauseJoined.trans (holdings_raiseEvent _ _ _)).trans rfl
  unfold runPauseEffect
  split <;> exact h.of_holdings (by simp [hjoin])

theorem ownershipLaw_leaveHost (h : ownershipLaw s) : ownershipLaw (leaveHost s) := by
  unfold leaveHost
  split
  · exact ownershipLaw_pauseEmptied (h.of_holdings rfl)
  · exact h

theorem ownershipLaw_runStopEffect (h : ownershipLaw s) : ownershipLaw (runStopEffect s) := by
  unfold runStopEffect
  split
  case h_1 | h_2 | h_3 | h_4 | h_5 => exact (ownershipLaw_enterParking h).of_holdings (holdings_runReply _)
  all_goals exact h.of_holdings (holdings_runReply _)

theorem ownershipLaw_runUnloadEffect (h : ownershipLaw s) : ownershipLaw (runUnloadEffect s) := by
  have hunload : ownershipLaw (runReply .ok (enterUnloading s)) :=
    (ownershipLaw_enterUnloading h).of_holdings (holdings_runReply _)
  unfold runUnloadEffect
  split
  case h_7 =>
    split
    · exact h.of_holdings (holdings_runReply _)
    · exact hunload
  case h_8 | h_9 => exact h.of_holdings (holdings_runReply _)
  all_goals exact hunload

theorem holdings_pressureOnEffect : holdings (pressureOnEffect s) = holdings s := by
  unfold pressureOnEffect
  repeat' split
  all_goals exact holdings_runReply _

theorem holdings_pressureOffEffect : holdings (pressureOffEffect s) = holdings s := by
  unfold pressureOffEffect
  repeat' split
  all_goals exact holdings_runReply _

theorem holdings_holdOutEffect (c : Nat) : holdings (holdOutEffect c s) = holdings s := by
  have hadd : holdings (addHoldOut c s) = holdings s := by unfold addHoldOut; split <;> rfl
  unfold holdOutEffect
  repeat' split
  all_goals simp [hadd]

theorem holdings_restoreEffect (c : Nat) : holdings (restoreEffect c s) = holdings s := by
  have hdrop : holdings (dropHoldOut c s) = holdings s := by unfold dropHoldOut; split <;> rfl
  unfold restoreEffect
  repeat' split
  all_goals simp [hdrop]

/-! ## Schedule, fault and evidence requests -/

theorem holdings_appendEntries (es : List Entry) : holdings (appendEntries es s) = holdings s := by
  unfold appendEntries
  split
  · simp
  · simp only [holdings_answer, redoAtEnd]
    split
    · exact holdings_redoLookahead.trans rfl
    · rfl

theorem holdings_truncateEffect (k : Nat) : holdings (truncateEffect k s) = holdings s := by
  unfold truncateEffect
  split
  · simp
  · split
    · simp
    · simp only [holdings_answer, redoReaching]
      split
      · split
        · exact holdings_redoLookahead.trans rfl
        · rfl
      · rfl

theorem holdings_clearEffect : holdings (clearEffect s) = holdings s := by
  unfold clearEffect
  split
  · simp
  · exact holdings_answer _ _

theorem holdings_schedReadEffect (a n : Nat) : holdings (schedReadEffect a n s) = holdings s := by
  unfold schedReadEffect
  repeat' split
  all_goals simp

theorem holdings_foldl_endSource (ks : List Nat) :
    holdings (ks.foldl (fun t k => endSource k t) s) = holdings s := by
  induction ks generalizing s with
  | nil => rfl
  | cons k ks ih => exact ih.trans (holdings_endSource k)

theorem holdings_endSources (ks : List Nat) : holdings (endSources ks s) = holdings s := by
  simp only [endSources]
  split
  · exact Eq.trans rfl (holdings_foldl_endSource ks)
  · exact holdings_foldl_endSource ks

theorem ownershipLaw_clearSources (h : ownershipLaw s) : ownershipLaw (clearSources s) := by
  have hend : ownershipLaw (endSources (endedSources s) s) := h.of_holdings (holdings_endSources _)
  simp only [clearSources]
  rw [ownershipLaw_congr holdings_setFaultLine]
  exact ownershipLaw_formAction (hend.of_holdings rfl)

theorem ownershipLaw_respondToClearing (removed : Bool) (h : ownershipLaw s) :
    ownershipLaw (respondToClearing removed s) := by
  unfold respondToClearing
  split
  · split
    · exact h
    · exact h.of_holdings (holdings_raiseEvent _ _ _)
  · split
    · exact ownershipLaw_pauseEmptied h
    · exact h

theorem ownershipLaw_clearFaultsEffect (u : State) (h : ownershipLaw u) : ownershipLaw (clearFaultsEffect u) := by
  simp only [clearFaultsEffect]
  split
  · exact h.of_holdings (holdings_answer _ _)
  · exact (ownershipLaw_respondToClearing _ (ownershipLaw_clearSources h)).of_holdings (holdings_answer _ _)

theorem holdings_summaryReadEffect : holdings (summaryReadEffect s) = holdings s := by
  unfold summaryReadEffect
  split
  · simp
  · exact holdings_answer _ _

theorem ownershipLaw_judgeBeat (u : State) (h : ownershipLaw u) : ownershipLaw (judgeBeat u) := by
  unfold judgeBeat
  split
  · split
    · exact h.of_holdings (holdings_answer _ _)
    · exact (ownershipLaw_heartbeatError (s := beginPeriod u) (h.of_holdings rfl)).of_holdings (holdings_answer _ _)
  · exact h.of_holdings (holdings_answer _ _)

end Sys2Proof.Machine
end

section
/-! PROOF. Page ownership through the resets, and over every command: O59. -/

namespace Sys2Proof.Machine

variable {s t : State}

/-! ## Resets -/

theorem pageLaw_congr (hpool : t.pool = s.pool) (hseg : t.segments = s.segments)
    (hslots : t.capture.slots = s.capture.slots) : pageLaw t ↔ pageLaw s := by
  simp only [pageLaw, hpool, hseg, hslots]

/-- R9: a pool rebuilt from owners of whom no two share a page keeps the law of pages. -/
theorem pageLaw_of_rebuilt (hpool : t.pool = rebuiltPool t.segments t.capture.slots)
    (h : ∀ p, (ownedPages t.segments t.capture.slots).count p ≤ (List.range 512).count p) : pageLaw t := by
  refine pageLaw_iff_count.2 ⟨?_, fun p => ?_⟩
  · rw [hpool]
    exact (List.pairwise_lt_range).filter _
  · have hle := h p
    have hone : (List.range 512).count p ≤ 1 := List.nodup_iff_count_le_one.1 List.nodup_range p
    rw [hpool, rebuiltPool, Config.storePages]
    by_cases hp : p ∈ ownedPages t.segments t.capture.slots
    · have hpos := List.count_pos_iff.2 hp
      have hout : p ∉ (List.range 512).filter (fun p => !(ownedPages t.segments t.capture.slots).contains p) := by
        simp [List.mem_filter, hp]
      rw [List.count_eq_zero.2 hout]
      omega
    · rw [List.count_filter (by simpa using hp), List.count_eq_zero.2 hp, Nat.add_zero]

theorem toList_eq_map_tget {α : Type} [Inhabited α] {n : Nat} (v : Vector α n) :
    v.toList = (List.range n).map (tget v) := by
  refine List.ext_getElem (by simp) fun i h _ => ?_
  have hi : i < n := by simpa using h
  simp [tget_eq_getElem v hi]

/-- Entries that each hold a part of what the entry before held: no page is counted more often. -/
theorem count_flatMap_tmap_le {α : Type} [Inhabited α] {n : Nat} (f : α → List Nat) (g : Nat → α → α)
    (v : Vector α n) (h : ∀ i x, (f (g i x)).Sublist (f x)) (p : Nat) :
    ((tmap g v).toList.flatMap f).count p ≤ (v.toList.flatMap f).count p := by
  have htmap : (tmap g v).toList = (List.range n).map (fun i => g i (tget v i)) := by
    simp [tmap, tmk, Vector.toList]
  rw [htmap, toList_eq_map_tget v, List.flatMap_map, List.flatMap_map, List.count_flatMap, List.count_flatMap]
  exact List.sum_le_sum fun i _ => (h i _).count_le p

theorem warmDescriptor_pages (d : Descriptor) : (descriptorPages (warmDescriptor d)).Sublist (descriptorPages d) := by
  have hown (e : Descriptor) (he : e.repl = none) (hd : e.data = d.data) :
      (descriptorPages e).Sublist (descriptorPages d) := by
    rw [descriptorPages_none he, hd]
    exact List.sublist_append_left _ _
  unfold warmDescriptor
  split
  iterate 3 exact List.nil_sublist _
  all_goals
    split
    · next hr => exact hown _ hr rfl
    · next r hr =>
      split
      · rw [descriptorPages_none rfl, descriptorPages_some hr]
        exact List.sublist_append_right _ _
      · exact hown _ rfl rfl

theorem warmRecord_pages (c : Option Nat) (i : Nat) (o : Option CaptureRecord) :
    slotPages (warmRecord c i o) = slotPages o := by
  unfold warmRecord
  split
  · rfl
  · split <;> rfl

theorem warmDescriptor_law (d : Descriptor) (h : descriptorLaw d) : descriptorLaw (warmDescriptor d) := by
  unfold warmDescriptor
  split
  iterate 3 exact ⟨fun _ => rfl, fun hn => absurd rfl hn⟩
  all_goals
    next hstate =>
    split
    · next hr => exact ⟨h.1, fun hn => absurd hr hn⟩
    · split
      · exact ⟨nofun, fun hn => absurd rfl hn⟩
      · exact ⟨h.1, fun hn => absurd rfl hn⟩

@[simp] theorem holdings_cutSave : holdings (cutSave s) = holdings s := by unfold cutSave; split <;> rfl

theorem holdings_withCause (cause : ResetCause) : holdings { s with cause := cause } = holdings s := rfl
theorem holdings_withLife (cause : ResetCause) (life : Life) :
    holdings { s with cause := cause, life := life } = holdings s := rfl

/-- Every reset empties the verification queue and keeps the pool and the owners as its storage part left them. -/
theorem ownershipLaw_resetVolatile (hp : pageLaw s) (hd : ∀ id, id < 64 → descriptorLaw (descriptor s id)) :
    ownershipLaw (resetVolatile s) :=
  ⟨(pageLaw_congr rfl rfl rfl).2 hp, segmentLaw_iff.2 ⟨hd, List.nodup_nil, fun _ hu => nomatch hu⟩⟩

theorem pageLaw_warmStorage (h : pageLaw s) : pageLaw (warmStorage s) := by
  refine pageLaw_of_rebuilt (by simp only [warmStorage]) fun p => ?_
  have hseg := count_flatMap_tmap_le descriptorPages (fun _ d => warmDescriptor d) s.segments
    (fun _ => warmDescriptor_pages) p
  have hslot := count_flatMap_tmap_le slotPages (warmRecord s.capture.current) s.capture.slots
    (fun i o => (warmRecord_pages _ i o) ▸ List.Sublist.refl _) p
  have hall := (pageLaw_iff_count.1 h).2 p
  rw [ownedPages_eq, List.count_append] at hall ⊢
  simp only [warmStorage]
  omega

theorem powerOnStorage_pool (s : State) : (powerOnStorage s).pool = List.range 512 := by
  simp only [powerOnStorage]

theorem pageLaw_powerOnStorage (s : State) : pageLaw (powerOnStorage s) := by
  have howned : ownedPages (powerOnStorage s).segments (powerOnStorage s).capture.slots = [] := by
    simp [ownedPages_eq, powerOnStorage, CaptureUnit.atPowerOn, Vector.toList_replicate, descriptorPages,
      Descriptor.blank, SegData.blank, slotPages]
  refine pageLaw_iff_count.2 ⟨?_, fun p => ?_⟩
  · rw [powerOnStorage_pool]; exact List.pairwise_lt_range
  · rw [howned, List.count_nil, Nat.add_zero, powerOnStorage_pool]

/-- R8, R41: a power-on reset leaves every page in the pool and every descriptor EMPTY. -/
theorem ownershipLaw_powerOn (s : State) : ownershipLaw (resetVolatile (powerOnStorage s)) := by
  refine ownershipLaw_resetVolatile (pageLaw_powerOnStorage s) fun id hid => ?_
  rw [descriptor, powerOnStorage, tget_replicate _ hid]
  exact ⟨fun _ => rfl, fun hn => absurd rfl hn⟩

theorem ownershipLaw_warmReset (cause : ResetCause) (h : ownershipLaw s) : ownershipLaw (warmReset cause s) := by
  have hcut := h.of_holdings holdings_cutSave
  unfold warmReset
  split
  · exact ownershipLaw_powerOn _
  · exact ownershipLaw_powerOn _
  · have hwarm : ownershipLaw (resetVolatile (warmStorage (cutSave s))) := by
      refine ownershipLaw_resetVolatile (pageLaw_warmStorage hcut.1) fun id hid => ?_
      rw [descriptor, warmStorage, tget_tmap _ _ hid]
      exact warmDescriptor_law _ (hcut.2.1 id hid)
    exact hwarm.of_holdings (holdings_withCause cause)

theorem ownershipLaw_loseSupply (h : ownershipLaw s) : ownershipLaw (loseSupply s) := by
  have hcut := h.of_holdings holdings_cutSave
  exact (ownershipLaw_resetVolatile hcut.1 (segmentLaw_iff.1 hcut.2).1).of_holdings rfl

/-! ## The commands -/

/-- A meaning's answer keeps the laws of page ownership. -/
def answersLawful (r : Result) : Prop := ∀ t, r = .next t → ownershipLaw t

theorem answersLawful_next (h : ownershipLaw s) : answersLawful (.next s) := fun _ he => by cases he; exact h

theorem answersLawful_settled (h : ownershipLaw s) : answersLawful (.next (settle s)) :=
  answersLawful_next (h.of_holdings holdings_settle)

/-- A request whose effect keeps the laws once its length passes. -/
theorem answersLawful_withLength {kind tag : Byte} {body : List Byte} {n : Nat} {f : State → State}
    (hf : ∀ u, ownershipLaw u → ownershipLaw (f u)) (h : ownershipLaw s) :
    answersLawful (.next (onRequest kind tag body (withLength n body f) s)) :=
  answersLawful_next (ownershipLaw_onRequest _ _ _ (ownershipLaw_withLength _ _ hf) h)

/-- A run, pressure or hold-out request whose effect keeps the laws. -/
theorem answersLawful_onRun {kind tag : Byte} {body : List Byte} {n : Nat} {f : State → State}
    (hf : ∀ u, ownershipLaw u → ownershipLaw (f u)) (h : ownershipLaw s) :
    answersLawful (.next (onRequest kind tag body (onRun n body f) s)) :=
  answersLawful_next (ownershipLaw_onRequest _ _ _ (ownershipLaw_onRun _ _ hf) h)

/-- A configuration request whose effect keeps the laws. -/
theorem answersLawful_onConfig {kind tag : Byte} {body : List Byte} {f : State → State}
    (hf : ∀ u, ownershipLaw u → ownershipLaw (f u)) (h : ownershipLaw s) :
    answersLawful (.next (onRequest kind tag body (onConfig f) s)) :=
  answersLawful_next (ownershipLaw_onRequest _ _ _ (ownershipLaw_onConfig hf) h)

/-- A segment request whose effect keeps the laws for an id of the table. -/
theorem answersLawful_onSegment {kind tag : Byte} {body : List Byte} {fits : Bool} {g : Nat → State → State}
    (hg : ∀ id, id < 64 → ∀ u, ownershipLaw u → ownershipLaw (g id u)) (h : ownershipLaw s) :
    answersLawful (.next (settle (onRequest kind tag body (onSegment fits body g) s))) :=
  answersLawful_settled (ownershipLaw_onRequest _ _ _ (ownershipLaw_onSegment _ _ (hg _)) h)

/-- What an effect that leaves the holdings alone keeps. -/
theorem keeps_of_holdings {f : State → State} (hf : ∀ u, holdings (f u) = holdings u) (u : State) (h : ownershipLaw u) :
    ownershipLaw (f u) := h.of_holdings (hf u)

theorem answersLawful_completeInside (found : ReadOutcome) (op : MemOp) (h : ownershipLaw s) :
    answersLawful (completeInside found op s) := by
  unfold completeInside
  split
  · exact answersLawful_settled (ownershipLaw_completeGranted found h)
  · exact fun _ he => nomatch he

/-- An idle moment or a moment that leaves the holdings alone. -/
theorem answersLawful_of_holdings (h : ownershipLaw s) (e : holdings t = holdings s) : answersLawful (.next t) :=
  answersLawful_next (h.of_holdings e)

/-- The moments of power, resets and start-up. -/
theorem answersLawful_execResetNLow (h : ownershipLaw s) : answersLawful (execResetNLow s) := by
  unfold execResetNLow
  split
  · exact answersLawful_next h
  · exact answersLawful_of_holdings h rfl
  · exact answersLawful_next ((ownershipLaw_warmReset .line h).of_holdings rfl)

theorem answersLawful_execResetNHigh (h : ownershipLaw s) : answersLawful (execResetNHigh s) := by
  unfold execResetNHigh
  split <;> exact answersLawful_of_holdings h rfl

theorem answersLawful_execStartUpEnd (h : ownershipLaw s) : answersLawful (execStartUpEnd s) := by
  unfold execStartUpEnd
  split
  · exact answersLawful_settled (h.of_holdings rfl)
  · exact answersLawful_next h

theorem answersLawful_execSupplyLoss (h : ownershipLaw s) : answersLawful (execSupplyLoss s) := by
  unfold execSupplyLoss
  split
  · exact answersLawful_next h
  · exact answersLawful_next (ownershipLaw_loseSupply h)

theorem answersLawful_execReplySent (h : ownershipLaw s) : answersLawful (execReplySent s) := by
  unfold execReplySent
  split
  · split
    · exact answersLawful_next ((ownershipLaw_warmReset .request h).of_holdings rfl)
    · refine answersLawful_of_holdings h ?_
      unfold replyLeaves
      split <;> rfl
  · exact answersLawful_next h

/-- The timers' and the PERMIT input's moments. -/
theorem answersLawful_execPermitFilterExpiry (h : ownershipLaw s) : answersLawful (execPermitFilterExpiry s) := by
  unfold execPermitFilterExpiry
  split
  · simp only
    split
    · exact answersLawful_settled (ownershipLaw_raise _ _ (h.of_holdings rfl))
    · exact answersLawful_of_holdings h rfl
  · exact answersLawful_next h

theorem answersLawful_execHeartbeatPeriodExpiry (h : ownershipLaw s) : answersLawful (execHeartbeatPeriodExpiry s) := by
  unfold execHeartbeatPeriodExpiry
  split
  · exact answersLawful_settled (ownershipLaw_heartbeatError (s := beginPeriod s) (h.of_holdings rfl))
  · exact answersLawful_next h

theorem answersLawful_execConfigSaveEnd (back : List Byte) (h : ownershipLaw s) :
    answersLawful (execConfigSaveEnd back s) := by
  unfold execConfigSaveEnd
  split
  · exact answersLawful_next h
  · split <;> exact answersLawful_of_holdings h ((holdings_raiseEvent _ _ _).trans rfl)

/-- The timers whose expiry moves no page. -/
theorem answersLawful_timers (h : ownershipLaw s) : answersLawful (execHeartbeatWindowOpen s) ∧
    answersLawful (execReadyGraceExpiry s) ∧ answersLawful (execUnloadDelayExpiry s) ∧
    answersLawful (execStoppedUnloadDelayExpiry s) ∧ answersLawful (execConfigTimerExpiry s) := by
  unfold execHeartbeatWindowOpen execReadyGraceExpiry execUnloadDelayExpiry execStoppedUnloadDelayExpiry
    execConfigTimerExpiry
  refine ⟨?_, ?_, ?_, ?_, ?_⟩ <;> split
  case refine_1.isTrue | refine_2.isTrue => exact answersLawful_of_holdings h rfl
  case refine_3.isTrue => exact answersLawful_of_holdings h holdings_endUnloadDelay
  case refine_4.isTrue => exact answersLawful_of_holdings h holdings_endStoppedDelay
  case refine_5.isTrue => exact answersLawful_of_holdings h ((holdings_raiseEvent _ _ _).trans rfl)
  all_goals exact answersLawful_next h

/-- The arbiter's completions. -/
theorem answersLawful_completions (found : ReadOutcome) (h : ownershipLaw s) :
    answersLawful (execMemoryRead found s) ∧ answersLawful (execWholeWordWrite s) ∧
    answersLawful (execPartialWordWrite found s) ∧ answersLawful (execScrub found s) := by
  have hin (op : MemOp) := answersLawful_completeInside (s := s) found op h
  have hidle : answersLawful (.next s) := answersLawful_next h
  refine ⟨?_, ?_, ?_, ?_⟩
  · unfold execMemoryRead
    split
    · exact hin _
    · exact hidle
  · unfold execWholeWordWrite
    split
    · split
      · exact answersLawful_completeInside _ _ h
      · exact hidle
    · exact hidle
  · unfold execPartialWordWrite
    split
    · split
      · exact hidle
      · exact hin _
    · exact hidle
  · unfold execScrub
    split
    · exact hin _
    · exact hidle

/-- The framing of the control link. -/
theorem answersLawful_framing (kind tag : Byte) (bytes : List Byte) (low : Option Nat) (h : ownershipLaw s) :
    answersLawful (execFrameMarker s) ∧ answersLawful (execRequestFrameDiscarded s bytes low) ∧
    answersLawful (execControlByteGap s) ∧ answersLawful (execUnknownRequest kind tag bytes s) ∧
    answersLawful (execBusyRequest kind tag s) := by
  refine ⟨?_, ?_, ?_, ?_, ?_⟩
  · unfold execFrameMarker
    split
    · exact answersLawful_of_holdings h rfl
    · exact answersLawful_next h
  · unfold execRequestFrameDiscarded
    split
    · refine answersLawful_of_holdings h ?_
      simp only [takeFrameBytes]
      split
      · rfl
      · split <;> rfl
    · exact answersLawful_next h
  · unfold execControlByteGap
    split
    · exact answersLawful_of_holdings h rfl
    · exact answersLawful_next h
  · unfold execUnknownRequest
    split
    · exact answersLawful_next h
    · exact answersLawful_next (ownershipLaw_onRequest _ _ _ (fun u hu => hu.of_holdings (holdings_answer _ _)) h)
  · unfold execBusyRequest
    split
    · exact answersLawful_of_holdings h (by rw [answerBusy_eq]; rfl)
    · exact answersLawful_next h

/-- Every command's meaning keeps the laws of page ownership. -/
theorem answersLawful_exec (c : Instr) (h : ownershipLaw s) : answersLawful (exec c s) := by
  cases c with
  | powerOn =>
    rw [exec, execPowerOn]
    exact answersLawful_next ((ownershipLaw_powerOn (cutSave s)).of_holdings (holdings_withLife _ _))
  | resetNLow => exact answersLawful_execResetNLow h
  | resetNHigh => exact answersLawful_execResetNHigh h
  | startUpEnd => exact answersLawful_execStartUpEnd h
  | frameBoundary m =>
    rw [exec, execFrameBoundary]
    split
    · exact answersLawful_next (ownershipLaw_boundary m h)
    · exact answersLawful_next h
  | responseFrame b low =>
    rw [exec, execResponseFrame]
    split
    · exact answersLawful_settled (ownershipLaw_takeBytes b low h)
    · exact answersLawful_next h
  | permitLineChange => exact answersLawful_of_holdings h rfl
  | permitFilterExpiry => exact answersLawful_execPermitFilterExpiry h
  | heartbeatWindowOpen => exact (answersLawful_timers h).1
  | heartbeatPeriodExpiry => exact answersLawful_execHeartbeatPeriodExpiry h
  | readyGraceExpiry => exact (answersLawful_timers h).2.1
  | unloadDelayExpiry => exact (answersLawful_timers h).2.2.1
  | stoppedUnloadDelayExpiry => exact (answersLawful_timers h).2.2.2.1
  | configTimerExpiry => exact (answersLawful_timers h).2.2.2.2
  | configSaveEnd r => exact answersLawful_execConfigSaveEnd r h
  | memoryRead o => exact (answersLawful_completions o h).1
  | wholeWordWrite => exact (answersLawful_completions .clean h).2.1
  | partialWordWrite o => exact (answersLawful_completions o h).2.2.1
  | scrub o => exact (answersLawful_completions o h).2.2.2
  | requestFrameDiscarded b low => exact (answersLawful_framing 0 0 b low h).2.1
  | controlByteGap => exact (answersLawful_framing 0 0 [] none h).2.2.1
  | unknownRequest k t b => exact (answersLawful_framing k t b none h).2.2.2.1
  | busyRequest k t => exact (answersLawful_framing k t [] none h).2.2.2.2
  | replySent => exact answersLawful_execReplySent h
  | identify t b => exact answersLawful_withLength (keeps_of_holdings fun _ => holdings_answer _ _) h
  | status t b => exact answersLawful_withLength (keeps_of_holdings fun _ => holdings_setJob _) h
  | eventsRead t b =>
    refine answersLawful_withLength (keeps_of_holdings fun u => ?_) h
    simp only
    split
    · simp
    · split
      · simp
      · exact (holdings_answer _ _).trans rfl
  | reset t b => exact answersLawful_withLength (keeps_of_holdings fun _ => by simp) h
  | configWrite t b =>
    refine answersLawful_onConfig (keeps_of_holdings fun u => ?_) h
    split
    · simp
    · split
      · simp
      · exact holdings_configWriteEffect _ _
  | configRead t b =>
    refine answersLawful_onConfig (keeps_of_holdings fun u => ?_) h
    split
    · simp
    · split
      · simp
      · exact holdings_configReadEffect _ _
  | configCommit t b =>
    refine answersLawful_onConfig (fun u hu => ?_) h
    split
    · exact hu.of_holdings (holdings_configReply _ _)
    · split
      · exact hu.of_holdings (holdings_configReply _ _)
      · exact ownershipLaw_commitEffect _ (hu.of_holdings rfl)
      · exact ownershipLaw_commitEffect _ hu
      · exact ownershipLaw_commitEffect _ hu
  | configSave t b =>
    refine answersLawful_onConfig (keeps_of_holdings fun u => ?_) h
    split
    · simp
    · split
      · split
        · simp
        · exact (holdings_configReply _ _).trans rfl
      · simp
  | segOpen t b => exact answersLawful_settled (ownershipLaw_onRequest _ _ _ (ownershipLaw_segOpenEffect b) h)
  | segOpenReplace t b => exact answersLawful_settled (ownershipLaw_onRequest _ _ _ (ownershipLaw_segOpenEffect b) h)
  | segData t b =>
    exact answersLawful_onSegment (fun id _ => keeps_of_holdings fun _ => holdings_segDataEffect b id) h
  | segClose t b => exact answersLawful_onSegment (fun id hid _ hu => ownershipLaw_segCloseEffect b id hid hu) h
  | segAbandon t b => exact answersLawful_onSegment (fun id hid _ hu => ownershipLaw_segAbandonEffect id hid hu) h
  | segFree t b => exact answersLawful_onSegment (fun id hid _ hu => ownershipLaw_segFreeEffect id hid hu) h
  | segQuery t b =>
    refine answersLawful_next (ownershipLaw_onRequest _ _ _ (ownershipLaw_onSegment _ _ fun _ u hu => ?_) h)
    exact hu.of_holdings (holdings_answer _ _)
  | schedAppend t b =>
    refine answersLawful_settled (ownershipLaw_onRequest _ _ _ (keeps_of_holdings fun u => ?_) h)
    split
    · simp
    · split
      · simp
      · exact holdings_appendEntries _
  | schedTruncate t b =>
    exact answersLawful_settled (ownershipLaw_onRequest _ _ _
      (ownershipLaw_withLength _ _ (keeps_of_holdings fun _ => holdings_truncateEffect _)) h)
  | schedClear t b => exact answersLawful_withLength (keeps_of_holdings fun _ => holdings_clearEffect) h
  | schedRead t b => exact answersLawful_withLength (keeps_of_holdings fun _ => holdings_schedReadEffect _ _) h
  | runStart t b => exact answersLawful_onRun (keeps_of_holdings fun _ => holdings_runStartEffect _) h
  | runPause t b =>
    exact answersLawful_settled (ownershipLaw_onRequest _ _ _
      (ownershipLaw_onRun _ _ fun _ hu => ownershipLaw_runPauseEffect hu) h)
  | runResume t b =>
    exact answersLawful_settled (ownershipLaw_onRequest _ _ _
      (ownershipLaw_onRun _ _ fun _ hu => (ownershipLaw_leaveHost hu).of_holdings (holdings_runReply _)) h)
  | runStop t b =>
    exact answersLawful_settled (ownershipLaw_onRequest _ _ _
      (ownershipLaw_onRun _ _ fun _ hu => ownershipLaw_runStopEffect hu) h)
  | runUnload t b =>
    exact answersLawful_settled (ownershipLaw_onRequest _ _ _
      (ownershipLaw_onRun _ _ fun _ hu => ownershipLaw_runUnloadEffect hu) h)
  | pressureOn t b => exact answersLawful_onRun (keeps_of_holdings fun _ => holdings_pressureOnEffect) h
  | pressureOff t b => exact answersLawful_onRun (keeps_of_holdings fun _ => holdings_pressureOffEffect) h
  | holdOut t b => exact answersLawful_onRun (keeps_of_holdings fun _ => holdings_holdOutEffect _) h
  | restore t b => exact answersLawful_onRun (keeps_of_holdings fun _ => holdings_restoreEffect _) h
  | clearFaults t b =>
    exact answersLawful_settled (ownershipLaw_onRequest _ _ _
      (ownershipLaw_withLength _ _ ownershipLaw_clearFaultsEffect) h)
  | faultsRead t b => exact answersLawful_withLength (keeps_of_holdings fun _ => holdings_answer _ _) h
  | captureList t b => exact answersLawful_withLength (keeps_of_holdings fun _ => holdings_answer _ _) h
  | captureRead t b =>
    exact answersLawful_settled (ownershipLaw_onRequest _ _ _
      (ownershipLaw_withLength _ _ (keeps_of_holdings fun _ => holdings_captureReadEffect _ _ _)) h)
  | captureFree t b =>
    exact answersLawful_settled (ownershipLaw_onRequest _ _ _
      (ownershipLaw_withLength _ _ (ownershipLaw_captureFreeEffect _)) h)
  | summaryRead t b => exact answersLawful_withLength (keeps_of_holdings fun _ => holdings_summaryReadEffect) h
  | heartbeat t b =>
    exact answersLawful_settled (ownershipLaw_onRequest _ _ _ (ownershipLaw_withLength _ _ ownershipLaw_judgeBeat) h)
  | frameMarker => exact (answersLawful_framing 0 0 [] none h).1
  | supplyLoss => exact answersLawful_execSupplyLoss h

/-- Settles O59: the law of pages and what it rests on are kept by every command, each by the lemma about its meaning. -/
theorem everyPageInOnePlace : Obligations.EveryPageInOnePlace := by
  unfold Obligations.EveryPageInOnePlace
  exact fun c s t hp hs he => answersLawful_exec c (s := s) ⟨hp, hs⟩ t he

end Sys2Proof.Machine
end

section
/-! PROOF. The page pool (R5) and the word operations of the sample store (R4, R13 to R18): O21, O18. -/

namespace Sys2Proof.Machine

variable {s t : State}

/-! ## The page pool -/

/-- In an ascending list what is taken from the front lies below what is left. -/
theorem lt_of_append_pairwise {l m : List Nat} (h : (l ++ m).Pairwise (· < ·)) {p q : Nat} (hp : p ∈ l) (hq : q ∈ m) :
    p < q := (List.pairwise_append.1 h).2.2 p hp q hq

theorem allocateBlock_none {n : Nat} : allocateBlock n s = none ↔ s.pool.length < n := by
  simp [allocateBlock]

theorem allocateOne_none : allocateOne s = none ↔ s.pool = [] := by
  unfold allocateOne
  split
  · next h => simp [h]
  · next h => simp [h]

/-- R11: a release of the page on which an operation is granted completes the operation in the store. -/
theorem releasePages_of_granted {pages : List Nat} {g : Grant} (hg : s.arbiter.granted = some g)
    (hp : opWord g.op / 8192 ∈ pages) :
    (releasePages pages s).store = completeInStore s ∧ (releasePages pages s).arbiter.granted = none := by
  have hc : pages.contains (opWord g.op / Config.pageWords) = true := by simpa [Config.pageWords] using hp
  simp only [releasePages, finishGranted, hg, hc, if_true, poolPages, and_self]

/-- A release that does not touch the granted operation leaves it, and the store, alone. -/
theorem releasePages_of_other {pages : List Nat}
    (hp : ∀ g, s.arbiter.granted = some g → opWord g.op / 8192 ∉ pages) :
    (releasePages pages s).store = s.store ∧ (releasePages pages s).arbiter.granted = s.arbiter.granted := by
  rcases hg : s.arbiter.granted with _ | g
  · simp only [releasePages, finishGranted, hg, poolPages, and_self]
  · have hc : pages.contains (opWord g.op / Config.pageWords) = false := by simpa [Config.pageWords] using hp g hg
    simp only [releasePages, finishGranted, hg, hc, Bool.false_eq_true, if_false, poolPages, and_self]

/-- Settles O21: what the two allocations and a release do to the pool, from `allocateBlock_some`, `allocateOne_some` and
the lemmas about `releasePages`. -/
theorem poolGivesLowestPages : Obligations.PoolGivesLowestPages := by
  unfold Obligations.PoolGivesLowestPages
  intro s hpool
  refine ⟨fun n pages t h => ?_, fun n => allocateBlock_none, fun p t h => ?_, allocateOne_none, fun pages =>
    ⟨?_, fun p => ?_, fun ⟨g, hg, hp⟩ => releasePages_of_granted hg hp, releasePages_of_other⟩⟩
  · obtain ⟨hn, rfl, rfl⟩ := allocateBlock_some h
    exact ⟨List.length_take_of_le hn, List.take_append_drop n s.pool,
      fun p q => lt_of_append_pairwise ((List.take_append_drop n s.pool).symm ▸ hpool), rfl⟩
  · obtain ⟨rest, hrest, rfl⟩ := allocateOne_some h
    exact ⟨hrest.symm, fun q hq => (List.pairwise_cons.1 (hrest ▸ hpool)).1 q hq, rfl⟩
  · rw [releasePages_pool]
    exact foldl_insertNum_pairwise hpool
  · rw [mem_releasePages, or_comm]

/-! ## The word operations -/

variable {st : Store} {w : Nat} {found : ReadOutcome} {lanes : List (Nat × Sample)}

@[simp] theorem sampleAt_countOutcome (o : ReadOutcome) (st : Store) (p : Nat) :
    sampleAt (countOutcome o st) p = sampleAt st p := by simp [sampleAt]

@[simp] theorem markOf_countOutcome (o : ReadOutcome) (st : Store) (v : Nat) :
    markOf (countOutcome o st) v = markOf st v := by simp [markOf]

/-- R17: a CORRECTED outcome raises the count by one, up to its largest value. -/
theorem countOutcome_corrected (o : ReadOutcome) (st : Store) : (countOutcome o st).corrected =
    if o = .corrected then (if st.corrected = 4294967295 then 4294967295 else st.corrected + 1) else st.corrected := by
  cases o with
  | clean => rfl
  | uncorrectable => rfl
  | corrected =>
    have hmax : BitVec.allOnes 32 = 4294967295 := rfl
    simp only [countOutcome, satInc, hmax, if_true]
    split
    · next h => exact h
    · rfl

/-- A word whose check code finds an outcome that is CLEAN was CLEAN. -/
theorem markOf_of_outcomeAt_clean (h : outcomeAt st w found = .clean) : markOf st w = .clean := by
  unfold outcomeAt at h
  cases hm : markOf st w with
  | clean => rfl
  | corrected => cases found <;> rw [hm] at h <;> cases h
  | uncorrectable => rw [hm] at h; cases h

/-- What a write of `lanes` into word `w` makes of the positions. -/
def writtenLanes (w : Nat) (lanes : List (Nat × Sample)) (st t : Store) : Prop :=
  (∀ l, l ∈ lanes → sampleAt t (4 * w + l.1) = l.2) ∧
    ∀ p, (∀ l, l ∈ lanes → p ≠ 4 * w + l.1) → sampleAt t p = sampleAt st p

theorem writtenLanes_setLanes (h : st.wf = true) (hn : (lanes.map Prod.fst).Nodup) :
    writtenLanes w lanes st (setLanes w lanes st) :=
  ⟨fun _ hl => setCells_same (Store.wf_iff.1 h).1 hn hl, fun _ hp => setCells_other (Store.wf_iff.1 h).1 hp⟩

/-- A write concerns the positions only through the store's samples. -/
theorem writtenLanes_congr {t u : Store} (h : ∀ p, sampleAt u p = sampleAt t p) (ht : writtenLanes w lanes st t) :
    writtenLanes w lanes st u :=
  ⟨fun l hl => (h _).trans (ht.1 l hl), fun p hp => (h p).trans (ht.2 p hp)⟩

/-- What every word operation keeps: the other words' marks and the canonical form. -/
def otherWords (w : Nat) (st t : Store) : Prop := (∀ v, v ≠ w → markOf t v = markOf st v) ∧ t.wf = true

theorem otherWords_setMark {u : Store} (h : u.wf = true) (hm : ∀ v, markOf u v = markOf st v) (o : ReadOutcome) :
    otherWords w st (setMark w o u) :=
  ⟨fun v hv => by rw [markOf_setMark h, if_neg hv, hm], setMark_wf h⟩

theorem otherWords_countOutcome {t : Store} (o : ReadOutcome) (h : otherWords w st t) :
    otherWords w st (countOutcome o t) := ⟨fun v hv => (markOf_countOutcome o t v).trans (h.1 v hv), countOutcome_wf h.2⟩

theorem markOf_setMark_same {u : Store} (h : u.wf = true) (o : ReadOutcome) : markOf (setMark w o u) w = o := by
  rw [markOf_setMark h, if_pos rfl]

/-- R15: a partial-word write, by the outcome it finds. -/
theorem storeWritePart_of_outcome (o : ReadOutcome) (h : outcomeAt st w found = o) :
    storeWritePart w lanes found st =
      if o = .uncorrectable then (o, setMark w .uncorrectable st)
      else (o, countOutcome o (setMark w .clean (setLanes w lanes st))) := by
  unfold storeWritePart
  rw [h]
  cases o <;> rfl

/-! R18: a scrub, by the outcome it finds. -/

theorem storeScrub_clean (h : outcomeAt st w found = .clean) : storeScrub w found st = (.clean, st) := by
  rw [storeScrub, h]

theorem storeScrub_corrected (h : outcomeAt st w found = .corrected) :
    storeScrub w found st = (.corrected, countOutcome .corrected (setMark w .clean st)) := by rw [storeScrub, h]

theorem storeScrub_uncorrectable (h : outcomeAt st w found = .uncorrectable) :
    storeScrub w found st = (.uncorrectable, setMark w .uncorrectable st) := by rw [storeScrub, h]

/-- Settles O18: each operation is made of marks, lanes and counts, whose lemmas say what they leave alone. -/
theorem wordOperationsKeepStore : Obligations.WordOperationsKeepStore := by
  unfold Obligations.WordOperationsKeepStore
  intro st w found lanes h hn _
  have hl : (setLanes w lanes st).wf = true := setLanes_wf h
  have hwritten := writtenLanes_setLanes (w := w) h hn
  refine ⟨?_, ?_, ?_, ?_⟩
  · exact ⟨rfl, fun p => by simp [storeRead], otherWords_countOutcome _ (otherWords_setMark h (fun _ => rfl) _),
      by simp only [storeRead, markOf_countOutcome]; exact markOf_setMark_same h _,
      countOutcome_corrected _ _⟩
  · exact ⟨hwritten, otherWords_setMark hl (fun _ => rfl) _, markOf_setMark_same hl _, rfl⟩
  · rcases ho : outcomeAt st w found with _ | _ | _ <;> rw [storeWritePart_of_outcome _ ho]
    case uncorrectable =>
      exact ⟨rfl, otherWords_setMark h (fun _ => rfl) _, rfl, fun _ => ⟨fun _ => rfl, markOf_setMark_same h _⟩,
        fun hne => absurd rfl hne⟩
    all_goals
      refine ⟨rfl, otherWords_countOutcome _ (otherWords_setMark hl (fun _ => rfl) _), ?_, nofun, fun _ => ⟨?_, ?_⟩⟩
      · exact countOutcome_corrected _ _
      · exact writtenLanes_congr (fun p => by simp) hwritten
      · simpa using markOf_setMark_same hl _
  · rcases ho : outcomeAt st w found with _ | _ | _
    case clean =>
      rw [storeScrub_clean ho]
      exact ⟨rfl, fun _ => rfl, ⟨fun _ _ => rfl, h⟩, rfl, nofun, fun _ => markOf_of_outcomeAt_clean ho⟩
    case corrected =>
      rw [storeScrub_corrected ho]
      exact ⟨rfl, fun p => by simp, otherWords_countOutcome _ (otherWords_setMark h (fun _ => rfl) _),
        countOutcome_corrected _ _, nofun, fun _ => by simpa using markOf_setMark_same h _⟩
    case uncorrectable =>
      rw [storeScrub_uncorrectable ho]
      exact ⟨rfl, fun _ => rfl, otherWords_setMark h (fun _ => rfl) _, rfl, fun _ => markOf_setMark_same h _,
        fun hne => absurd rfl hne⟩

end Sys2Proof.Machine
end

section
/-! PROOF. The word operations of a run over a page list (R16, R24): O19. -/

namespace Sys2Proof.Machine

/-! ## A page list's words -/

/-- R24: an owner's word within its page list lies on the page that the list names. -/
theorem wordOf_eq {pages : List Nat} {i : Nat} (h : i < 8192 * pages.length) :
    wordOf pages i = pages[i / 8192]'(by omega) * 8192 + i % 8192 := by
  have hp : i / 8192 < pages.length := by omega
  simp [wordOf, Config.pageWords, List.getD_eq_getElem?_getD, hp]

/-- Over a page list without repeats different words of the owner are different words of the store. -/
theorem wordOf_injective {pages : List Nat} (hn : pages.Nodup) {i j : Nat} (hi : i < 8192 * pages.length)
    (hj : j < 8192 * pages.length) (h : wordOf pages i = wordOf pages j) : i = j := by
  rw [wordOf_eq hi, wordOf_eq hj] at h
  have hpage : pages[i / 8192]'(by omega) = pages[j / 8192]'(by omega) := by omega
  have hq : i / 8192 = j / 8192 := (hn.getElem_inj_iff).1 hpage
  omega

/-! ## The lanes of a run -/

theorem mem_runLanes {start index : Nat} {samples : List Sample} {l : Nat × Sample} :
    l ∈ runLanes start samples index ↔
      l.1 < 4 ∧ start ≤ 4 * index + l.1 ∧ samples[4 * index + l.1 - start]? = some l.2 := by
  obtain ⟨lane, v⟩ := l
  simp only [runLanes, List.mem_filterMap, List.mem_range]
  constructor
  · rintro ⟨k, hk, h⟩
    split at h
    · next hs =>
      obtain ⟨u, hu, he⟩ := Option.map_eq_some_iff.1 h
      cases he
      exact ⟨hk, hs, hu⟩
    · cases h
  · rintro ⟨hk, hs, hv⟩
    exact ⟨lane, hk, by rw [if_pos hs, hv]; rfl⟩

theorem runLanes_nodup (start index : Nat) (samples : List Sample) :
    ((runLanes start samples index).map Prod.fst).Nodup := by
  rw [runLanes, List.map_filterMap]
  refine List.Nodup.filterMap (fun a b k ha hb => ?_) List.nodup_range
  have key (x : Nat) (hx : k ∈ Option.map Prod.fst (if start ≤ 4 * index + x then
      (samples[4 * index + x - start]?).map (fun v => (x, v)) else none)) : k = x := by
    rw [Option.mem_def, Option.map_eq_some_iff] at hx
    obtain ⟨l, hl, rfl⟩ := hx
    split at hl
    · obtain ⟨u, -, rfl⟩ := Option.map_eq_some_iff.1 hl; rfl
    · cases hl
  exact (key a ha).symm.trans (key b hb)

/-- A run that covers a word covers it whole. -/
theorem isWhole_runLanes {start index : Nat} {samples : List Sample} (hlo : start ≤ 4 * index)
    (hhi : 4 * index + 3 < start + samples.length) : isWhole (runLanes start samples index) = true := by
  have hr : List.range 4 = [0, 1, 2, 3] := rfl
  have lane (k : Nat) (hk : k < 4) : (if start ≤ 4 * index + k then
      (samples[4 * index + k - start]?).map (fun v => (k, v)) else none) =
      some (k, samples[4 * index + k - start]'(by omega)) := by
    rw [if_pos (by omega), List.getElem?_eq_getElem (by omega), Option.map_some]
  simp only [isWhole, runLanes, hr, List.filterMap_cons, lane 0 (by decide), lane 1 (by decide), lane 2 (by decide),
    lane 3 (by decide), List.filterMap_nil, List.length_cons, List.length_nil]
  rfl

/-! ## The operations of a run, one after another -/

/-- R14, R15: what a word operation of a run makes of the store when no new disturbance is found. -/
def applyWrite (st : Store) : MemOp → Store
  | .write w lanes => if isWhole lanes then storeWriteWhole w lanes st else (storeWritePart w lanes .clean st).2
  | _ => st

/-- A store in its canonical form without a word of two errors. -/
def soundStore (st : Store) : Prop := st.wf = true ∧ ∀ w, markOf st w ≠ .uncorrectable

/-- A write into a store without double errors stores its lanes, and leaves no double error. -/
theorem applyWrite_write {st : Store} (h : soundStore st) {w : Nat} {lanes : List (Nat × Sample)}
    (hn : (lanes.map Prod.fst).Nodup) :
    soundStore (applyWrite st (.write w lanes)) ∧ writtenLanes w lanes st (applyWrite st (.write w lanes)) := by
  obtain ⟨hwf, hmark⟩ := h
  have hl : (setLanes w lanes st).wf = true := setLanes_wf hwf
  have hwritten := writtenLanes_setLanes (w := w) hwf hn
  have hclean (v : Nat) : markOf (setMark w .clean (setLanes w lanes st)) v ≠ .uncorrectable := by
    rw [markOf_setMark hl]
    split
    · nofun
    · exact hmark v
  have ho : outcomeAt st w .clean ≠ .uncorrectable := fun ho => hmark w <| by
    unfold outcomeAt at ho
    cases hm : markOf st w <;> rw [hm] at ho <;> cases ho
  have hpart : (storeWritePart w lanes .clean st).2 =
      countOutcome (outcomeAt st w .clean) (setMark w .clean (setLanes w lanes st)) := by
    rw [storeWritePart_of_outcome _ rfl, if_neg ho]
  rw [applyWrite]
  split
  · exact ⟨⟨setMark_wf hl, hclean⟩, hwritten⟩
  · rw [hpart]
    exact ⟨⟨countOutcome_wf (setMark_wf hl), fun v => by rw [markOf_countOutcome]; exact hclean v⟩,
      writtenLanes_congr (fun p => by simp) hwritten⟩

variable (pages : List Nat) (start : Nat) (samples : List Sample)

/-- R16: the word operation of a run on the owner's word `index`. -/
def runOp (index : Nat) : MemOp := .write (wordOf pages index) (runLanes start samples index)

/-- Word operations on different words of an owner store each its lanes, and leave every other position alone. -/
theorem foldl_applyWrite {is : List Nat} (hp : pages.Nodup) (hn : is.Nodup) (hb : ∀ i, i ∈ is → i < 8192 * pages.length)
    {st : Store} (h : soundStore st) :
    let t := is.foldl (fun st i => applyWrite st (runOp pages start samples i)) st
    (∀ i l, i ∈ is → l ∈ runLanes start samples i → sampleAt t (4 * wordOf pages i + l.1) = l.2) ∧
      ∀ p, (∀ i l, i ∈ is → l ∈ runLanes start samples i → p ≠ 4 * wordOf pages i + l.1) →
        sampleAt t p = sampleAt st p := by
  induction is generalizing st with
  | nil => exact ⟨fun _ _ hi => absurd hi List.not_mem_nil, fun _ _ => rfl⟩
  | cons i is ih =>
    obtain ⟨hi, his⟩ := List.nodup_cons.1 hn
    obtain ⟨hsound, hwritten, hother⟩ := applyWrite_write h (runLanes_nodup start i samples) (w := wordOf pages i)
    obtain ⟨ihin, ihout⟩ := ih his (fun j hj => hb j (List.mem_cons_of_mem _ hj)) hsound
    refine ⟨fun j l hj hl => ?_, fun p hpne => ?_⟩
    · rcases List.mem_cons.1 hj with rfl | hj
      · refine (ihout _ fun k m hk hm he => ?_).trans (hwritten l hl)
        have hlt := (mem_runLanes.1 hl).1
        have hmt := (mem_runLanes.1 hm).1
        have hkj : j = k := wordOf_injective hp (hb j List.mem_cons_self) (hb k (List.mem_cons_of_mem _ hk)) (by omega)
        exact hi (hkj ▸ hk)
      · exact ihin j l hj hl
    · exact (ihout p fun k m hk hm => hpne k m (List.mem_cons_of_mem _ hk) hm).trans
        (hother p fun l hl => hpne i l List.mem_cons_self hl)

/-- Settles O19: the run's words are different words of the owner (`wordOf_injective`), and each holds the lanes of the
run's offsets in it (`mem_runLanes`). -/
theorem runWritesItsOffsetsOnly : Obligations.RunWritesItsOffsetsOnly := by
  unfold Obligations.RunWritesItsOffsetsOnly
  intro pages start samples st hwf hp hne hfit hmark
  have hpos : 0 < samples.length := List.length_pos_iff.2 hne
  let n := (start + samples.length - 1) / 4 + 1 - start / 4
  have hops : runOps pages start samples = (List.range n).map (fun k => runOp pages start samples (start / 4 + k)) := rfl
  have hfold := foldl_applyWrite pages start samples (is := (List.range n).map (fun k => start / 4 + k)) hp
    (List.nodup_range.map fun a b hab => Nat.add_left_cancel hab)
    (fun i hi => by
      obtain ⟨k, hk, rfl⟩ := List.mem_map.1 hi
      have := List.mem_range.1 hk
      omega) ⟨hwf, hmark⟩
  obtain ⟨hin, hout⟩ := hfold
  have hstep : (fun (st : Store) (op : MemOp) => match op with
      | .write w lanes => if isWhole lanes then storeWriteWhole w lanes st else (storeWritePart w lanes .clean st).2
      | _ => st) = applyWrite := by
    funext st op
    cases op <;> rfl
  have ht : (runOps pages start samples).foldl (fun (st : Store) (op : MemOp) => match op with
      | .write w lanes => if isWhole lanes then storeWriteWhole w lanes st else (storeWritePart w lanes .clean st).2
      | _ => st) st =
      ((List.range n).map (fun k => start / 4 + k)).foldl (fun st i => applyWrite st (runOp pages start samples i)) st := by
    rw [hstep, hops, List.foldl_map, List.foldl_map]
  refine ⟨fun k v hv => ?_, fun p hpne => ?_, fun k w lanes hk h0 hn => ?_⟩
  · have hk : k < samples.length := (List.getElem?_eq_some_iff.1 hv).1
    have hl : ((start + k) % 4, v) ∈ runLanes start samples ((start + k) / 4) := by
      refine mem_runLanes.2 ⟨by omega, by omega, ?_⟩
      have : 4 * ((start + k) / 4) + (start + k) % 4 - start = k := by omega
      simpa only [this] using hv
    exact (congrArg (fun t => sampleAt t _) ht).trans
      (hin _ _ (List.mem_map.2 ⟨(start + k) / 4 - start / 4, List.mem_range.2 (by omega), by omega⟩) hl)
  · refine (congrArg (fun t => sampleAt t _) ht).trans (hout p fun i l _ hl he => ?_)
    obtain ⟨hlt, hs, hv⟩ := mem_runLanes.1 hl
    have hk := (List.getElem?_eq_some_iff.1 hv).1
    refine hpne (4 * i + l.1 - start) hk ?_
    have hadd : start + (4 * i + l.1 - start) = 4 * i + l.1 := by omega
    have hdiv : (4 * i + l.1) / 4 = i := by omega
    have hmod : (4 * i + l.1) % 4 = l.1 := by omega
    simp only [hadd, hdiv, hmod]
    exact he
  · rw [hops, List.length_map, List.length_range] at hn
    rw [hops, List.getElem?_map, List.getElem?_range (by omega), Option.map_some] at hk
    cases hk
    exact isWhole_runLanes (by omega) (by omega)

end Sys2Proof.Machine
end

section
/-! PROOF. The arbiter: what is granted and what each requestor presents next (R10, R11, R19, R30, R55, R151): O20. -/

namespace Sys2Proof.Machine

variable {s : State}

/-! ## Presenting and granting -/

/-- R10: the requestors in falling priority, each with its waiting request. -/
def waitingGrant (a : Arbiter) : Option Grant :=
  (a.playback.map (fun op => { requestor := .playback, op := op, live := true })).or
  ((a.capture.map (fun op => { requestor := .capture, op := op, live := true })).or
  ((a.link.map (fun op => { requestor := .link, op := op, live := true })).or
  (a.scrub.map (fun op => { requestor := .scrub, op := op, live := true }))))

theorem grantNext_granted_some {g : Grant} (h : s.arbiter.granted = some g) : (grantNext s).arbiter.granted = some g := by
  simp only [grantNext, h]

theorem grantNext_granted_none (h : s.arbiter.granted = none) :
    (grantNext s).arbiter.granted = waitingGrant s.arbiter := by
  rcases hp : s.arbiter.playback with _ | op
  · rcases hc : s.arbiter.capture with _ | op
    · rcases hl : s.arbiter.link with _ | op
      · rcases hs : s.arbiter.scrub with _ | op <;> simp [grantNext, waitingGrant, h, hp, hc, hl, hs]
      · simp [grantNext, waitingGrant, h, hp, hc, hl]
    · simp [grantNext, waitingGrant, h, hp, hc]
  · simp [grantNext, waitingGrant, h, hp]

/-- R10: while no operation is granted a requestor's waiting request stands, and an empty slot takes its next. -/
theorem present_of_free (h : s.arbiter.granted = none) (r : Requestor) (slot next : Option MemOp) :
    present r slot next s = slot.or next := by
  cases slot <;> simp [present, holdsGrant, h]

theorem settle_up (h : s.life = .up) : settle s = grantNext (presentAll s) := by simp [settle, isUp, h]

/-- R10, R11: the granted operation stands; a free store is granted by priority. -/
theorem settle_granted (h : s.life = .up) :
    (∀ g, s.arbiter.granted = some g → (settle s).arbiter.granted = some g) ∧
      (s.arbiter.granted = none → (settle s).arbiter.granted = waitingGrant
        { granted := none, playback := s.arbiter.playback.or (nextPlayback s)
          capture := s.arbiter.capture.or (nextCapture s), link := s.arbiter.link.or (nextLink s)
          scrub := s.arbiter.scrub.or (nextScrub s) }) := by
  rw [settle_up h]
  refine ⟨fun g hg => grantNext_granted_some hg, fun hg => ?_⟩
  rw [grantNext_granted_none (show (presentAll s).arbiter.granted = none from hg)]
  simp only [presentAll, waitingGrant, present_of_free hg]

/-! ## What each requestor presents -/

/-- R55: whether a read for the play `p` is due. -/
def readDue (p : PlayParams) (s : State) : Prop :=
  s.pipeline.params = some (.play p) ∧ s.sequencer.fetch.nextWord < s.sequencer.fetch.dueWord

/-- R64: whether the prefetch `q` of the standing lookahead has a word to read. -/
def readAhead (q : Prefetch) (s : State) : Prop :=
  (∃ l, s.sequencer.lookahead = some l ∧ l.prefetch = some q) ∧ q.nextWord < q.stopWord

theorem nextPlayback_due {p : PlayParams} (h : readDue p s) : nextPlayback s =
    some (.read (wordOf p.pages s.sequencer.fetch.nextWord) s.sequencer.fetch.nextWord .play) := by
  obtain ⟨hp, hlt⟩ := h
  simp only [nextPlayback, hp, hlt, if_true, Option.some_or]

/-- With no read due for the play in progress, PLAYBACK presents the lookahead's prefetch. -/
theorem nextPlayback_not_due (h : ∀ p, ¬ readDue p s) : nextPlayback s =
    match s.sequencer.lookahead.bind Lookahead.prefetch with
    | some q => if q.nextWord < q.stopWord then some (.read (wordOf q.pages q.nextWord) q.nextWord .prefetch) else none
    | none => none := by
  have hplay : (match s.pipeline.params with
      | some (.play p) =>
        if s.sequencer.fetch.nextWord < s.sequencer.fetch.dueWord then
          some (MemOp.read (wordOf p.pages s.sequencer.fetch.nextWord) s.sequencer.fetch.nextWord .play)
        else none
      | _ => none) = none := by
    split
    · next p hp => exact if_neg fun hlt => h p ⟨hp, hlt⟩
    · rfl
  refine (congrArg (fun o => Option.or o _) hplay).trans ?_
  rw [Option.none_or]
  rcases s.sequencer.lookahead with _ | ⟨_, _, _, _ | q⟩ <;> rfl

theorem nextPlayback_ahead {q : Prefetch} (h : ∀ p, ¬ readDue p s) (hq : readAhead q s) :
    nextPlayback s = some (.read (wordOf q.pages q.nextWord) q.nextWord .prefetch) := by
  obtain ⟨⟨l, hl, hlq⟩, hlt⟩ := hq
  rw [nextPlayback_not_due h, hl, Option.bind_some, hlq]
  exact if_pos hlt

theorem nextPlayback_none (h : ∀ p, ¬ readDue p s) (hq : ∀ q, ¬ readAhead q s) : nextPlayback s = none := by
  rw [nextPlayback_not_due h]
  split
  · next q hb =>
    obtain ⟨l, hl, hlq⟩ := Option.bind_eq_some_iff.1 hb
    exact if_neg fun hlt => hq q ⟨⟨l, hl, hlq⟩, hlt⟩
  · rfl

theorem nextLink_segData {h : InHand} {op : MemOp} {rest : List MemOp} (hi : s.link.inHand = some h)
    (hj : h.job = .segData (op :: rest)) : nextLink s = some op := by
  obtain ⟨k, t, job⟩ := h
  cases hj
  simp only [nextLink, hi]

theorem nextLink_captureRead {h : InHand} {j : CaptureJob} {r : CaptureRecord} (hi : s.link.inHand = some h)
    (hj : h.job = .captureRead j) (hlt : j.nextWord < j.stopWord) (hr : slot s j.id = some r) :
    nextLink s = some (.read (wordOf r.pages j.nextWord) j.nextWord .captureRead) := by
  obtain ⟨k, t, job⟩ := h
  cases hj
  rw [slot] at hr
  simp only [nextLink, hi, hlt, if_true, hr]

/-- R30: where the request in hand has no word to read or write, LINK presents the next verification read. -/
theorem nextLink_verify (h : ∀ h, s.link.inHand = some h → (∀ op rest, h.job ≠ .segData (op :: rest)) ∧
    ∀ j, h.job = .captureRead j → j.stopWord ≤ j.nextWord) : nextLink s = nextVerify s := by
  unfold nextLink
  split
  · next op rest hi => exact absurd rfl ((h _ hi).1 op rest)
  · next j hi => exact if_neg (Nat.not_lt.mpr ((h _ hi).2 j rfl))
  · rfl

/-! ## The sweep -/

/-- R19: the least number from `q` on that an ascending list lacks. -/
theorem firstAbsent_spec {l : List Nat} (h : l.Pairwise (· < ·)) (q : Nat) :
    q ≤ firstAbsent l q ∧ firstAbsent l q ∉ l ∧ ∀ x, q ≤ x → x < firstAbsent l q → x ∈ l := by
  induction l generalizing q with
  | nil => exact ⟨Nat.le_refl q, List.not_mem_nil, fun x h1 h2 => absurd h2 (Nat.not_lt.mpr h1)⟩
  | cons y l ih =>
    obtain ⟨hy, hl⟩ := List.pairwise_cons.1 h
    unfold firstAbsent
    split
    · next hlt =>
      obtain ⟨hle, hout, hin⟩ := ih hl q
      refine ⟨hle, fun hm => ?_, fun x h1 h2 => List.mem_cons_of_mem _ (hin x h1 h2)⟩
      rcases List.mem_cons.1 hm with e | hm
      · omega
      · exact hout hm
    · split
      · next heq =>
        obtain ⟨hle, hout, hin⟩ := ih hl (q + 1)
        refine ⟨by omega, fun hm => ?_, fun x h1 h2 => ?_⟩
        · rcases List.mem_cons.1 hm with e | hm
          · omega
          · exact hout hm
        · rcases Nat.lt_or_ge q x with hq | hq
          · exact List.mem_cons_of_mem _ (hin x hq h2)
          · exact List.mem_cons.2 (.inl (by omega))
      · refine ⟨Nat.le_refl q, fun hm => ?_, fun x h1 h2 => absurd h2 (Nat.not_lt.mpr h1)⟩
        rcases List.mem_cons.1 hm with e | hm
        · omega
        · have := hy q hm
          omega

theorem firstAbsent_eq {l : List Nat} (h : l.Pairwise (· < ·)) {q r : Nat} (hle : q ≤ r) (hr : r ∉ l)
    (hin : ∀ x, q ≤ x → x < r → x ∈ l) : firstAbsent l q = r := by
  obtain ⟨hle', hout, hin'⟩ := firstAbsent_spec h q
  rcases Nat.lt_trichotomy (firstAbsent l q) r with hlt | heq | hgt
  · exact absurd (hin _ hle' hlt) hout
  · exact heq
  · exact absurd (hin' r hle hgt) hr

/-- Where an ascending list holds every number from `q` up to 512, none below 512 is lacking. -/
theorem le_firstAbsent {l : List Nat} (h : l.Pairwise (· < ·)) {q : Nat} (hin : ∀ x, q ≤ x → x < 512 → x ∈ l) :
    512 ≤ firstAbsent l q := by
  obtain ⟨hle, hout, -⟩ := firstAbsent_spec h q
  by_contra hlt
  exact hout (hin _ hle (Nat.not_le.mp hlt))

/-- R19: the next owned page is the lowest above the sweep's, or the lowest of all where none is above. -/
theorem nextOwned_eq {pool : List Nat} (h : pool.Pairwise (· < ·)) {p q : Nat} (hq : q < 512) (hout : q ∉ pool)
    (hpos : (p < q ∧ ∀ x, p < x → x < q → x ∈ pool) ∨
      (q < p ∧ (∀ x, p < x → x < 512 → x ∈ pool) ∧ ∀ x, x < q → x ∈ pool)) : nextOwned pool p = some q := by
  rcases hpos with ⟨hlt, hin⟩ | ⟨-, habove, hbelow⟩
  · have hup : firstAbsent pool (p + 1) = q := firstAbsent_eq h hlt hout hin
    simp [nextOwned, Config.storePages, hup, hq]
  · have hup := le_firstAbsent (q := p + 1) h habove
    have hlow : firstAbsent pool 0 = q := firstAbsent_eq h (Nat.zero_le q) hout fun x _ hx => hbelow x hx
    simp [nextOwned, Config.storePages, hlow, hq, Nat.not_lt.mpr hup]

theorem nextOwned_none {pool : List Nat} (h : pool.Pairwise (· < ·)) (p : Nat) (hall : ∀ q, q < 512 → q ∈ pool) :
    nextOwned pool p = none := by
  have hup := le_firstAbsent (q := p + 1) h fun x _ => hall x
  have hlow := le_firstAbsent (q := 0) h fun x _ => hall x
  simp [nextOwned, Config.storePages, Nat.not_lt.mpr hup, Nat.not_lt.mpr hlow]

theorem nextScrub_owned (h : s.sweep.page ∉ s.pool) : nextScrub s = some (.scrub s.sweep.page s.sweep.word) := by
  simp [nextScrub, scrubPosition, h]

theorem nextScrub_pooled (h : s.sweep.page ∈ s.pool) :
    nextScrub s = (nextOwned s.pool s.sweep.page).map (fun q => .scrub q 0) := by
  simp only [nextScrub, scrubPosition, List.contains_iff_mem, h, if_true, Option.map_map]
  rfl

/-- Settles O20: the grant by `settle_granted`, and each requestor's next request by its own lemma. -/
theorem arbiterGrantsByPriority : Obligations.ArbiterGrantsByPriority := by
  unfold Obligations.ArbiterGrantsByPriority
  refine ⟨fun s h => settle_granted h, fun s => ⟨fun p h => nextPlayback_due h, fun q h hq => nextPlayback_ahead h hq,
    fun h hq => nextPlayback_none h hq, rfl, fun h op rest hi hj => nextLink_segData hi hj,
    fun h j r hi hj hlt hr => nextLink_captureRead hi hj hlt hr, fun h => nextLink_verify h, nextScrub_owned,
    fun hin hp _ _ => ⟨fun q hq hout hpos => ?_, fun hall => ?_⟩⟩⟩
  · rw [nextScrub_pooled hin, nextOwned_eq hp hq hout hpos, Option.map_some]
  · rw [nextScrub_pooled hin, nextOwned_none hp _ hall, Option.map_none]

end Sys2Proof.Machine
end

section
/-! PROOF. The arbiter's completions (R13 to R15, R18): while no operation is granted the operations below a command's
meaning grant none, so that a release among them completes nothing in the store; then O22. -/

namespace Sys2Proof.Machine

variable {s t : State}

/-- R10: no operation holds the grant. -/
def storeFree (s : State) : Prop := s.arbiter.granted = none

theorem storeFree_congr (e : t.arbiter = s.arbiter) (h : storeFree s) : storeFree t := by rwa [storeFree, e]

/-- While the store is free, what it will hold once the granted operation is complete is what it holds. -/
theorem completeInStore_free (h : storeFree s) : completeInStore s = s.store := by
  rw [storeFree] at h
  rw [completeInStore, h]

/-! ## Lookahead and segments -/

theorem storeFree_raiseEvent (k : EventKind) (a v : Nat) (h : storeFree s) : storeFree (raiseEvent k a v s) :=
  storeFree_congr (raiseEvent_arbiter _ _ _ _) h

theorem storeFree_withdrawReads (q : ReadPurpose) (h : storeFree s) : storeFree (withdrawReads q s) := by
  rw [storeFree] at h ⊢
  simp only [withdrawReads, h]

theorem storeFree_voidLookahead (h : storeFree s) : storeFree (voidLookahead s) := storeFree_withdrawReads .prefetch h

theorem storeFree_segChanged (id : Nat) (h : storeFree s) : storeFree (segChanged id s) := by
  unfold segChanged redoLookahead
  split
  · split
    · exact storeFree_voidLookahead h
    · exact h
  · exact h

theorem storeFree_releasePages (ps : List Nat) (h : storeFree s) : storeFree (releasePages ps s) :=
  (releasePages_of_other fun g hg => by rw [storeFree, hg] at h; cases h).2.trans h

theorem storeFree_dropTarget (u : Target) (h : storeFree s) : storeFree (dropTarget u s) := by
  rw [storeFree] at h ⊢
  unfold dropTarget
  split
  · simp only [h]
  · exact h

theorem storeFree_swapIn (id : Nat) (h : storeFree s) : storeFree (swapIn id s) := by
  unfold swapIn
  split
  · exact h
  · exact storeFree_segChanged _ (storeFree_raiseEvent _ _ _ (storeFree_releasePages _ h))

theorem storeFree_endSegPlay (id : Nat) (h : storeFree s) : storeFree (endSegPlay id s) := by
  simp only [endSegPlay]
  split
  · exact storeFree_swapIn id h
  · exact h

theorem storeFree_markDamaged (id o : Nat) (h : storeFree s) : storeFree (markDamaged id o s) := by
  unfold markDamaged
  split
  · exact storeFree_segChanged _ (storeFree_raiseEvent _ _ _ h)
  · exact h

theorem storeFree_removeReplacement (id : Nat) (h : storeFree s) : storeFree (removeReplacement id s) := by
  unfold removeReplacement
  split
  · exact h
  · exact storeFree_releasePages _ h

theorem storeFree_dropReplacement (id : Nat) (h : storeFree s) : storeFree (dropReplacement id s) := by
  unfold dropReplacement
  split
  · exact storeFree_segChanged _ (storeFree_raiseEvent _ _ _ (storeFree_removeReplacement id h))
  · exact h

theorem storeFree_rejectTarget (u : Target) (m : Bool) (h : storeFree s) : storeFree (rejectTarget u m s) := by
  have hd := storeFree_dropTarget u h
  unfold rejectTarget
  split
  · exact storeFree_raiseEvent _ _ _ (storeFree_removeReplacement _ hd)
  · exact storeFree_raiseEvent _ _ _ (storeFree_releasePages _ hd)

theorem storeFree_readyTarget (u : Target) (h : storeFree s) : storeFree (readyTarget u s) := by
  have hd := storeFree_dropTarget u h
  have hset (n : Nat) (d : Descriptor) : storeFree
      (segChanged u.seg (raiseEvent .segmentReady u.seg n (setDescriptor u.seg d (dropTarget u s)))) :=
    storeFree_segChanged _ (storeFree_raiseEvent _ _ _ hd)
  simp only [readyTarget]
  split
  · split
    · exact hd
    · split
      · exact hset _ _
      · exact storeFree_swapIn _ (hset _ _)
  · exact hset _ _

/-! ## Evidence and faults -/

theorem storeFree_reportCapture (i o : Nat) (h : storeFree s) : storeFree (reportCapture i o s) := by
  unfold reportCapture
  split
  · exact h
  · split
    · exact h
    · exact storeFree_raiseEvent _ _ _ h

theorem storeFree_closeSummary (a j : Bool) (h : storeFree s) : storeFree (closeSummary a j s) := by
  unfold closeSummary queueSummary
  split
  · exact h
  · simp only
    split <;> exact storeFree_raiseEvent _ _ _ h

theorem storeFree_closeRecord (e : Bool) (h : storeFree s) : storeFree (closeRecord e s) := by
  simp only [closeRecord]
  split
  · exact h
  · split <;> exact h

theorem storeFree_closeCapture (a : Bool) (h : storeFree s) : storeFree (closeCapture a s) := by
  unfold closeCapture
  split
  · exact storeFree_closeRecord a h
  · exact h

theorem storeFree_countFrame (h : storeFree s) : storeFree (countFrame s) := by
  unfold countFrame
  split
  · exact h
  · split <;> exact h

theorem storeFree_endPlay (a j : Bool) (h : storeFree s) : storeFree (endPlay a j s) := by
  simp only [endPlay]
  split
  · exact storeFree_closeCapture a (storeFree_closeSummary a j (storeFree_endSegPlay _ (storeFree_withdrawReads _ h)))
  · exact h

theorem storeFree_abortEntry (h : storeFree s) : storeFree (abortEntry s) := by
  have hwait : storeFree (endJoinWait (voidLookahead s)) := by
    have hv := storeFree_voidLookahead h
    unfold endJoinWait
    split
    · split
      · exact storeFree_endSegPlay _ hv
      · exact hv
    · exact hv
  exact storeFree_endPlay true false hwait

theorem storeFree_endSource (k : Nat) (h : storeFree s) : storeFree (endSource k s) := by
  simp only [endSource]
  refine storeFree_raiseEvent _ _ _ ?_
  split <;> exact h

theorem storeFree_endWait (h : storeFree s) : storeFree (endWait s) := by
  unfold endWait
  split
  · exact storeFree_congr (by simp) (storeFree_endSource 35 h)
  · exact h

theorem storeFree_enterUnloading (h : storeFree s) : storeFree (enterUnloading s) :=
  storeFree_endWait (storeFree_abortEntry (s := { s with run.state := .unloading }) h)

theorem storeFree_freeze (h : storeFree s) : storeFree (freeze s) :=
  storeFree_endWait (storeFree_abortEntry (s := pressureFall { s with run.state := .frozen, run.unload := .idle }) h)

theorem storeFree_stopAction (h : storeFree s) : storeFree (stopAction s) := by
  unfold stopAction
  split
  case h_9 =>
    split
    · split
      · exact storeFree_raiseEvent _ _ _ h
      · exact h
    · exact h
  case h_7 => exact h
  case h_8 => exact h
  all_goals exact storeFree_enterUnloading h

theorem storeFree_formAction (h : storeFree s) : storeFree (formAction s) := by
  unfold formAction handAction
  split
  · exact h
  · split
    · exact storeFree_freeze (s := setAction s) h
    · exact storeFree_stopAction (s := setAction s) h
    · exact h

theorem storeFree_pauseJoined (h : storeFree s) : storeFree (pauseJoined s) := by
  unfold pauseJoined
  split
  · split <;> exact h
  · exact h

theorem storeFree_raise (k n : Nat) (h : storeFree s) : storeFree (raise k n s) := by
  simp only [raise]
  split
  · exact h
  · refine storeFree_formAction ?_
    split
    · exact storeFree_pauseJoined (storeFree_raiseEvent _ _ _ h)
    · exact storeFree_raiseEvent _ _ _ h

theorem storeFree_raiseEnded (k n : Nat) (h : storeFree s) : storeFree (raiseEnded k n s) := by
  unfold raiseEnded
  split
  · exact h
  · exact storeFree_raiseEvent _ _ _ h

/-! ## The sequencer -/

theorem storeFree_openCapture (e g : Nat) (h : storeFree s) : storeFree (openCapture e g s) := by
  simp only [openCapture]
  split
  · exact storeFree_raiseEvent _ _ _ h
  · split
    · exact storeFree_raiseEvent _ _ _ h
    · split
      · exact storeFree_raiseEvent _ _ _ h
      · next ha =>
        obtain ⟨rest, -, rfl⟩ := allocateOne_some ha
        exact h

theorem storeFree_beginPlay (i : Nat) (p : PlayEntry) (b : Bool) (h : storeFree s) : storeFree (beginPlay i p b s) := by
  have hopen : storeFree (openSummary i p.seg (zeroCounts { setDescriptor p.seg
      { descriptor s p.seg with inPlay := true } s with
        pipeline.params := some (.play (playParams i p b (descriptor s p.seg).data))
        sequencer.fetch := initialFetch (playParams i p b (descriptor s p.seg).data) s.sequencer.carried })) := h
  simp only [beginPlay]
  refine storeFree_congr (s := if p.capture = true then _ else _) rfl ?_
  split
  · exact storeFree_openCapture _ _ hopen
  · exact hopen

theorem storeFree_advance (fuel i : Nat) (h : storeFree s) : storeFree (advance fuel i s) := by
  induction fuel generalizing i s with
  | zero => exact h
  | succ n ih =>
    unfold advance
    split
    · simp only [endSchedule]
      split <;> exact storeFree_raiseEvent _ _ _ h
    · exact ih _ (storeFree_raiseEvent _ _ _ h)
    · exact ih (s := { s with schedule := _ }) _ h
    · exact h
    · split
      · exact storeFree_beginPlay _ _ _ h
      · split
        · exact ih _ (storeFree_raiseEvent _ _ _ (storeFree_raiseEnded _ _ h))
        · exact storeFree_raise _ _ h

theorem storeFree_proceed (h : storeFree s) : storeFree (proceed s) := by
  unfold proceed
  split
  · exact h
  · split
    · split
      · exact storeFree_beginPlay _ _ _ h
      · exact h
    · split
      · split
        · exact storeFree_advance _ _ h
        · exact storeFree_advance _ _ h
        · exact h
      · exact h

theorem storeFree_enterRunning (h : storeFree s) : storeFree (enterRunning s) := by
  refine storeFree_proceed (storeFree_congr (s := s) ?_ h)
  rw [callReads_eq]

theorem storeFree_pauseEmptied (h : storeFree s) : storeFree (pauseEmptied s) := by
  unfold pauseEmptied
  split
  · split
    · exact storeFree_enterRunning (storeFree_raiseEvent _ _ _ h)
    · exact storeFree_enterRunning (storeFree_raiseEvent _ _ _ h)
    · exact h
  · exact h

theorem storeFree_faultEnd (k : Nat) (h : storeFree s) : storeFree (faultEnd k s) := by
  have hend : storeFree (leaveSet k (endSource k s)) := storeFree_endSource k h
  simp only [faultEnd]
  split
  · refine storeFree_formAction ?_
    split
    · exact storeFree_pauseEmptied hend
    · exact hend
  · exact h

theorem storeFree_recheckMissing (id : Nat) (h : storeFree s) : storeFree (recheckMissing id s) := by
  unfold recheckMissing
  split
  · split
    · split
      · exact storeFree_faultEnd 35 h
      · exact h
    · exact h
  · exact h

/-! ## Completions -/

theorem storeFree_answer (st : Status) (b : ReplyBody) (h : storeFree s) : storeFree (answer st b s) :=
  storeFree_congr (answer_arbiter s st b) h

theorem storeFree_setJob (j : LinkJob) (h : storeFree s) : storeFree (setJob j s) := storeFree_congr (setJob_arbiter s j) h

theorem storeFree_countMemoryErrors (cs : List Nat) (h : storeFree s) : storeFree (countMemoryErrors cs s) := by
  unfold countMemoryErrors
  split <;> exact h

theorem storeFree_setPrefetch (q : Prefetch) (h : storeFree s) : storeFree (setPrefetch q s) := by
  unfold setPrefetch
  split <;> exact h

theorem storeFree_playRead (i : Nat) (o : ReadOutcome) (v : List Sample) (h : storeFree s) :
    storeFree (playRead i o v s) := by
  unfold playRead
  split
  · next p _ =>
    simp only
    split
    · have hmark (k : Nat) (cs : List Nat) (u : State) (hu : storeFree u) :
          storeFree (markDamaged p.seg 2 (countMemoryErrors cs (addDoubleErrors p.seg k u))) :=
        storeFree_markDamaged _ _ (storeFree_countMemoryErrors _ hu)
      simp only [substitute]
      split
      · exact hmark _ _ _ h
      · exact storeFree_raise _ _ (hmark _ _ _ h)
    · exact h
  · exact h

theorem storeFree_prefetchRead (i : Nat) (o : ReadOutcome) (v : List Sample) (h : storeFree s) :
    storeFree (prefetchRead i o v s) := by
  unfold prefetchRead
  split
  · simp only
    split
    · split
      · exact storeFree_dropReplacement _ (storeFree_setPrefetch _ h)
      · exact storeFree_markDamaged _ _ (storeFree_setPrefetch _ h)
    · exact storeFree_setPrefetch _ h
  · exact h

theorem storeFree_verifyRead (o : ReadOutcome) (v : List Sample) (h : storeFree s) : storeFree (verifyRead o v s) := by
  unfold verifyRead
  split
  · exact h
  · split
    · exact storeFree_recheckMissing _ (storeFree_rejectTarget _ _ h)
    · simp only
      split
      · split
        · exact storeFree_recheckMissing _ (storeFree_readyTarget _ h)
        · exact storeFree_recheckMissing _ (storeFree_rejectTarget _ _ h)
      · exact h

theorem storeFree_captureReadDone (i : Nat) (o : ReadOutcome) (v : List Sample) (h : storeFree s) :
    storeFree (captureReadDone i o v s) := by
  have hfinish (j : CaptureJob) (u : State) (hu : storeFree u) : storeFree (finishCaptureRead j u) := by
    unfold finishCaptureRead
    split
    · exact storeFree_setJob _ hu
    · exact storeFree_answer _ _ (storeFree_setJob _ hu)
  unfold captureReadDone
  split
  · refine hfinish _ _ ?_
    split
    · exact storeFree_reportCapture _ _ h
    · exact h
  · exact h

theorem storeFree_deliverRead (i : Nat) (q : ReadPurpose) (o : ReadOutcome) (v : List Sample) (h : storeFree s) :
    storeFree (deliverRead i q o v s) := by
  cases q with
  | play => exact storeFree_playRead i o v h
  | prefetch => exact storeFree_prefetchRead i o v h
  | verify => exact storeFree_verifyRead o v h
  | captureRead => exact storeFree_captureReadDone i o v h

theorem storeFree_captureWritten (lost : Bool) (h : storeFree s) : storeFree (captureWritten lost s) := by
  unfold captureWritten
  split
  · exact h
  · next op rest _ =>
    have hrest (u : State) (hu : storeFree u) : storeFree
        (if rest.isEmpty then
          if (countFrame u).capture.closing then proceed (closeRecord false (countFrame u)) else countFrame u
        else u) := by
      split
      · split
        · exact storeFree_proceed (storeFree_closeRecord _ (storeFree_countFrame hu))
        · exact storeFree_countFrame hu
      · exact hu
    simp only
    refine hrest _ ?_
    split
    · exact storeFree_reportCapture _ _ h
    · exact h

theorem storeFree_segDataWritten (lost : Bool) (h : storeFree s) : storeFree (segDataWritten lost s) := by
  unfold segDataWritten
  split
  · split
    · exact storeFree_answer _ _ (storeFree_setJob _ h)
    · split
      · exact storeFree_answer _ _ (storeFree_setJob _ h)
      · exact storeFree_setJob _ h
  · exact h

theorem storeFree_deliverWrite (r : Requestor) (lost : Bool) (h : storeFree s) : storeFree (deliverWrite r lost s) := by
  cases r with
  | capture => exact storeFree_captureWritten lost h
  | link => exact storeFree_segDataWritten lost h
  | playback => exact h
  | scrub => exact h

theorem storeFree_reportPage (p : Nat) (h : storeFree s) : storeFree (reportPage p s) := by
  unfold reportPage
  split
  · exact storeFree_markDamaged _ _ h
  · exact storeFree_dropReplacement _ h
  · exact storeFree_reportCapture _ _ h
  · exact h

end Sys2Proof.Machine
end

section
/-! PROOF. What the arbiter's completions do to the store and leave alone (R13 to R15, R18): O22. -/

namespace Sys2Proof.Machine

variable {s t : State}

/-! ## What a completion's report leaves alone -/

/-- The parts that no completion changes, beside the store as the granted operation leaves it. -/
def apart (s : State) : Life × Timebase × Store × RigLink × ConfigStore × Permit × Supervisor :=
  (s.life, s.timebase, completeInStore s, s.rig, s.config, s.permit, s.supervisor)

theorem apart_of_outer (h : outer t = outer s) : apart t = apart s := by
  obtain ⟨hlife, -, -, htime, hstore, hrig, hconfig, hpermit, hsup, -⟩ := outer_parts h
  simp only [apart, hlife, htime, hstore, hrig, hconfig, hpermit, hsup]

@[simp] theorem apart_answer (st : Status) (b : ReplyBody) : apart (answer st b s) = apart s := by
  simp [apart, completeInStore]
@[simp] theorem apart_setJob (j : LinkJob) : apart (setJob j s) = apart s := by simp [apart, completeInStore]

@[simp] theorem outer_substitute (p : PlayParams) (i : Nat) : outer (substitute p i s) = outer s := by
  simp only [substitute]
  split
  · rw [outer_markDamaged, outer_countMemoryErrors, outer_addDoubleErrors]; rfl
  · rw [outer_raise, outer_markDamaged, outer_countMemoryErrors, outer_addDoubleErrors]; rfl

@[simp] theorem outer_playRead (i : Nat) (o : ReadOutcome) (v : List Sample) : outer (playRead i o v s) = outer s := by
  unfold playRead
  split
  · simp only
    split
    · rw [outer_substitute]; rfl
    · rfl
  · rfl

@[simp] theorem outer_setPrefetch (q : Prefetch) : outer (setPrefetch q s) = outer s := by
  unfold setPrefetch; split <;> rfl

@[simp] theorem outer_prefetchRead (i : Nat) (o : ReadOutcome) (v : List Sample) :
    outer (prefetchRead i o v s) = outer s := by
  unfold prefetchRead
  split
  · simp only
    split
    · split <;> simp
    · simp
  · rfl

@[simp] theorem outer_verifyRead (o : ReadOutcome) (v : List Sample) : outer (verifyRead o v s) = outer s := by
  unfold verifyRead
  split
  · rfl
  · split
    · simp
    · simp only
      split
      · split <;> simp
      · rfl

@[simp] theorem apart_captureReadDone (i : Nat) (o : ReadOutcome) (v : List Sample) :
    apart (captureReadDone i o v s) = apart s := by
  have hfinish (j : CaptureJob) (u : State) : apart (finishCaptureRead j u) = apart u := by
    unfold finishCaptureRead; split <;> simp
  unfold captureReadDone
  split
  · rw [hfinish]
    split
    · exact apart_of_outer (outer_reportCapture _ _)
    · rfl
  · rfl

theorem apart_deliverRead (i : Nat) (q : ReadPurpose) (o : ReadOutcome) (v : List Sample) :
    apart (deliverRead i q o v s) = apart s := by
  cases q with
  | play => exact apart_of_outer (outer_playRead i o v)
  | prefetch => exact apart_of_outer (outer_prefetchRead i o v)
  | verify => exact apart_of_outer (outer_verifyRead o v)
  | captureRead => exact apart_captureReadDone i o v

@[simp] theorem outer_captureWritten (lost : Bool) : outer (captureWritten lost s) = outer s := by
  unfold captureWritten
  split
  · rfl
  · next op rest _ =>
    have hrest (u : State) : outer
        (if rest.isEmpty then
          if (countFrame u).capture.closing then proceed (closeRecord false (countFrame u)) else countFrame u
        else u) = outer u := by
      split
      · split <;> simp
      · rfl
    simp only
    refine (hrest _).trans ?_
    split
    · rw [outer_reportCapture]; rfl
    · rfl

theorem apart_segDataWritten (lost : Bool) : apart (segDataWritten lost s) = apart s := by
  unfold segDataWritten
  split
  · split
    · simp
    · split <;> simp
  · rfl

theorem apart_deliverWrite (r : Requestor) (lost : Bool) : apart (deliverWrite r lost s) = apart s := by
  cases r with
  | capture => exact apart_of_outer (outer_captureWritten lost)
  | link => exact apart_segDataWritten lost
  | playback => rfl
  | scrub => rfl

theorem outer_reportPage (p : Nat) : outer (reportPage p s) = outer s := by
  unfold reportPage
  split <;> simp

theorem outer_moveSweep (p w : Nat) : outer (moveSweep p w s) = outer s := by
  unfold moveSweep
  split <;> rfl

/-! ## The completions -/

/-- R13 to R18: the parts of the state, beside the store, that a completion leaves alone. -/
def keptParts (s t : State) : Prop :=
  t.life = s.life ∧ t.timebase = s.timebase ∧ t.rig = s.rig ∧ t.config = s.config ∧ t.permit = s.permit ∧
    t.supervisor = s.supervisor

/-- A report made on a free store leaves the store and the parts apart from it alone. -/
theorem kept_of_apart {u v : State} (hu : storeFree u) (hv : storeFree v) (h : apart v = apart u) :
    v.store = u.store ∧ keptParts u v := by
  simp only [apart, Prod.mk.injEq] at h
  obtain ⟨hlife, htime, hstore, hrig, hconfig, hpermit, hsup⟩ := h
  rw [completeInStore_free hu, completeInStore_free hv] at hstore
  exact ⟨hstore, hlife, htime, hrig, hconfig, hpermit, hsup⟩

theorem storeFree_release (s : State) : storeFree (release s) := rfl

theorem completeRead_kept (g : Grant) (w i : Nat) (q : ReadPurpose) (found : ReadOutcome) (s : State) :
    (completeRead g w i q found s).store = (storeRead w found s.store).2 ∧ keptParts s (completeRead g w i q found s) := by
  simp only [completeRead]
  split
  · exact kept_of_apart (u := release { s with store := (storeRead w found s.store).2 }) rfl
      (storeFree_deliverRead _ _ _ _ rfl) (apart_deliverRead _ _ _ _)
  · exact ⟨rfl, rfl, rfl, rfl, rfl, rfl, rfl⟩

theorem completeWrite_kept (g : Grant) (w : Nat) (lanes : List (Nat × Sample)) (found : ReadOutcome) (s : State) :
    (completeWrite g w lanes found s).store =
        (if isWhole lanes then storeWriteWhole w lanes s.store else (storeWritePart w lanes found s.store).2) ∧
      keptParts s (completeWrite g w lanes found s) := by
  simp only [completeWrite]
  split
  · exact kept_of_apart (u := release { s with store := storeWriteWhole w lanes s.store }) rfl
      (storeFree_deliverWrite _ _ rfl) (apart_deliverWrite _ _)
  · exact kept_of_apart (u := release { s with store := (storeWritePart w lanes found s.store).2 }) rfl
      (storeFree_deliverWrite _ _ rfl) (apart_deliverWrite _ _)

/-- R19: the sweep's move leaves the grant as it was. -/
theorem storeFree_moveSweep (p w : Nat) (h : storeFree s) : storeFree (moveSweep p w s) := by
  unfold moveSweep
  split <;> exact h

theorem completeScrub_kept (p w : Nat) (found : ReadOutcome) (s : State) :
    (completeScrub p w found s).store = (storeScrub (8192 * p + w) found s.store).2 ∧
      keptParts s (completeScrub p w found s) := by
  have hw : p * Config.pageWords + w = 8192 * p + w := by rw [Config.pageWords, Nat.mul_comm]
  have hmove := storeFree_moveSweep p w (storeFree_release { s with store := (storeScrub (8192 * p + w) found s.store).2 })
  simp only [completeScrub, hw]
  split
  · exact kept_of_apart (u := release { s with store := (storeScrub (8192 * p + w) found s.store).2 }) rfl
      (storeFree_reportPage p hmove) (apart_of_outer ((outer_reportPage p).trans (outer_moveSweep p w)))
  · exact kept_of_apart (u := release { s with store := (storeScrub (8192 * p + w) found s.store).2 }) rfl
      hmove (apart_of_outer (outer_moveSweep p w))

/-! ## The commands -/

theorem grantedOp_up {g : Grant} (hu : s.life = .up) (hg : s.arbiter.granted = some g) : grantedOp s = some g.op := by
  simp [grantedOp, isUp, hu, hg]

theorem grantedOp_free (h : s.arbiter.granted = none) : grantedOp s = none := by simp [grantedOp, h]

theorem completeGranted_read {g : Grant} {w i : Nat} {q : ReadPurpose} (found : ReadOutcome)
    (hg : s.arbiter.granted = some g) (hop : g.op = .read w i q) :
    completeGranted found s = completeRead g w i q found s := by simp only [completeGranted, hg, hop]

theorem completeGranted_write {g : Grant} {w : Nat} {lanes : List (Nat × Sample)} (found : ReadOutcome)
    (hg : s.arbiter.granted = some g) (hop : g.op = .write w lanes) :
    completeGranted found s = completeWrite g w lanes found s := by simp only [completeGranted, hg, hop]

theorem completeGranted_scrub {g : Grant} {p w : Nat} (found : ReadOutcome)
    (hg : s.arbiter.granted = some g) (hop : g.op = .scrub p w) :
    completeGranted found s = completeScrub p w found s := by simp only [completeGranted, hg, hop]

/-- R13: MEMORY_READ while a read is granted. -/
theorem exec_memoryRead {g : Grant} {w i : Nat} {q : ReadPurpose} (found : ReadOutcome) (hu : s.life = .up)
    (hg : s.arbiter.granted = some g) (hop : g.op = .read w i q) :
    exec (.memoryRead found) s =
      if w < 4194304 then .next (settle (completeRead g w i q found s)) else .fault .outsideStore := by
  have hin : exec (.memoryRead found) s = completeInside found (.read w i q) s := by
    simp only [exec, execMemoryRead, grantedOp_up hu hg, hop]
  rw [← completeGranted_read found hg hop]
  exact hin.trans rfl

/-- R14: WHOLE_WORD_WRITE while a write of a word of the store is granted. -/
theorem exec_wholeWordWrite {g : Grant} {w : Nat} {lanes : List (Nat × Sample)} (hu : s.life = .up)
    (hg : s.arbiter.granted = some g) (hop : g.op = .write w lanes) (hw : w < 4194304) :
    exec .wholeWordWrite s = if isWhole lanes then .next (settle (completeWrite g w lanes .clean s)) else .next s := by
  rw [← completeGranted_write .clean hg hop]
  simp only [exec, execWholeWordWrite, grantedOp_up hu hg, hop, completeInside, opWord, Config.storeWords, hw, if_true]

/-- R15: PARTIAL_WORD_WRITE while a write of a word of the store is granted. -/
theorem exec_partialWordWrite {g : Grant} {w : Nat} {lanes : List (Nat × Sample)} (found : ReadOutcome)
    (hu : s.life = .up) (hg : s.arbiter.granted = some g) (hop : g.op = .write w lanes) (hw : w < 4194304) :
    exec (.partialWordWrite found) s =
      if isWhole lanes then .next s else .next (settle (completeWrite g w lanes found s)) := by
  rw [← completeGranted_write found hg hop]
  simp only [exec, execPartialWordWrite, grantedOp_up hu hg, hop, completeInside, opWord, Config.storeWords, hw, if_true]

/-- R18: SCRUB while a scrub of a word of the store is granted. -/
theorem exec_scrub {g : Grant} {p w : Nat} (found : ReadOutcome) (hu : s.life = .up)
    (hg : s.arbiter.granted = some g) (hop : g.op = .scrub p w) (hp : p < 512) (hw : w < 8192) :
    exec (.scrub found) s = .next (settle (completeScrub p w found s)) := by
  have hin : p * 8192 + w < 4194304 := by omega
  rw [← completeGranted_scrub found hg hop]
  simp only [exec, execScrub, grantedOp_up hu hg, hop, completeInside, opWord, Config.storeWords, Config.pageWords, hin,
    if_true]

theorem isWhole_iff {lanes : List (Nat × Sample)} : isWhole lanes = true ↔ lanes.length = 4 := by simp [isWhole]

/-- The arbiter's work after a completion leaves its store and the kept parts alone. -/
theorem keptParts_settle (h : keptParts s t) : keptParts s (settle t) := by
  simpa only [keptParts, settle_life, settle_timebase, settle_rig, settle_config, settle_permit, settle_supervisor] using h

theorem next_settle_kept {r : Result} {st : Store} (hr : r = .next (settle t)) (h : t.store = st ∧ keptParts s t) :
    ∃ u, r = .next u ∧ u.store = st ∧ keptParts s u :=
  ⟨settle t, hr, (settle_store t).trans h.1, keptParts_settle h.2⟩

/-- Settles O22: each command runs its completion (`exec_memoryRead` and the like), whose report is made on a free store
and so leaves the store as the operation made it. -/
theorem completionsChangeStore : Obligations.CompletionsChangeStore := by
  unfold Obligations.CompletionsChangeStore
  refine ⟨fun g w i q found s hu hg hop => ?_, fun g w lanes found s hu hg hop hw => ?_,
    fun g p w found s hu hg hop hp hw => ⟨fun ho => ?_, ?_⟩, fun found s hg => ?_⟩
  · have he := exec_memoryRead found hu hg hop
    split
    · next hw => exact next_settle_kept (he.trans (if_pos hw)) (completeRead_kept g w i q found s)
    · next hw => exact he.trans (if_neg hw)
  · have hwhole := exec_wholeWordWrite hu hg hop hw
    have hpart := exec_partialWordWrite found hu hg hop hw
    have hk (o : ReadOutcome) := completeWrite_kept g w lanes o s
    split
    · next hl =>
      have hl := isWhole_iff.2 hl
      simp only [hl, if_true] at hwhole hpart hk
      exact ⟨next_settle_kept hwhole (hk .clean), hpart⟩
    · next hl =>
      have hl := mt isWhole_iff.1 hl
      simp only [hl] at hwhole hpart hk
      exact ⟨next_settle_kept hpart (hk found), hwhole⟩
  · rw [exec_scrub found hu hg hop hp hw]
    have hw' : p * Config.pageWords + w = 8192 * p + w := by rw [Config.pageWords, Nat.mul_comm]
    have ho' : (storeScrub (8192 * p + w) found s.store).1 ≠ .uncorrectable := by
      rcases e : outcomeAt s.store (8192 * p + w) found with _ | _ | _
      · rw [storeScrub_clean e]; nofun
      · rw [storeScrub_corrected e]; nofun
      · exact absurd e ho
    simp only [completeScrub, hw', if_neg ho', release]
  · exact next_settle_kept (exec_scrub found hu hg hop hp hw) (completeScrub_kept p w found s)
  · have hn := grantedOp_free hg
    simp only [exec, execMemoryRead, execWholeWordWrite, execPartialWordWrite, execScrub, hn, and_self]

end Sys2Proof.Machine
end

section
/-! PROOF. SEG_OPEN and SEG_DATA (R16, R25 to R28): O23, O24. -/

namespace Sys2Proof.Machine

variable {s : State}

/-! ## A segment request taken -/

/-- R25: a segment request of fitting length that names no segment of the table. -/
theorem onSegment_badId {fits : Bool} {body : List Byte} {g : Nat → State → State} (hf : fits = true)
    (hid : 63 < (byteAt body 0).toNat) : onSegment fits body g s = answer .badValue .empty s := by
  simp [onSegment, hf, hid]

theorem onSegment_id {fits : Bool} {body : List Byte} {g : Nat → State → State} (hf : fits = true)
    (hid : (byteAt body 0).toNat ≤ 63) : onSegment fits body g s = g (byteAt body 0).toNat s := by
  simp [onSegment, hf, Nat.not_lt.mpr hid]

/-- The job of a request just taken. -/
theorem setJob_taken {kind tag : Byte} {job : LinkJob} {u : State} (h : u.link = taken s kind tag .answered) :
    setJob job u = { u with link := taken s kind tag job } := by simp [setJob, h, taken]

/-! ## SEG_OPEN -/

theorem pagesNeeded_eq (channels : BitVec 16) (frames : Nat) :
    pagesNeeded channels frames = (maskCount channels * frames + 32767) / 32768 := by
  simp only [pagesNeeded, ceilDiv, Config.pageSamples]
  omega

theorem segValuesOk_iff {a : SegOpenArgs} : segValuesOk a = true ↔
    a.channels ≠ 0 ∧ 2 ≤ a.frames ∧ a.frames ≤ 1048576 ∧ a.ratio ∈ [1, 2, 4, 8] := by
  simp [segValuesOk, and_assoc, or_assoc]

section Open
variable {a : SegOpenArgs} {n : Nat}

theorem openPlain_badValue (h : segValuesOk a ≠ true) : openPlain a s = answer .badValue .empty s := by
  simp [openPlain, h]

theorem openPlain_wrongState (h : segValuesOk a = true) (hd : (descriptor s a.id).state ≠ .empty) :
    openPlain a s = answer .wrongState .empty s := by simp [openPlain, h, hd]

theorem openPlain_noSpace (h : segValuesOk a = true) (hd : (descriptor s a.id).state = .empty)
    (hneed : pagesNeeded a.channels a.frames = n)
    (hn : s.pool.length < n) : openPlain a s = answer .noSpace .empty s := by
  simp [openPlain, h, hd, hneed, allocateBlock_none.2 hn]

theorem openPlain_opened (h : segValuesOk a = true) (hd : (descriptor s a.id).state = .empty)
    (hneed : pagesNeeded a.channels a.frames = n)
    (hn : n ≤ s.pool.length) :
    openPlain a s = answer .ok .empty (setDescriptor a.id
      { state := .loading, data := openedData a (s.pool.take n), doubleErrors := 0
        inPlay := false, repl := none } { s with pool := s.pool.drop n }) := by
  simp [openPlain, h, hd, allocateBlock, hneed, hn]

theorem openReplacement_badValue (h : segValuesOk a ≠ true) : openReplacement a s = answer .badValue .empty s := by
  simp [openReplacement, h]

theorem openReplacement_wrongState (h : segValuesOk a = true) (hr : (descriptor s a.id).state ≠ .ready)
    (hd : (descriptor s a.id).state ≠ .damaged) : openReplacement a s = answer .wrongState .empty s := by
  simp [openReplacement, h, hr, hd]

/-- R27: only a READY or DAMAGED descriptor takes a replacement. -/
theorem not_wrongState {d : Descriptor} (h : d.state = .ready ∨ d.state = .damaged) :
    ¬ (d.state ≠ .ready ∧ d.state ≠ .damaged) := fun hn => h.elim hn.1 hn.2

theorem openReplacement_inUse (h : segValuesOk a = true)
    (hs : (descriptor s a.id).state = .ready ∨ (descriptor s a.id).state = .damaged)
    (hr : (descriptor s a.id).repl ≠ none) : openReplacement a s = answer .inUse .empty s := by
  have hsome : (descriptor s a.id).repl.isSome = true := Option.isSome_iff_ne_none.2 hr
  simp only [openReplacement, h, Bool.not_true, Bool.false_eq_true, if_false, not_wrongState hs, hsome, if_true]

theorem openReplacement_noSpace (h : segValuesOk a = true)
    (hs : (descriptor s a.id).state = .ready ∨ (descriptor s a.id).state = .damaged)
    (hr : (descriptor s a.id).repl = none) (hneed : pagesNeeded a.channels a.frames = n)
    (hn : s.pool.length < n) :
    openReplacement a s = answer .noSpace .empty s := by
  simp only [openReplacement, h, Bool.not_true, Bool.false_eq_true, if_false, not_wrongState hs, hr, Option.isSome_none,
    hneed, allocateBlock_none.2 hn]

theorem openReplacement_opened (h : segValuesOk a = true)
    (hs : (descriptor s a.id).state = .ready ∨ (descriptor s a.id).state = .damaged)
    (hr : (descriptor s a.id).repl = none) (hneed : pagesNeeded a.channels a.frames = n)
    (hn : n ≤ s.pool.length) :
    openReplacement a s = answer .ok .empty (setDescriptor a.id
      { descriptor s a.id with
        repl := some
          { state := .loading, data := openedData a (s.pool.take n) } }
      { s with pool := s.pool.drop n }) := by
  simp only [openReplacement, h, Bool.not_true, Bool.false_eq_true, if_false, not_wrongState hs, hr, Option.isSome_none,
    allocateBlock, hneed, hn, if_true]

end Open

/-- A SEG_OPEN of 9 bytes that is taken, whichever of the two commands carries it. -/
theorem exec_segOpen {tag : Byte} {body : List Byte} (h : linkFree s = true) (hb : body.length = 9) :
    ∀ c, c ∈ [Instr.segOpen tag body, Instr.segOpenReplace tag body] →
      exec c s = .next (settle (segOpenEffect body { s with link := taken s 0x20 tag .answered })) := by
  have hreq := onRequest_free (kind := 0x20) (tag := tag) (f := segOpenEffect body) h (by omega : body.length ≤ 1040)
  intro c hc
  rcases List.mem_cons.1 hc with rfl | hc
  · exact congrArg (fun u => Host.Outcome.next (settle u)) hreq
  · rw [List.mem_singleton.1 hc]
    exact congrArg (fun u => Host.Outcome.next (settle u)) hreq

/-- What a SEG_OPEN of 9 bytes does to the device that has taken it. -/
theorem segOpenEffect_badId {body : List Byte} (hb : body.length = 9) (hid : 63 < (byteAt body 0).toNat) :
    segOpenEffect body s = answer .badValue .empty s := onSegment_badId (by simp [hb]) hid

theorem segOpenEffect_plain {body : List Byte} (hb : body.length = 9) (hid : (byteAt body 0).toNat ≤ 63)
    (hf : (byteAt body 8).getLsbD 0 = false) : segOpenEffect body s = openPlain (segOpenArgs body) s :=
  (onSegment_id (by simp [hb]) hid).trans (if_neg (by rw [segOpenArgs, hf]; nofun))

theorem segOpenEffect_replace {body : List Byte} (hb : body.length = 9) (hid : (byteAt body 0).toNat ≤ 63)
    (hf : (byteAt body 8).getLsbD 0 = true) : segOpenEffect body s = openReplacement (segOpenArgs body) s :=
  (onSegment_id (by simp [hb]) hid).trans (if_pos (by rw [segOpenArgs, hf]))

/-- Settles O23: the request is taken (`exec_segOpen`) and judged in the rule's order, a lemma for each outcome. -/
theorem segOpenTakesPages : Obligations.SegOpenTakesPages := by
  unfold Obligations.SegOpenTakesPages
  intro tag body s h hb
  let u : State := { s with link := taken s 0x20 tag .answered }
  have hexec := exec_segOpen (tag := tag) h hb
  have hplain := hexec _ List.mem_cons_self
  have hreplace := hexec _ (List.mem_cons_of_mem _ List.mem_cons_self)
  have hneed : pagesNeeded (segOpenArgs body).channels (segOpenArgs body).frames =
      (maskCount (le16At body 1) * (le32At body 3).toNat + 32767) / 32768 :=
    pagesNeeded_eq (le16At body 1) (le32At body 3).toNat
  have refused (status : Status) : answer status .empty u =
      { s with link := answered s 0x20 tag status .empty } := answer_answered rfl
  have opened (n : Nat) (e : Descriptor) :
      answer .ok .empty (setDescriptor (byteAt body 0).toNat e
        { u with pool := u.pool.drop n }) =
      { s with pool := s.pool.drop n, segments := tset s.segments (byteAt body 0).toNat e
               link := answered s 0x20 tag .ok .empty } := answer_answered rfl
  refine ⟨fun hid c hc => ?_, fun hid => ⟨fun hf => ?_, fun hf => ?_⟩⟩
  · rw [hexec c hc, segOpenEffect_badId hb hid, refused]
  · rw [segOpenEffect_plain hb hid hf] at hplain
    refine ⟨fun hg => ?_, fun hg hd => ?_, fun hg hd hn => ?_, fun hg hd hn => ?_⟩ <;> dsimp only <;> rw [hplain]
    · rw [openPlain_badValue (mt segValuesOk_iff.1 hg), refused]
    · rw [openPlain_wrongState (segValuesOk_iff.2 hg) hd, refused]
    · rw [openPlain_noSpace (s := u) (a := segOpenArgs body) (segValuesOk_iff.2 hg) hd hneed hn, refused]
    · rw [openPlain_opened (s := u) (a := segOpenArgs body) (segValuesOk_iff.2 hg) hd hneed hn]
      exact congrArg (fun u => Host.Outcome.next (settle u)) (opened _ _)
  · rw [segOpenEffect_replace hb hid hf] at hreplace
    refine ⟨fun hg => ?_, fun hg hr hd => ?_, fun hg hs hr => ?_, fun hg hs hr hn => ?_, fun hg hs hr hn => ?_⟩ <;>
      dsimp only <;> rw [hreplace]
    · rw [openReplacement_badValue (mt segValuesOk_iff.1 hg), refused]
    · rw [openReplacement_wrongState (segValuesOk_iff.2 hg) hr hd, refused]
    · rw [openReplacement_inUse (segValuesOk_iff.2 hg) hs hr, refused]
    · rw [openReplacement_noSpace (s := u) (a := segOpenArgs body) (segValuesOk_iff.2 hg) hs hr hneed hn, refused]
    · rw [openReplacement_opened (s := u) (a := segOpenArgs body) (segValuesOk_iff.2 hg) hs hr hneed hn]
      exact congrArg (fun u => Host.Outcome.next (settle u)) (opened _ _)

/-! ## SEG_DATA -/

/-- R28: what a SEG_DATA that is taken does, by the data of the loading target and whether it is in LOADING. -/
theorem segDataEffect_eq (body : List Byte) (id : Nat) {t : Target} {data : SegData} {loading : Bool} {u : State}
    (h : loadingTarget id u = (t, data, loading)) :
    segDataEffect body id u =
      if loading then
        if maskCount data.channels * data.frames < (le32At body 1).toNat + (body.length - 5) / 2 then
          answer .badValue .empty u
        else setJob (.segData (runOps data.pages (le32At body 1).toNat (segDataSamples body))) u
      else answer .wrongState .empty u := by
  have hlen : (segDataSamples body).length = (body.length - 5) / 2 := by simp [segDataSamples, samplesAt]
  simp only [segDataEffect, h, hlen]
  cases loading <;> rfl

/-- R28: the replies that follow a word write of the SEG_DATA in hand. -/
theorem segDataWritten_eq {kind tag : Byte} {op : MemOp} {rest : List MemOp} (lost : Bool)
    (h : s.link.inHand = some { kind := kind, tag := tag, job := .segData (op :: rest) }) :
    segDataWritten lost s =
      if lost then answer .memoryError .empty (setJob .answered s)
      else if rest.isEmpty then answer .ok .empty (setJob .answered s) else setJob (.segData rest) s := by
  simp only [segDataWritten, h]

theorem answer_setJob_inHand {kind tag : Byte} {job job' : LinkJob} {status : Status} {body : ReplyBody}
    (h : s.link.inHand = some { kind := kind, tag := tag, job := job }) :
    answer status body (setJob job' s) = { s with link := { s.link with
      inHand := some { kind := kind, tag := tag, job := job' }
      reply := some { kind := kind, tag := tag, status := status, body := body } } } := by
  simp [answer, setJob, h]

theorem setJob_inHand {kind tag : Byte} {job job' : LinkJob}
    (h : s.link.inHand = some { kind := kind, tag := tag, job := job }) :
    setJob job' s = { s with link := { s.link with inHand := some { kind := kind, tag := tag, job := job' } } } := by
  simp [setJob, h]

/-- R28: the link once a word write of the SEG_DATA in hand is complete. -/
def segDataLink (l : ControlLink) (tag : Byte) (rest : List MemOp) (lost : Bool) : ControlLink :=
  let done (status : Status) : ControlLink :=
    { l with
      inHand := some { kind := 0x21, tag := tag, job := .answered }
      reply := some { kind := 0x21, tag := tag, status := status, body := .empty } }
  if lost then done .memoryError
  else if rest = [] then done .ok
  else { l with inHand := some { kind := 0x21, tag := tag, job := .segData rest } }

theorem segDataWritten_link {tag : Byte} {op : MemOp} {rest : List MemOp} (lost : Bool)
    (h : s.link.inHand = some { kind := 0x21, tag := tag, job := .segData (op :: rest) }) :
    segDataWritten lost s = { s with link := segDataLink s.link tag rest lost } := by
  rw [segDataWritten_eq lost h, answer_setJob_inHand h, answer_setJob_inHand h, setJob_inHand h]
  cases lost
  · cases rest <;> rfl
  · rfl

/-- R15: a partial-word write is lost exactly where it finds its word uncorrectable. -/
theorem storeWritePart_outcome (w : Nat) (lanes : List (Nat × Sample)) (found : ReadOutcome) (st : Store) :
    (storeWritePart w lanes found st).1 = outcomeAt st w found := by
  rw [storeWritePart_of_outcome _ rfl]
  split <;> rfl

/-- R28: the completion of the SEG_DATA's granted word write. -/
theorem completeWrite_segData {tag : Byte} {w : Nat} {lanes : List (Nat × Sample)} {op : MemOp} {rest : List MemOp}
    {g : Grant} (found : ReadOutcome) (hg : g.requestor = .link)
    (h : s.link.inHand = some { kind := 0x21, tag := tag, job := .segData (op :: rest) }) :
    completeWrite g w lanes found s =
      if isWhole lanes then
        { s with store := storeWriteWhole w lanes s.store, arbiter := { s.arbiter with granted := none }
                 link := segDataLink s.link tag rest false }
      else
        { s with store := (storeWritePart w lanes found s.store).2, arbiter := { s.arbiter with granted := none }
                 link := segDataLink s.link tag rest (decide (outcomeAt s.store w found = .uncorrectable)) } := by
  simp only [completeWrite, hg, deliverWrite, storeWritePart_outcome]
  split
  · exact segDataWritten_link (s := release { s with store := storeWriteWhole w lanes s.store }) false h
  · exact segDataWritten_link (s := release { s with store := (storeWritePart w lanes found s.store).2 }) _ h

/-- Settles O24: the request by `segDataEffect_eq`, and each completion of a word write by `completeWrite_segData`. -/
theorem segDataWritesRun : Obligations.SegDataWritesRun := by
  unfold Obligations.SegDataWritesRun
  refine ⟨fun tag body s h h7 h1029 hodd => ?_, fun tag w lanes op rest found s hu hw hg hi => ⟨fun hl => ?_, fun hl => ?_⟩⟩
  · let u : State := { s with link := taken s 0x21 tag .answered }
    have hfits : segDataFits body = true := by simp [segDataFits, h7, h1029, hodd]
    have hexec : exec (.segData tag body) s =
        .next (settle (onSegment (segDataFits body) body (segDataEffect body) u)) :=
      congrArg (fun u => Host.Outcome.next (settle u))
        (onRequest_free (kind := 0x21) (tag := tag) h (by omega : body.length ≤ 1040))
    have refused (status : Status) : answer status .empty u = { s with link := answered s 0x21 tag status .empty } :=
      answer_answered rfl
    have taking (job : LinkJob) : setJob job u = { s with link := taken s 0x21 tag job } := setJob_taken rfl
    refine ⟨fun hid => ?_, fun hid => ?_⟩
    · rw [hexec, onSegment_badId hfits hid, refused]
    · rw [onSegment_id hfits hid] at hexec
      have judged {t : Target} {data : SegData} {loading : Bool}
          (ht : loadingTarget (byteAt body 0).toNat u = (t, data, loading)) :
          if loading then
            if maskCount data.channels * data.frames < (le32At body 1).toNat + (body.length - 5) / 2 then
              exec (.segData tag body) s = .next (settle { s with link := answered s 0x21 tag .badValue .empty })
            else exec (.segData tag body) s = .next (settle { s with
              link := taken s 0x21 tag (.segData (runOps data.pages (le32At body 1).toNat (segDataSamples body))) })
          else exec (.segData tag body) s = .next (settle { s with link := answered s 0x21 tag .wrongState .empty }) := by
        rw [segDataEffect_eq body _ ht, refused, refused, taking] at hexec
        cases loading
        · exact hexec
        · simp only [if_true] at hexec ⊢
          split
          · next hlt => rwa [if_pos hlt] at hexec
          · next hlt => rwa [if_neg hlt] at hexec
      refine ⟨fun r hr => ?_, fun hr => ?_⟩
      · have hs := judged (loadingTarget_some hr)
        simp only [decide_eq_true_eq] at hs
        exact hs
      · have hs := judged (loadingTarget_none hr)
        simp only [decide_eq_true_eq] at hs
        exact hs
  · have hwhole := isWhole_iff.2 hl
    rw [exec_wholeWordWrite hu hg rfl hw, if_pos hwhole, completeWrite_segData .clean rfl hi, if_pos hwhole]
    rfl
  · have hpart := mt isWhole_iff.1 hl
    rw [exec_partialWordWrite found hu hg rfl hw, if_neg hpart, completeWrite_segData found rfl hi, if_neg hpart]
    by_cases ho : outcomeAt s.store w found = .uncorrectable
    · rw [if_pos ho, decide_eq_true ho]; rfl
    · rw [if_neg ho, decide_eq_false ho]; rfl

end Sys2Proof.Machine
end

section
/-! PROOF. An uncorrectable scrub and its page's owner (R20, R40, R154): O27. -/

namespace Sys2Proof.Machine

variable {s : State}

/-! ## With no lookahead standing -/

/-- R65: a change to a segment redoes nothing while no lookahead stands. -/
theorem segChanged_of_none {id : Nat} (h : s.sequencer.lookahead = none) : segChanged id s = s := by
  simp [segChanged, successorNames, h]

theorem markDamaged_ready {id o : Nat} (h : s.sequencer.lookahead = none) (hd : (descriptor s id).state = .ready) :
    markDamaged id o s =
      raiseEvent .segmentDamaged id o (setDescriptor id { descriptor s id with state := .damaged } s) := by
  have hl : (raiseEvent .segmentDamaged id o
      (setDescriptor id { descriptor s id with state := .damaged } s)).sequencer.lookahead = none := by simpa using h
  rw [markDamaged, if_pos hd]
  exact segChanged_of_none hl

theorem markDamaged_other {id o : Nat} (hd : (descriptor s id).state ≠ .ready) : markDamaged id o s = s := if_neg hd

theorem waitingRepl_some {id : Nat} {r : Replacement} (hr : (descriptor s id).repl = some r) :
    (waitingRepl id s).isSome = decide (r.state = .ready) := by
  simp only [waitingRepl, hr]
  split
  · next h => rw [decide_eq_true h]; rfl
  · next h => rw [decide_eq_false h]; rfl

theorem dropReplacement_ready {id : Nat} {r : Replacement} (h : s.sequencer.lookahead = none)
    (hr : (descriptor s id).repl = some r) (hready : r.state = .ready) :
    dropReplacement id s = raiseEvent .segmentRejected id 4 (removeReplacement id s) := by
  have hl : (raiseEvent .segmentRejected id 4 (removeReplacement id s)).sequencer.lookahead = none := by
    simpa [removeReplacement, hr, dropCarried] using h
  rw [dropReplacement, waitingRepl_some hr, decide_eq_true hready, if_pos rfl]
  exact segChanged_of_none hl

theorem dropReplacement_other {id : Nat} {r : Replacement} (hr : (descriptor s id).repl = some r)
    (hready : r.state ≠ .ready) : dropReplacement id s = s := by
  rw [dropReplacement, waitingRepl_some hr, decide_eq_false hready]
  rfl

theorem dropReplacement_none {id : Nat} (hr : (descriptor s id).repl = none) : dropReplacement id s = s := by
  simp [dropReplacement, waitingRepl, hr]

/-! ## What a report can change -/

/-- R20: the parts that a report of an uncorrectable page to its owner leaves alone, beside the store, the pool, the
arbiter, the sweep, the segments, the captures, the events and the frames carried to a successor. -/
def reportOnly (s t : State) : Prop :=
  t = { s with
        store := t.store, pool := t.pool, arbiter := t.arbiter, sweep := t.sweep, segments := t.segments
        capture := t.capture, events := t.events
        sequencer := { s.sequencer with carried := t.sequencer.carried } }

theorem reportOnly_trans {t u : State} (h : reportOnly s t) (h' : reportOnly t u) : reportOnly s u := by
  unfold reportOnly at *
  rw [h', h]

theorem reportOnly_raiseEvent (k : EventKind) (a v : Nat) : reportOnly s (raiseEvent k a v s) := by
  unfold reportOnly
  rw [raiseEvent_eq]

theorem reportOnly_releasePages (ps : List Nat) : reportOnly s (releasePages ps s) := by
  unfold reportOnly
  rw [releasePages_eq]

theorem reportOnly_settle : reportOnly s (settle s) := by
  unfold reportOnly
  rw [settle_eq]

theorem reportOnly_reportPage (p : Nat) (h : s.sequencer.lookahead = none) : reportOnly s (reportPage p s) := by
  unfold reportPage
  split
  · next id _ =>
    by_cases hd : (descriptor s id).state = .ready
    · rw [markDamaged_ready h hd]
      exact reportOnly_trans (t := setDescriptor id _ s) rfl (reportOnly_raiseEvent _ _ _)
    · rw [markDamaged_other hd]; rfl
  · next id _ =>
    rcases hr : (descriptor s id).repl with _ | r
    · rw [dropReplacement_none hr]; rfl
    · by_cases hready : r.state = .ready
      · rw [dropReplacement_ready h hr hready]
        refine reportOnly_trans ?_ (reportOnly_raiseEvent _ _ _)
        simp only [removeReplacement, hr]
        exact reportOnly_trans (t := dropCarried id true (setDescriptor id _ s)) rfl (reportOnly_releasePages _)
      · rw [dropReplacement_other hr hready]; rfl
  · next i _ =>
    unfold reportCapture
    split
    · rfl
    · split
      · rfl
      · exact reportOnly_trans (t := setSlot i _ s) rfl (reportOnly_raiseEvent _ _ _)
  · rfl

/-! ## What the report does, by the page's owner -/

/-- What a report that no owner takes leaves as it was. -/
def quietReport (s t : State) : Prop :=
  t.events = s.events ∧ t.segments = s.segments ∧ t.capture = s.capture ∧ t.pool = s.pool

theorem reportPage_segment {p id : Nat} (h : s.sequencer.lookahead = none) (ho : ownerOf s p = some (.segment id))
    (hid : id < 64) :
    let t := reportPage p s
    ((descriptor s id).state = .ready →
      descriptor t id = { descriptor s id with state := .damaged } ∧
      (∀ j, j < 64 → j ≠ id → descriptor t j = descriptor s j) ∧
      t.events = (raiseEvent .segmentDamaged id 1 s).events) ∧
    ((descriptor s id).state ≠ .ready → quietReport s t) := by
  have ht : reportPage p s = markDamaged id 1 s := by simp only [reportPage, ho]
  refine ⟨fun hd => ?_, fun hd => ?_⟩
  · rw [ht, markDamaged_ready h hd]
    have hdesc (j : Nat) : descriptor (raiseEvent .segmentDamaged id 1
        (setDescriptor id { descriptor s id with state := .damaged } s)) j =
          if j = id then { descriptor s id with state := .damaged } else descriptor s j := by
      rw [descriptor, raiseEvent_segments]
      exact descriptor_setDescriptor _ hid j
    exact ⟨(hdesc id).trans (if_pos rfl), fun j _ hj => (hdesc j).trans (if_neg hj), raiseEvent_events_congr _ _ _ rfl rfl⟩
  · rw [ht, markDamaged_other hd]
    exact ⟨rfl, rfl, rfl, rfl⟩

theorem reportPage_replacement {p id : Nat} {r : Replacement} (h : s.sequencer.lookahead = none)
    (ho : ownerOf s p = some (.replacement id)) (hr : (descriptor s id).repl = some r) :
    let t := reportPage p s
    (r.state = .ready →
      descriptor t id = { descriptor s id with repl := none } ∧
      (∀ j, j < 64 → j ≠ id → descriptor t j = descriptor s j) ∧
      (∀ q, q ∈ t.pool ↔ q ∈ s.pool ∨ q ∈ r.data.pages) ∧
      t.events = (raiseEvent .segmentRejected id 4 s).events) ∧
    (r.state ≠ .ready → quietReport s t) := by
  have ht : reportPage p s = dropReplacement id s := by simp only [reportPage, ho]
  refine ⟨fun hready => ?_, fun hready => ?_⟩
  · have hremove : removeReplacement id s = releasePages r.data.pages (dropCarried id true
        (setDescriptor id { descriptor s id with repl := none } s)) := by simp only [removeReplacement, hr]
    have hdesc (j : Nat) : descriptor (raiseEvent .segmentRejected id 4 (removeReplacement id s)) j =
        if j = id then { descriptor s id with repl := none } else descriptor s j := by
      rw [descriptor, raiseEvent_segments, hremove, releasePages_segments]
      exact descriptor_setDescriptor _ (lt_of_repl hr) j
    rw [ht, dropReplacement_ready h hr hready]
    refine ⟨(hdesc id).trans (if_pos rfl), fun j _ hj => (hdesc j).trans (if_neg hj), fun q => ?_, ?_⟩
    · rw [raiseEvent_pool, hremove, mem_releasePages, or_comm]
      rfl
    · exact raiseEvent_events_congr _ _ _ (by rw [hremove]; simp) (by rw [hremove]; simp)
  · rw [ht, dropReplacement_other hr hready]
    exact ⟨rfl, rfl, rfl, rfl⟩

theorem reportPage_capture {p i : Nat} {r : CaptureRecord} (ho : ownerOf s p = some (.capture i))
    (hr : slot s i = some r) :
    let t := reportPage p s
    (r.damaged = false →
      slot t i = some { r with damaged := true } ∧ (∀ j, j < 32 → j ≠ i → slot t j = slot s j) ∧
      t.events = (raiseEvent .captureDamaged i 1 s).events) ∧
    (r.damaged = true → quietReport s t) := by
  have ht : reportPage p s = reportCapture i 1 s := by simp only [reportPage, ho]
  refine ⟨fun hd => ?_, fun hd => ?_⟩
  · have hreport : reportCapture i 1 s =
        raiseEvent .captureDamaged i 1 (setSlot i (some { r with damaged := true }) s) := by
      simp only [reportCapture, hr, hd, Bool.false_eq_true, if_false]
    have hslot (j : Nat) : slot (reportCapture i 1 s) j =
        if j = i then some { r with damaged := true } else slot s j := by
      rw [hreport, slot, raiseEvent_capture]
      exact slot_setSlot _ (lt_of_slot hr) j
    rw [ht]
    refine ⟨(hslot i).trans (if_pos rfl), fun j _ hj => (hslot j).trans (if_neg hj), ?_⟩
    rw [hreport]
    exact raiseEvent_events_congr _ _ _ rfl rfl
  · have hreport : reportCapture i 1 s = s := by simp only [reportCapture, hr, hd, if_true]
    rw [ht, hreport]
    exact ⟨rfl, rfl, rfl, rfl⟩

theorem reportPage_unowned {p : Nat} (ho : ownerOf s p = none) : reportPage p s = s := by simp only [reportPage, ho]

theorem descriptor_settle (j : Nat) : descriptor (settle s) j = descriptor s j := by
  rw [descriptor, settle_segments]
  rfl

theorem slot_settle (j : Nat) : slot (settle s) j = slot s j := by
  rw [slot, settle_capture]
  rfl

theorem quietReport_settle {t : State} (h : quietReport s t) : quietReport s (settle t) := by
  obtain ⟨hevents, hsegments, hcapture, hpool⟩ := h
  exact ⟨by rw [settle_events, hevents], by rw [settle_segments, hsegments], by rw [settle_capture, hcapture],
    by rw [settle_pool, hpool]⟩

/-- R11: the state in which a completed scrub reports: the word's new contents stand, the arbiter is free and the sweep
has moved on. -/
def scrubbed (st : Store) (sw : Sweep) (s : State) : State :=
  { s with store := st, arbiter := { s.arbiter with granted := none }, sweep := sw }

theorem raiseEvent_events_scrubbed (k : EventKind) (a v : Nat) (st : Store) (sw : Sweep) :
    (raiseEvent k a v (scrubbed st sw s)).events = (raiseEvent k a v s).events :=
  raiseEvent_events_congr _ _ _ rfl rfl

theorem reportOnly_scrubbed (st : Store) (sw : Sweep) : reportOnly s (scrubbed st sw s) := rfl

theorem moveSweep_scrubbed (p w : Nat) (st : Store) :
    ∃ sw, moveSweep p w (release { s with store := st }) = scrubbed st sw s := by
  unfold moveSweep
  split
  · exact ⟨_, rfl⟩
  · exact ⟨_, rfl⟩

/-- R19, R20: a granted scrub that finds its word uncorrectable completes by a report to the page's owner. -/
theorem exec_scrub_uncorrectable {g : Grant} {p w : Nat} {found : ReadOutcome} (hu : s.life = .up)
    (hg : s.arbiter.granted = some g) (hop : g.op = .scrub p w) (hp : p < 512) (hw : w < 8192)
    (ho : outcomeAt s.store (8192 * p + w) found = .uncorrectable) :
    ∃ st sw, exec (.scrub found) s = .next (settle (reportPage p (scrubbed st sw s))) := by
  obtain ⟨sw, hsw⟩ := moveSweep_scrubbed (s := s) p w (storeScrub (8192 * p + w) found s.store).2
  have hscrub : completeScrub p w found s =
      reportPage p (moveSweep p w (release { s with store := (storeScrub (8192 * p + w) found s.store).2 })) := by
    have hw' : p * Config.pageWords + w = 8192 * p + w := by rw [Config.pageWords, Nat.mul_comm]
    simp only [completeScrub, hw']
    rw [storeScrub_uncorrectable ho, if_pos rfl, ← storeScrub_uncorrectable ho]
  exact ⟨_, sw, (exec_scrub found hu hg hop hp hw).trans (by rw [hscrub, hsw])⟩

/-- Settles O27: the scrub leaves owners as they are until its report (`exec_scrub_uncorrectable`), and the report does
what `reportPage_segment`, `reportPage_replacement` and `reportPage_capture` say of the page's owner. -/
theorem scrubReportsToOwner : Obligations.ScrubReportsToOwner := by
  unfold Obligations.ScrubReportsToOwner
  intro g p w found s hu hl hg hop hp hw ho
  obtain ⟨st, sw, hexec⟩ := exec_scrub_uncorrectable hu hg hop hp hw ho
  have hul : (scrubbed st sw s).sequencer.lookahead = none := hl
  have hquiet {t : State} (h : quietReport (scrubbed st sw s) t) : quietReport s (settle t) := quietReport_settle h
  refine ⟨_, hexec, ?_, fun id how hid => ?_, fun id r how _ hr => ?_, fun i r how _ hr => ?_, fun how => ?_⟩
  · exact reportOnly_trans (reportOnly_trans (reportOnly_scrubbed st sw) (reportOnly_reportPage p hul)) reportOnly_settle
  · obtain ⟨hready, hother⟩ := reportPage_segment hul how hid
    refine ⟨fun hd => ?_, fun hd => hquiet (hother hd)⟩
    obtain ⟨hdesc, hdescs, hevents⟩ := hready hd
    exact ⟨(descriptor_settle id).trans hdesc, fun j hj hne => (descriptor_settle j).trans (hdescs j hj hne),
      (settle_events _).trans (hevents.trans (raiseEvent_events_scrubbed _ _ _ st sw))⟩
  · obtain ⟨hready, hother⟩ := reportPage_replacement hul how hr
    refine ⟨fun hd => ?_, fun hd => hquiet (hother hd)⟩
    obtain ⟨hdesc, hdescs, hpool, hevents⟩ := hready hd
    exact ⟨(descriptor_settle id).trans hdesc, fun j hj hne => (descriptor_settle j).trans (hdescs j hj hne),
      fun q => by rw [settle_pool]; exact hpool q,
      (settle_events _).trans (hevents.trans (raiseEvent_events_scrubbed _ _ _ st sw))⟩
  · obtain ⟨hnew, hold⟩ := reportPage_capture (s := scrubbed st sw s) how hr
    refine ⟨fun hd => ?_, fun hd => hquiet (hold hd)⟩
    obtain ⟨hslot, hslots, hevents⟩ := hnew hd
    exact ⟨(slot_settle i).trans hslot, fun j hj hne => (slot_settle j).trans (hslots j hj hne),
      (settle_events _).trans (hevents.trans (raiseEvent_events_scrubbed _ _ _ st sw))⟩
  · rw [reportPage_unowned (s := scrubbed st sw s) how]
    exact hquiet ⟨rfl, rfl, rfl, rfl⟩

end Sys2Proof.Machine
end

section
/-! PROOF. Resets, start-up and the supply (R8, R9, R41, R163, R165 to R167, R182): O4, O3. -/

namespace Sys2Proof.Machine

variable {s : State}

/-! ## What every reset leaves -/

/-- R182: a reset reads nothing of a save it cuts but what `configAtReset` and `tickAtReset` say. -/
theorem cutSave_eq : cutSave s =
    { s with
      config.stored := (configAtReset s).stored, config.save := none, freeTick := tickAtReset s } := by
  unfold cutSave configAtReset tickAtReset
  split
  · next h =>
    have hconfig : { s.config with save := none } = s.config := by rw [← h]
    simp only [h, Option.isSome_none, Bool.false_eq_true, if_false, hconfig]
  · next h => simp only [h, Option.isSome_some, if_true]

/-- What every reset leaves: all as after power-on but the storage that the kind of reset decides. -/
theorem resetVolatile_cutSave : resetVolatile (cutSave s) =
    { powerOnOf s.life s with
      cause := s.cause, store := s.store, pool := s.pool, segments := s.segments, capture := s.capture } := by
  rw [cutSave_eq]
  simp only [resetVolatile, powerOnOf, State.reset, configAtReset, permitAtReset]

theorem resetVolatile_powerOnStorage (u : State) :
    resetVolatile (powerOnStorage u) = powerOnStorage (resetVolatile u) := by
  simp only [resetVolatile, powerOnStorage]
  congr 1

theorem resetVolatile_powerOnStorage_cutSave :
    resetVolatile (powerOnStorage (cutSave s)) = { powerOnOf s.life s with cause := s.cause } := by
  rw [resetVolatile_powerOnStorage, resetVolatile_cutSave]
  simp only [powerOnStorage, powerOnOf, State.reset]

/-! ## Warm resets -/

theorem completeInStore_cutSave : completeInStore (cutSave s) = completeInStore s := by
  rw [cutSave_eq]
  rfl

theorem segments_cutSave : (cutSave s).segments = s.segments := by rw [cutSave_eq]

theorem capture_cutSave : (cutSave s).capture = s.capture := by rw [cutSave_eq]

theorem resetVolatile_warmStorage (u : State) : resetVolatile (warmStorage u) =
    { resetVolatile u with
      store := (warmStorage u).store, pool := (warmStorage u).pool, segments := (warmStorage u).segments
      capture := (warmStorage u).capture } := by
  simp only [resetVolatile, warmStorage]
  congr 1

/-- R41: what a warm reset leaves of a descriptor. -/
theorem descriptor_warmStorage_cutSave {id : Nat} (hid : id < 64) :
    tget (warmStorage (cutSave s)).segments id = warmDescriptor (descriptor s id) := by
  rw [warmStorage, tget_tmap _ _ hid, segments_cutSave, descriptor]

/-- R153, R163: what a warm reset leaves of a capture record. -/
theorem slot_warmStorage_cutSave {i : Nat} (hi : i < 32) :
    tget (warmStorage (cutSave s)).capture.slots i = warmRecord s.capture.current i (slot s i) := by
  rw [warmStorage, tget_tmap _ _ hi, capture_cutSave, slot]

theorem store_warmStorage_cutSave : (warmStorage (cutSave s)).store = completeInStore s := by
  simp only [warmStorage, completeInStore_cutSave]

theorem pool_warmStorage (u : State) : (warmStorage u).pool =
    (List.range 512).filter (fun p =>
      !(ownedPages (warmStorage u).segments (warmStorage u).capture.slots).contains p) := by
  simp only [warmStorage, rebuiltPool, Config.storePages]

theorem warmResetOf_warmStorage (cause : ResetCause) (life : Life) (line : Level) :
    WarmResetOf cause life line s
      { resetVolatile (warmStorage (cutSave s)) with cause := cause, resetN := line, life := life } := by
  refine ⟨?_, fun id hid => ?_, rfl, rfl, rfl, rfl, fun i hi => ?_⟩
  · rw [resetVolatile_warmStorage, resetVolatile_cutSave, store_warmStorage_cutSave, pool_warmStorage]
    simp only [powerOnOf]
  · have hdesc : descriptor { resetVolatile (warmStorage (cutSave s)) with cause := cause, resetN := line, life := life }
        id = warmDescriptor (descriptor s id) := descriptor_warmStorage_cutSave hid
    rw [hdesc]
    obtain ⟨state, data, errors, inPlay, repl⟩ := descriptor s id
    cases state <;> cases repl <;> rfl
  · have hslot : slot { resetVolatile (warmStorage (cutSave s)) with cause := cause, resetN := line, life := life } i =
        warmRecord s.capture.current i (slot s i) := slot_warmStorage_cutSave hi
    rw [hslot]
    rcases slot s i with _ | ⟨entry, ordinal, seg, channels, frames, pages, state, endedEarly, damaged⟩
    · rfl
    · cases state <;> rfl

/-! ## The reset line -/

theorem exec_resetNLow : exec .resetNLow s = execResetNLow s := rfl

theorem exec_resetNHigh : exec .resetNHigh s = execResetNHigh s := rfl

theorem exec_startUpEnd : exec .startUpEnd s = execStartUpEnd s := rfl

/-- R165: RESET_N falling on a device that is up, or in a warm start-up, begins a warm reset. -/
theorem exec_resetNLow_warm (h : s.resetN = .high)
    (hl : s.life = .up ∨ s.life = .startUp .warm ∨ s.life = .held .warm) :
    exec .resetNLow s = .next { resetVolatile (warmStorage (cutSave s)) with
      cause := .line, resetN := .low, life := .held .warm } := by
  rcases hl with hl | hl | hl <;> simp only [exec_resetNLow, execResetNLow, h, hl, warmReset, resetKind]

/-- R165: RESET_N falling in a power-on start-up begins that again. -/
theorem exec_resetNLow_powerOn (h : s.resetN = .high) (hl : s.life = .startUp .powerOn ∨ s.life = .held .powerOn) :
    exec .resetNLow s = .next { powerOnOf (.held .powerOn) s with resetN := .low, cause := s.cause } := by
  rcases hl with hl | hl <;>
    simp only [exec_resetNLow, execResetNLow, h, hl, warmReset, resetKind, resetVolatile_powerOnStorage_cutSave,
      powerOnOf]

theorem exec_resetNHigh_free (h : ∀ k, s.life ≠ .held k) : exec .resetNHigh s = .next { s with resetN := .high } := by
  rw [exec_resetNHigh, execResetNHigh]
  split
  · next k hk => exact absurd hk (h k)
  · rfl

theorem exec_startUpEnd_outside (h : ∀ k, s.life ≠ .startUp k) : exec .startUpEnd s = .next s := by
  rw [exec_startUpEnd, execStartUpEnd]
  split
  · next k hk => exact absurd hk (h k)
  · rfl

/-- Settles O4, by the line's level and the state of life. -/
theorem resetLineAndStartUp : Obligations.ResetLineAndStartUp := by
  unfold Obligations.ResetLineAndStartUp
  refine ⟨⟨fun s h hl => ?_, fun s h hl => exec_resetNLow_powerOn h hl, fun s h hl => ?_, fun s h => ?_⟩,
    fun k s hl => ?_, fun s hl => exec_resetNHigh_free hl, fun k s hl => ?_, fun s hl => exec_startUpEnd_outside hl⟩
  · exact ⟨_, exec_resetNLow_warm h hl, warmResetOf_warmStorage _ _ _⟩
  · simp only [exec_resetNLow, execResetNLow, h, hl]
  · simp only [exec_resetNLow, execResetNLow, h]
  · simp only [exec_resetNHigh, execResetNHigh, hl]
  · simp only [exec_startUpEnd, execStartUpEnd, hl]
    rfl

/-! ## The supply -/

theorem exec_powerOn : exec .powerOn s =
    .next (powerOnOf (if s.resetN = .low then .held .powerOn else .startUp .powerOn) s) := by
  have hexec : exec .powerOn s = execPowerOn s := rfl
  simp only [hexec, execPowerOn, resetVolatile_powerOnStorage_cutSave, powerOnOf]

theorem exec_supplyLoss : exec .supplyLoss s = execSupplyLoss s := rfl

theorem exec_supplyLoss_supplied (h : s.life ≠ .off) : exec .supplyLoss s = .next
    { powerOnOf .off s with
      cause := s.cause, store := s.store, pool := s.pool, segments := s.segments, capture := s.capture
      permit := { raw := s.permit.raw, filtered := .low, timer := false } } := by
  have hexec : exec .supplyLoss s = .next (loseSupply s) := by
    rw [exec_supplyLoss, execSupplyLoss]
    split
    · next hoff => exact absurd hoff h
    · rfl
  rw [hexec, loseSupply, resetVolatile_cutSave]
  simp only [powerOnOf]

/-- Settles O3: `resetVolatile_cutSave` says what either leaves of the blocks. -/
theorem powerOnClearsSupplyLossStops : Obligations.PowerOnClearsSupplyLossStops := by
  unfold Obligations.PowerOnClearsSupplyLossStops
  refine ⟨fun s => exec_powerOn, fun s hl => exec_supplyLoss_supplied hl, fun s hl => ?_⟩
  simp only [exec_supplyLoss, execSupplyLoss, hl]

end Sys2Proof.Machine
end

section
/-! PROOF. The reset state (R8, R41, R66, R67, R88, R125, R147, R163, R164, R167, R183, R186, R192, R199): O2. -/

namespace Sys2Proof.Machine

theorem pool_reset : State.reset.pool = List.range 512 := by simp only [State.reset]

theorem descriptor_reset {id : Nat} (h : id < 64) : descriptor State.reset id = .blank := tget_replicate _ h

theorem slot_reset {i : Nat} (h : i < 32) : slot State.reset i = none := tget_replicate _ h

theorem source_reset {k : Nat} (h : k < 38) : source State.reset k = FaultEntry.atReset k := tget_tmk _ h

theorem monitor_reset {k : Nat} (h : k < 32) : tget State.reset.monitors k = Monitor.atReset k := tget_tmk _ h

theorem channel_reset {c : Nat} (h : c < 16) : tget State.reset.pipeline.channels c = .atReset := tget_replicate _ h

theorem ownershipLaw_reset : ownershipLaw State.reset :=
  (ownershipLaw_powerOn State.reset).of_holdings (by simp only [holdings, State.reset, resetVolatile, powerOnStorage])

theorem faultLaws_reset : faultLineLaw State.reset = true ∧ actionLaw State.reset = true ∧
    pauseSetLaw State.reset = true ∧ pressureLaw State.reset = true ∧ pressureGround State.reset = true := by
  decide +kernel

theorem setpointLaw_reset : setpointLaw State.reset :=
  ⟨nofun, rfl, fun c hc => by rw [channel_reset hc]; rfl⟩

theorem captureLaw_reset : captureLaw State.reset := by
  intro i r hi hr
  rw [slot_reset hi] at hr
  cases hr

/-- Settles O2, block by block in the order of the statement: the tables by their entries, the fields by evaluation, the
laws by the lemmas above. -/
theorem resetLeavesStatedValues : Obligations.ResetLeavesStatedValues := by
  unfold Obligations.ResetLeavesStatedValues
  obtain ⟨hpage, hsegment⟩ := ownershipLaw_reset
  obtain ⟨hline, haction, hpause, hpressure, hground⟩ := faultLaws_reset
  refine ⟨fun p => rfl, fun w => rfl, rfl,
    pool_reset, rfl, rfl,
    fun id hid => ?_, rfl,
    rfl, rfl, rfl, rfl, rfl,
    fun c hc => ?_, rfl, rfl, rfl, rfl,
    rfl, rfl, rfl, rfl, rfl, rfl,
    rfl, rfl, fun c hc => tget_replicate _ hc, rfl, rfl, rfl,
    fun k hk => ?_, fun k hk => ?_, rfl, rfl,
    fun i hi => slot_reset hi, rfl,
    rfl, rfl, rfl, rfl,
    rfl, rfl, rfl, rfl, rfl, rfl,
    rfl, rfl, rfl, rfl,
    rfl, rfl, rfl,
    rfl, rfl, rfl, rfl,
    hline, haction, hpause, hpressure, hground, rfl, rfl, rfl, reset_store_wf, setpointLaw_reset, captureLaw_reset,
    hsegment, hpage, rfl, rfl, rfl⟩
  · rw [descriptor_reset hid]; exact ⟨rfl, rfl⟩
  · rw [channel_reset hc]; rfl
  · rw [monitor_reset hk]; exact ⟨rfl, rfl, rfl⟩
  · rw [source_reset hk]; rfl

end Sys2Proof.Machine
end

section
/-! PROOF. SEG_CLOSE, SEG_ABANDON and SEG_FREE (R25, R29, R33, R34, R64): O25. -/

namespace Sys2Proof.Machine

variable {s : State}

/-! ## A segment request of fitting length -/

theorem le32At_le32 (i : Byte) (v : BitVec 32) : le32At (i :: le32 v) 1 = v := by
  have hlow : le16At (i :: le32 v) 1 = v.extractLsb' 0 16 := le16At_le16 [i] _ (le16 (v.extractLsb' 16 16))
  have hhigh : le16At (i :: le32 v) 3 = v.extractLsb' 16 16 := le16At_le16 (i :: le16 (v.extractLsb' 0 16)) _ []
  have happend : v.extractLsb' 16 16 ++ v.extractLsb' 0 16 = v := by
    ext j hj
    simp only [BitVec.getElem_append, BitVec.getElem_extractLsb']
    split
    · simp [BitVec.getLsbD_eq_getElem hj]
    · rw [← BitVec.getLsbD_eq_getElem hj]; congr 1; omega
  rw [le32At, hlow, hhigh, happend]

/-- R25: what a segment request that is taken comes to, by the id its body begins with. -/
theorem onRequest_onSegment {kind tag i : Byte} {rest : List Byte} {fits : Bool} {g : Nat → State → State}
    (h : linkFree s = true) (hlen : rest.length ≤ 4) (hf : fits = true) :
    onRequest kind tag (i :: rest) (onSegment fits (i :: rest) g) s =
      if 63 < i.toNat then { s with link := answered s kind tag .badValue .empty }
      else g i.toNat { s with link := taken s kind tag .answered } := by
  rw [onRequest_free h (by simp only [List.length_cons]; omega)]
  split
  · next hid => exact (onSegment_badId (body := i :: rest) hf hid).trans (answer_answered rfl)
  · next hid => exact onSegment_id (body := i :: rest) hf (Nat.not_lt.mp hid)

section Requests
variable {tag i : Byte}

theorem exec_segClose (crc : BitVec 32) (h : linkFree s = true) : exec (.segClose tag (i :: le32 crc)) s =
    .next (settle (if 63 < i.toNat then { s with link := answered s 0x22 tag .badValue .empty }
      else segCloseEffect (i :: le32 crc) i.toNat { s with link := taken s 0x22 tag .answered })) :=
  congrArg (fun u => Host.Outcome.next (settle u)) (onRequest_onSegment h (Nat.le_refl 4) rfl)

theorem exec_segAbandon (h : linkFree s = true) : exec (.segAbandon tag [i]) s =
    .next (settle (if 63 < i.toNat then { s with link := answered s 0x23 tag .badValue .empty }
      else segAbandonEffect i.toNat { s with link := taken s 0x23 tag .answered })) :=
  congrArg (fun u => Host.Outcome.next (settle u)) (onRequest_onSegment h (Nat.zero_le 4) rfl)

theorem exec_segFree (h : linkFree s = true) : exec (.segFree tag [i]) s =
    .next (settle (if 63 < i.toNat then { s with link := answered s 0x24 tag .badValue .empty }
      else segFreeEffect i.toNat { s with link := taken s 0x24 tag .answered })) :=
  congrArg (fun u => Host.Outcome.next (settle u)) (onRequest_onSegment h (Nat.zero_le 4) rfl)

end Requests

/-! ## SEG_CLOSE -/

section Close
variable {id : Nat} {body : List Byte}

theorem segCloseEffect_wrongState (h : (loadingTarget id s).2.2 = false) :
    segCloseEffect body id s = answer .wrongState .empty s := by simp [segCloseEffect, h]

theorem segCloseEffect_replacement {r : Replacement} (hr : (descriptor s id).repl = some r) (hd : r.state = .loading) :
    segCloseEffect body id s = answer .accepted .empty
      { setDescriptor id { descriptor s id with
          repl := some { state := .verifying, data := { r.data with expected := le32At body 1 } } } s with
        verifier := { s.verifier with queue := s.verifier.queue ++ [⟨id, true⟩] } } := by
  simp only [segCloseEffect, loadingTarget_some hr, hd, setVerifying_some _ hr]
  rfl

theorem segCloseEffect_own (hr : (descriptor s id).repl = none) (hd : (descriptor s id).state = .loading) :
    segCloseEffect body id s = answer .accepted .empty
      { setDescriptor id { descriptor s id with
          state := .verifying, data := { (descriptor s id).data with expected := le32At body 1 } } s with
        verifier := { s.verifier with queue := s.verifier.queue ++ [⟨id, false⟩] } } := by
  simp only [segCloseEffect, loadingTarget_none hr, hd, setVerifying_none _ hr]
  rfl

end Close

/-! ## Giving data up -/

/-- R57: SEGMENT_MISSING that is not active is not judged again. -/
theorem recheckMissing_inactive {id : Nat} (h : (source s 35).active = false) : recheckMissing id s = s := by
  simp [recheckMissing, h]

theorem recheckMissing_of_faults {id : Nat} {t : State} (h : (source s 35).active = false) (hf : t.faults = s.faults) :
    recheckMissing id t = t := recheckMissing_inactive (by rw [source, hf]; exact h)

@[simp] theorem removeReplacement_faults (id : Nat) (s : State) : (removeReplacement id s).faults = s.faults := by
  unfold removeReplacement; split <;> simp

theorem removeReplacement_lookahead (id : Nat) (s : State) :
    (removeReplacement id s).sequencer.lookahead = s.sequencer.lookahead := by
  unfold removeReplacement; split <;> simp [dropCarried]

theorem removeReplacement_some {id : Nat} {r : Replacement} (hr : (descriptor s id).repl = some r) :
    removeReplacement id s = releasePages r.data.pages (dropCarried id true
      (setDescriptor id { descriptor s id with repl := none } s)) := by
  simp only [removeReplacement, hr]

theorem removeReplacement_none {id : Nat} (hr : (descriptor s id).repl = none) : removeReplacement id s = s := by
  simp only [removeReplacement, hr]

/-- R29, R30: the verification queue and its progress once target `t` has left it: the next target begins afresh if
`t` was being verified. -/
def withoutTarget (t : Target) (v : Verifier) : Verifier :=
  if v.queue.head? = some t then { queue := v.queue.erase t, nextWord := 0, entered := 0, crc := crc32Init }
  else { v with queue := v.queue.erase t }

theorem dropTarget_eq (t : Target) (s : State) : dropTarget t s =
    { s with verifier := withoutTarget t s.verifier, arbiter := (dropTarget t s).arbiter } := by
  unfold dropTarget withoutTarget; split <;> rfl

/-- What leaves the verification queue does not depend on the control link. -/
theorem dropTarget_arbiter_withLink (t : Target) (s : State) (l : ControlLink) :
    (dropTarget t { s with link := l }).arbiter = (dropTarget t s).arbiter := by
  unfold dropTarget; split <;> rfl

/-! A release and what does not bear on pages change the state in either order. -/

theorem releasePages_withLink (ps : List Nat) (s : State) (l : ControlLink) :
    { releasePages ps s with link := l } = releasePages ps { s with link := l } := by
  unfold releasePages finishGranted; dsimp only; split
  · rfl
  · split <;> rfl

theorem releasePages_setDescriptor (ps : List Nat) (id : Nat) (d : Descriptor) (s : State) :
    setDescriptor id d (releasePages ps s) = releasePages ps (setDescriptor id d s) := by
  unfold releasePages finishGranted setDescriptor; dsimp only; split
  · rfl
  · split <;> rfl

theorem releasePages_dropCarried (ps : List Nat) (id : Nat) (repl : Bool) (s : State) :
    dropCarried id repl (releasePages ps s) = releasePages ps (dropCarried id repl s) := by
  unfold releasePages finishGranted dropCarried; dsimp only; split
  · rfl
  · split <;> rfl

/-- A request that gives pages up is answered. -/
theorem answer_releasePages {kind tag : Byte} {t : State} (ps : List Nat) (st : Status)
    (h : t.link = taken s kind tag .answered) :
    answer st .empty (releasePages ps t) = releasePages ps { t with link := answered s kind tag st .empty } := by
  rw [answer_answered ((releasePages_link t ps).trans h), releasePages_withLink]

theorem setDescriptor_setDescriptor (id : Nat) (d e : Descriptor) (s : State) :
    setDescriptor id e (setDescriptor id d s) = setDescriptor id e s := by
  simp [setDescriptor, tset, Vector.toList]

/-- R64: once every frame carried from a segment's data is discarded, none is left of its replacement's. -/
theorem dropCarried_dropCarried (id : Nat) (s : State) :
    dropCarried id false (dropCarried id true s) = dropCarried id false s := by
  rcases hc : s.sequencer.carried with _ | f
  · simp [dropCarried, hc]
  · by_cases hid : f.seg = id <;> by_cases hr : f.fromRepl = true <;> simp [dropCarried, hc, hid, hr]

/-- R34: a descriptor becomes EMPTY after its replacement: both data's pages are released and the frames carried from
either are discarded. -/
theorem emptyDescriptor_removeReplacement {id : Nat} {r : Replacement} (hr : (descriptor s id).repl = some r) :
    emptyDescriptor id (removeReplacement id s) = releasePages (descriptor s id).data.pages
      (releasePages r.data.pages (dropCarried id false (setDescriptor id .blank s))) := by
  have hpages : (descriptor (removeReplacement id s) id).data.pages = (descriptor s id).data.pages := by
    rw [descriptor_removeReplacement]
  have hswap : setDescriptor id .blank (dropCarried id true (setDescriptor id { descriptor s id with repl := none } s)) =
      dropCarried id true (setDescriptor id .blank s) :=
    congrArg (dropCarried id true) (setDescriptor_setDescriptor _ _ _ _)
  rw [emptyDescriptor, hpages, removeReplacement_some hr, releasePages_setDescriptor, releasePages_dropCarried, hswap,
    dropCarried_dropCarried]

/-! ## SEG_ABANDON -/

section GivingUp
variable {id : Nat}

theorem segAbandonEffect_replacement {r : Replacement} (hl : s.sequencer.lookahead = none)
    (hm : (source s 35).active = false) (hr : (descriptor s id).repl = some r) :
    segAbandonEffect id s = answer .ok .empty (releasePages r.data.pages (dropCarried id true
      (setDescriptor id { descriptor s id with repl := none }
        (if r.state = .verifying then dropTarget ⟨id, true⟩ s else s)))) := by
  have hlook {u : State} (hu : u.sequencer = s.sequencer) : (removeReplacement id u).sequencer.lookahead = none := by
    rw [removeReplacement_lookahead, hu, hl]
  simp only [segAbandonEffect, hr]
  split
  · have hr' : (descriptor (dropTarget ⟨id, true⟩ s) id).repl = some r := by rw [descriptor_dropTarget, hr]
    rw [segChanged_of_none (hlook (by simp)), recheckMissing_of_faults hm (by simp), removeReplacement_some hr',
      descriptor_dropTarget]
  · rw [segChanged_of_none (hlook rfl), recheckMissing_of_faults hm (by simp), removeReplacement_some hr]

theorem segAbandonEffect_loading (hm : (source s 35).active = false) (hr : (descriptor s id).repl = none)
    (hd : (descriptor s id).state = .loading) :
    segAbandonEffect id s = answer .ok .empty
      (releasePages (descriptor s id).data.pages (dropCarried id false (setDescriptor id .blank s))) := by
  simp only [segAbandonEffect, hr, hd]
  exact recheckMissing_of_faults hm (by simp [emptyDescriptor])

theorem segAbandonEffect_verifying (hm : (source s 35).active = false) (hr : (descriptor s id).repl = none)
    (hd : (descriptor s id).state = .verifying) :
    segAbandonEffect id s = answer .ok .empty (releasePages (descriptor s id).data.pages
      (dropCarried id false (setDescriptor id .blank (dropTarget ⟨id, false⟩ s)))) := by
  simp only [segAbandonEffect, hr, hd]
  rw [recheckMissing_of_faults hm (by simp [emptyDescriptor]), emptyDescriptor, descriptor_dropTarget]

theorem segAbandonEffect_other (hr : (descriptor s id).repl = none) (hload : (descriptor s id).state ≠ .loading)
    (hver : (descriptor s id).state ≠ .verifying) : segAbandonEffect id s = answer .wrongState .empty s := by
  simp only [segAbandonEffect, hr]
  split
  · contradiction
  · contradiction
  all_goals rfl

/-! ## SEG_FREE -/

theorem segFreeEffect_inUse (h : references s id ≠ 0) : segFreeEffect id s = answer .inUse .empty s := if_pos h

theorem segFreeEffect_wrongState (h : references s id = 0)
    (hd : (descriptor s id).state = .loading ∨ (descriptor s id).state = .verifying) :
    segFreeEffect id s = answer .wrongState .empty s := by
  rcases hd with hd | hd <;> simp [segFreeEffect, h, hd]

theorem segFreeEffect_empty (h : references s id = 0) (hd : (descriptor s id).state = .empty) :
    segFreeEffect id s = answer .ok .empty s := by simp [segFreeEffect, h, hd]

/-- R34: the descriptor becomes EMPTY once its replacement, if it has one, is gone; then the request is answered. -/
theorem segFreeEffect_freed (h : references s id = 0) (hm : (source s 35).active = false)
    (hd : (descriptor s id).state = .ready ∨ (descriptor s id).state = .damaged) :
    let left := dropCarried id false (setDescriptor id .blank (dropTarget ⟨id, true⟩ s))
    segFreeEffect id s = answer .ok .empty (releasePages (descriptor s id).data.pages
      (match (descriptor s id).repl with
       | some r => releasePages r.data.pages left
       | none => left)) := by
  have hfree : segFreeEffect id s =
      answer .ok .empty (emptyDescriptor id (removeReplacement id (dropTarget ⟨id, true⟩ s))) := by
    refine Eq.trans ?_ (recheckMissing_of_faults (id := id) hm (by simp [emptyDescriptor]))
    rcases hd with hd | hd <;> simp only [segFreeEffect, if_neg (not_not.2 h), hd]
  have hdrop := descriptor_dropTarget (s := s) ⟨id, true⟩ id
  rw [hfree]
  rcases hr : (descriptor s id).repl with _ | r
  · rw [removeReplacement_none (hdrop ▸ hr), emptyDescriptor, hdrop]
  · rw [emptyDescriptor_removeReplacement (hdrop ▸ hr), hdrop]

end GivingUp

/-! ## Answered requests that give data up -/

section Answered
variable {kind tag : Byte} {id : Nat} {e : Descriptor} {repl : Bool}

/-- R64, R193: the state in which data of a descriptor has been given up and the request answered, its pages not yet
released. -/
def givenUp (id : Nat) (e : Descriptor) (repl : Bool) (l : ControlLink) (s : State) : State :=
  { dropCarried id repl (setDescriptor id e s) with link := l }

/-- A request that gives data up is answered. -/
theorem answer_givenUp {t : State} (ps : List Nat) (st : Status) (h : t.link = taken s kind tag .answered) :
    answer st .empty (releasePages ps (dropCarried id repl (setDescriptor id e t))) =
      releasePages ps (givenUp id e repl (answered s kind tag st .empty) t) := answer_releasePages ps st h

/-- A request that gives the data of a descriptor and of its replacement up is answered. -/
theorem answer_givenUp_both {t : State} (ps qs : List Nat) (st : Status) (h : t.link = taken s kind tag .answered) :
    answer st .empty (releasePages ps (releasePages qs (dropCarried id repl (setDescriptor id e t)))) =
      releasePages ps (releasePages qs (givenUp id e repl (answered s kind tag st .empty) t)) := by
  have hlink : (releasePages qs (dropCarried id repl (setDescriptor id e t))).link = taken s kind tag .answered :=
    (releasePages_link _ qs).trans h
  rw [answer_releasePages ps st hlink, releasePages_withLink]
  rfl

/-- R29: a VERIFYING target given up has left the verification queue, whatever the link of the request. -/
theorem givenUp_dropTarget (t : Target) (l m : ControlLink) : givenUp id e repl l (dropTarget t { s with link := m }) =
    { givenUp id e repl l s with verifier := withoutTarget t s.verifier, arbiter := (dropTarget t s).arbiter } := by
  rw [dropTarget_eq, dropTarget_arbiter_withLink]
  rfl

end Answered

/-- Settles O25, request by request: what each does to the device that has taken it is said above, and an answer and a
release change the state in either order. -/
theorem segTargetsCloseAndGo : Obligations.SegTargetsCloseAndGo := by
  unfold Obligations.SegTargetsCloseAndGo
  intro tag i crc s h
  have hclose := exec_segClose (tag := tag) (i := i) crc h
  have habandon := exec_segAbandon (tag := tag) (i := i) h
  have hfree := exec_segFree (tag := tag) (i := i) h
  refine ⟨fun hid => ?_, fun hid => ?_⟩
  · rw [if_pos hid] at hclose habandon hfree
    exact ⟨hclose, habandon, hfree⟩
  rw [if_neg (Nat.not_lt.mpr hid)] at hclose habandon hfree
  let u (kind : Byte) : State := { s with link := taken s kind tag .answered }
  have replied (kind : Byte) (st : Status) :
      answer st .empty (u kind) = { s with link := answered s kind tag st .empty } := answer_answered rfl
  -- With a replacement, without one, and SEG_FREE: a case for each state, in the order of the statement.
  refine ⟨fun r hr => ⟨fun hd => ?_, fun hd => ?_, fun hl hm => ⟨fun hd => ?_, fun hd => ?_⟩⟩,
    fun hr => ⟨fun hd => ?_, fun hd => ?_, fun hm => ⟨fun hd => ?_, fun hd => ?_⟩, fun hload hver => ?_⟩,
    fun hrefs => ?_, fun hrefs => ⟨fun hd => ?_, fun hd => ?_, fun hd hm => ?_⟩⟩
  · rw [segCloseEffect_replacement (s := u 0x22) hr hd, le32At_le32, answer_answered (s := s) rfl] at hclose
    exact hclose
  · rw [segCloseEffect_wrongState (s := u 0x22)
      (by rw [loadingTarget_some (s := u 0x22) hr]; exact decide_eq_false hd), replied] at hclose
    exact hclose
  · rw [segAbandonEffect_replacement (s := u 0x23) hl hm hr, if_neg hd, answer_givenUp (s := s) _ _ rfl] at habandon
    exact habandon
  · rw [segAbandonEffect_replacement (s := u 0x23) hl hm hr, if_pos hd, answer_givenUp _ _ (dropTarget_link (u 0x23) _),
      givenUp_dropTarget] at habandon
    exact habandon
  · rw [segCloseEffect_own (s := u 0x22) hr hd, le32At_le32, answer_answered (s := s) rfl] at hclose
    exact hclose
  · rw [segCloseEffect_wrongState (s := u 0x22)
      (by rw [loadingTarget_none (s := u 0x22) hr]; exact decide_eq_false hd), replied] at hclose
    exact hclose
  · rw [segAbandonEffect_loading (s := u 0x23) hm hr hd, answer_givenUp (s := s) _ _ rfl] at habandon
    exact habandon
  · rw [segAbandonEffect_verifying (s := u 0x23) hm hr hd, answer_givenUp _ _ (dropTarget_link (u 0x23) _),
      givenUp_dropTarget] at habandon
    exact habandon
  · rw [segAbandonEffect_other (s := u 0x23) hr hload hver, replied] at habandon
    exact habandon
  · rw [segFreeEffect_inUse (s := u 0x24) hrefs, replied] at hfree
    exact hfree
  · rw [segFreeEffect_wrongState (s := u 0x24) hrefs hd, replied] at hfree
    exact hfree
  · rw [segFreeEffect_empty (s := u 0x24) hrefs hd, replied] at hfree
    exact hfree
  · rw [segFreeEffect_freed (s := u 0x24) hrefs hm hd] at hfree
    have hlink := dropTarget_link (u 0x24) ⟨i.toNat, true⟩
    rcases hr : (descriptor s i.toNat).repl with _ | r
    · rw [show (descriptor (u 0x24) i.toNat).repl = none from hr] at hfree
      rw [answer_givenUp _ _ hlink, givenUp_dropTarget] at hfree
      exact hfree
    · rw [show (descriptor (u 0x24) i.toNat).repl = some r from hr] at hfree
      rw [answer_givenUp_both _ _ _ hlink, givenUp_dropTarget] at hfree
      exact hfree

end Sys2Proof.Machine
end

section
/-! PROOF. The end of a verification (R30 to R32, R38): O26. -/

namespace Sys2Proof.Machine

variable {s t : State} {id : Nat}

/-! ## What a judgement can change -/

/-- R31, R32: the parts that a judgement of segment `id` leaves alone: every other descriptor, and all but the store, the
pool, the arbiter, the sweep, the segments, the verification queue, the events and the frames carried to a successor. -/
def judgesOnly (id : Nat) (s t : State) : Prop :=
  (∀ j, j ≠ id → descriptor t j = descriptor s j) ∧
  t = { s with
        store := t.store, pool := t.pool, arbiter := t.arbiter, sweep := t.sweep, segments := t.segments
        verifier := t.verifier, events := t.events
        sequencer := { s.sequencer with carried := t.sequencer.carried } }

theorem judgesOnly.trans {u : State} (h : judgesOnly id s t) (h' : judgesOnly id t u) : judgesOnly id s u := by
  obtain ⟨hd, hparts⟩ := h
  obtain ⟨hd', hparts'⟩ := h'
  exact ⟨fun j hj => (hd' j hj).trans (hd j hj), by rw [hparts', hparts]⟩

theorem judgesOnly.faults (h : judgesOnly id s t) : t.faults = s.faults := by rw [h.2]

theorem judgesOnly.lookahead (h : judgesOnly id s t) : t.sequencer.lookahead = s.sequencer.lookahead := by rw [h.2]

theorem judgesOnly_refl : judgesOnly id s s := ⟨fun _ _ => rfl, rfl⟩

theorem judgesOnly_raiseEvent (k : EventKind) (a v : Nat) : judgesOnly id s (raiseEvent k a v s) :=
  ⟨fun j _ => by rw [descriptor, raiseEvent_segments, descriptor], by rw [raiseEvent_eq]⟩

theorem judgesOnly_releasePages (ps : List Nat) : judgesOnly id s (releasePages ps s) :=
  ⟨fun j _ => by rw [descriptor, releasePages_segments, descriptor], by rw [releasePages_eq]⟩

theorem judgesOnly_settle : judgesOnly id s (settle s) :=
  ⟨fun j _ => descriptor_settle j, by rw [settle_eq]⟩

theorem judgesOnly_dropTarget (u : Target) : judgesOnly id s (dropTarget u s) :=
  ⟨fun j _ => descriptor_dropTarget u j, by rw [dropTarget_eq]⟩

theorem judgesOnly_setDescriptor (d : Descriptor) : judgesOnly id s (setDescriptor id d s) :=
  ⟨fun _ hj => tget_tset_ne _ _ hj, rfl⟩

/-- R32: data of a descriptor is given up and its pages released. -/
theorem judgesOnly_givenUp (ps : List Nat) (e : Descriptor) (repl : Bool) :
    judgesOnly id s (releasePages ps (dropCarried id repl (setDescriptor id e s))) :=
  (judgesOnly_setDescriptor e).trans (judgesOnly.trans (t := dropCarried id repl (setDescriptor id e s))
    ⟨fun _ _ => rfl, rfl⟩ (judgesOnly_releasePages ps))

theorem judgesOnly_segChanged (h : s.sequencer.lookahead = none) : judgesOnly id s (segChanged id s) := by
  rw [segChanged_of_none h]
  exact judgesOnly_refl

theorem judgesOnly_swapIn (h : s.sequencer.lookahead = none) : judgesOnly id s (swapIn id s) := by
  unfold swapIn
  split
  · exact judgesOnly_refl
  · next r _ =>
    have hset := judgesOnly_setDescriptor (s := s) (id := id)
      { descriptor s id with state := .ready, data := r.data, doubleErrors := 0, repl := none }
    have hcarried := hset.trans (u := carriedAtSwap id _) ⟨fun _ _ => rfl, rfl⟩
    have hraised := (hcarried.trans (judgesOnly_releasePages (descriptor s id).data.pages)).trans
      (judgesOnly_raiseEvent .replacementApplied id r.data.frames)
    exact hraised.trans (judgesOnly_segChanged (hraised.lookahead.trans h))

theorem judgesOnly_rejectTarget (u : Target) (m : Bool) : judgesOnly u.seg s (rejectTarget u m s) := by
  unfold rejectTarget
  split
  · refine ((judgesOnly_dropTarget u).trans ?_).trans (judgesOnly_raiseEvent _ _ _)
    unfold removeReplacement
    split
    · exact judgesOnly_refl
    · exact judgesOnly_givenUp _ _ _
  · exact ((judgesOnly_dropTarget u).trans (judgesOnly_givenUp _ _ _)).trans (judgesOnly_raiseEvent _ _ _)

theorem judgesOnly_readyTarget (u : Target) (h : s.sequencer.lookahead = none) :
    judgesOnly u.seg s (readyTarget u s) := by
  have hready (d : Descriptor) (v : Nat) :
      judgesOnly u.seg s (segChanged u.seg (raiseEvent .segmentReady u.seg v (setDescriptor u.seg d (dropTarget u s)))) := by
    have hdrop : judgesOnly u.seg s (dropTarget u s) := judgesOnly_dropTarget u
    have hraised := (hdrop.trans (judgesOnly_setDescriptor d)).trans (judgesOnly_raiseEvent .segmentReady u.seg v)
    exact hraised.trans (judgesOnly_segChanged (hraised.lookahead.trans h))
  simp only [readyTarget]
  split
  · split
    · exact judgesOnly_dropTarget u
    · split
      · exact hready _ 1
      · exact (hready _ 1).trans (judgesOnly_swapIn ((hready _ 1).lookahead.trans h))
  · exact hready _ 0

/-! ## What a judgement does -/

/-- R31, R32: what a judgement of a target comes to: the descriptor, the queue that the target has left, the events and
the pages released. -/
structure Judged (u : Target) (e : Descriptor) (events : EventQueue) (pages : List Nat) (s t : State) : Prop where
  descriptor_eq : descriptor t u.seg = e
  queue_eq : t.verifier.queue = s.verifier.queue.erase u
  events_eq : t.events = events
  released : ∀ p, p ∈ pages → p ∈ t.pool

theorem descriptor_raiseEvent (k : EventKind) (a v j : Nat) : descriptor (raiseEvent k a v s) j = descriptor s j := by
  rw [descriptor, raiseEvent_segments, descriptor]

section Judgements
variable {u : Target}

/-- R32: a rejection, by what is given up of the descriptor. -/
theorem judged_rejection (hid : u.seg < 64) (pages : List Nat) (e : Descriptor) (repl : Bool) (v : Nat) :
    Judged u e (raiseEvent .segmentRejected u.seg v s).events pages s (raiseEvent .segmentRejected u.seg v
      (releasePages pages (dropCarried u.seg repl (setDescriptor u.seg e (dropTarget u s))))) where
  descriptor_eq := by
    rw [descriptor_raiseEvent, descriptor, releasePages_segments]
    exact descriptor_setDescriptor_same e hid
  queue_eq := by
    rw [raiseEvent_verifier, releasePages_verifier]
    exact dropTarget_queue u s
  events_eq := raiseEvent_events_congr _ _ _ (by simp) (by simp)
  released p hp := by
    rw [raiseEvent_pool]
    exact mem_releasePages.2 (.inl hp)

theorem judged_rejectTarget_own (hid : u.seg < 64) (hu : u.repl = false) (m : Bool) :
    Judged u .blank (raiseEvent .segmentRejected u.seg (if m then 2 else 1) s).events
      (descriptor s u.seg).data.pages s (rejectTarget u m s) := by
  rw [rejectTarget, hu, if_neg Bool.false_ne_true, emptyDescriptor, descriptor_dropTarget]
  exact judged_rejection hid _ _ _ _

theorem judged_rejectTarget_replacement {r : Replacement} (hid : u.seg < 64) (hu : u.repl = true)
    (hr : (descriptor s u.seg).repl = some r) (m : Bool) :
    Judged u { descriptor s u.seg with repl := none }
      (raiseEvent .segmentRejected u.seg (if m then 4 else 3) s).events r.data.pages s (rejectTarget u m s) := by
  have hdrop := descriptor_dropTarget (s := s) u u.seg
  rw [rejectTarget, hu, if_pos rfl, removeReplacement_some (hdrop ▸ hr), hdrop]
  exact judged_rejection hid _ _ _ _

/-- R31: a target that has become READY, before a replacement is swapped in. -/
theorem judged_ready (hid : u.seg < 64) (e : Descriptor) (v : Nat) :
    Judged u e (raiseEvent .segmentReady u.seg v s).events [] s
      (raiseEvent .segmentReady u.seg v (setDescriptor u.seg e (dropTarget u s))) where
  descriptor_eq := (descriptor_raiseEvent _ _ _ _).trans (descriptor_setDescriptor_same e hid)
  queue_eq := by
    rw [raiseEvent_verifier]
    exact dropTarget_queue u s
  events_eq := raiseEvent_events_congr _ _ _ (dropTarget_events s u) (by simp)
  released _ hp := nomatch hp

/-- R65: with no lookahead standing a target that has become READY redoes none. -/
theorem segChanged_ready (hl : s.sequencer.lookahead = none) (e : Descriptor) (v : Nat) :
    segChanged u.seg (raiseEvent .segmentReady u.seg v (setDescriptor u.seg e (dropTarget u s))) =
      raiseEvent .segmentReady u.seg v (setDescriptor u.seg e (dropTarget u s)) :=
  segChanged_of_none (by simpa using hl)

theorem judged_readyTarget_own (hid : u.seg < 64) (hl : s.sequencer.lookahead = none) (hu : u.repl = false) :
    Judged u { descriptor s u.seg with
        state := .ready
        data := { (descriptor s u.seg).data with dataCrc := some (descriptor s u.seg).data.expected } }
      (raiseEvent .segmentReady u.seg 0 s).events [] s (readyTarget u s) := by
  simp only [readyTarget, hu, segChanged_ready hl]
  exact judged_ready hid _ 0

/-- R31: what a replacement verified well holds. -/
def verifiedData (r : Replacement) : SegData := { r.data with dataCrc := some r.data.expected }

/-- R31: the state in which a replacement has become READY. -/
def replacementReady (u : Target) (r : Replacement) (s : State) : State :=
  raiseEvent .segmentReady u.seg 1 (setDescriptor u.seg
    { descriptor s u.seg with repl := some { state := .ready, data := verifiedData r } } (dropTarget u s))

theorem readyTarget_replacement {r : Replacement} (hl : s.sequencer.lookahead = none) (hu : u.repl = true)
    (hr : (descriptor s u.seg).repl = some r) :
    readyTarget u s = if (descriptor s u.seg).inPlay then replacementReady u r s
      else swapIn u.seg (replacementReady u r s) := by
  simp only [readyTarget, hu, hr, segChanged_ready hl]
  rfl

/-- R31: a replacement that becomes READY, and as long as its segment is in play waits. -/
theorem judged_replacementReady (hid : u.seg < 64) (r : Replacement) :
    Judged u { descriptor s u.seg with repl := some { state := .ready, data := verifiedData r } }
      (raiseEvent .segmentReady u.seg 1 s).events [] s (replacementReady u r s) := judged_ready hid _ 1

theorem swapIn_some {r : Replacement} (hl : s.sequencer.lookahead = none) (hr : (descriptor s id).repl = some r) :
    swapIn id s = raiseEvent .replacementApplied id r.data.frames (releasePages (descriptor s id).data.pages
      (carriedAtSwap id (setDescriptor id
        { descriptor s id with state := .ready, data := r.data, doubleErrors := 0, repl := none } s))) := by
  simp only [swapIn, hr]
  exact segChanged_of_none (by simpa [carriedAtSwap] using hl)

/-- R31, R38: a replacement that becomes READY and, as its segment is not in play, is swapped in. -/
theorem judged_replacementReady_swapIn (hid : u.seg < 64) (hl : s.sequencer.lookahead = none) (r : Replacement)
    (hplay : (descriptor s u.seg).inPlay = false) :
    Judged u { state := .ready, data := verifiedData r, doubleErrors := 0, inPlay := false, repl := none }
      (raiseEvent .replacementApplied u.seg r.data.frames (raiseEvent .segmentReady u.seg 1 s)).events
      (descriptor s u.seg).data.pages s (swapIn u.seg (replacementReady u r s)) := by
  obtain ⟨hdesc, hqueue, hevents, -⟩ := judged_replacementReady (s := s) hid r
  have hl' : (replacementReady u r s).sequencer.lookahead = none := by simpa [replacementReady] using hl
  have htime : (replacementReady u r s).timebase = s.timebase := by simp [replacementReady]
  rw [swapIn_some hl' (r := ⟨.ready, verifiedData r⟩) (by rw [hdesc]), hdesc]
  constructor
  case descriptor_eq =>
    rw [descriptor_raiseEvent, descriptor, releasePages_segments, ← hplay]
    exact descriptor_setDescriptor_same _ hid
  case queue_eq =>
    rw [raiseEvent_verifier, releasePages_verifier]
    exact hqueue
  case events_eq =>
    refine raiseEvent_events_congr _ _ _ ?_ ?_
    · rw [releasePages_events]
      exact hevents
    · rw [releasePages_timebase, raiseEvent_timebase]
      exact congrArg Timebase.counter htime
  case released =>
    intro p hp
    rw [raiseEvent_pool]
    exact mem_releasePages.2 (.inl hp)

end Judgements

/-! ## The verification read -/

/-- R30 to R32: a verification read for target `u`, with no lookahead standing and SEGMENT_MISSING not active. -/
theorem verifyRead_eq {u : Target} {rest : List Target} {data : SegData} (o : ReadOutcome) (samples : List Sample)
    (hl : s.sequencer.lookahead = none) (hm : (source s 35).active = false) (hq : s.verifier.queue = u :: rest)
    (hdata : targetData u s = data) :
    verifyRead o samples s =
      let new := samples.take (data.count * data.frames - s.verifier.entered)
      let crc := crc32Samples s.verifier.crc new
      if o = .uncorrectable then rejectTarget u true s
      else if data.count * data.frames ≤ 4 * (s.verifier.nextWord + 1) then
        if crc32Final crc = data.expected then readyTarget u s else rejectTarget u false s
      else { s with verifier :=
        { queue := s.verifier.queue, nextWord := s.verifier.nextWord + 1
          entered := s.verifier.entered + new.length, crc := crc } } := by
  have hreject (m : Bool) : recheckMissing u.seg (rejectTarget u m s) = rejectTarget u m s :=
    recheckMissing_of_faults hm (judgesOnly_rejectTarget u m).faults
  have hready : recheckMissing u.seg (readyTarget u s) = readyTarget u s :=
    recheckMissing_of_faults hm (judgesOnly_readyTarget u hl).faults
  simp only [verifyRead, hq, hdata, hreject, hready, SegData.size]

theorem judgesOnly_verifyRead {u : Target} {rest : List Target} (o : ReadOutcome) (samples : List Sample)
    (hl : s.sequencer.lookahead = none) (hm : (source s 35).active = false) (hq : s.verifier.queue = u :: rest) :
    judgesOnly u.seg s (verifyRead o samples s) := by
  rw [verifyRead_eq o samples hl hm hq rfl]
  dsimp only
  split
  · exact judgesOnly_rejectTarget u true
  · split
    · split
      · exact judgesOnly_readyTarget u hl
      · exact judgesOnly_rejectTarget u false
    · exact ⟨fun _ _ => rfl, rfl⟩

/-- R13, R30: the granted verification read completes: the store keeps what it found, and the verifier takes it from a
free arbiter. -/
theorem exec_memoryRead_verify {w index : Nat} (found : ReadOutcome) (hu : s.life = .up) (hw : w < 4194304)
    (hg : s.arbiter.granted = some { requestor := .link, op := .read w index .verify, live := true }) :
    exec (.memoryRead found) s = .next (settle (verifyRead (outcomeAt s.store w found) (wordSamples s.store w)
      (scrubbed (storeRead w found s.store).2 s.sweep s))) :=
  (exec_memoryRead found hu hg rfl).trans (if_pos hw)

/-- What a target judged once its last read is made comes to once the arbiter has done its work. -/
theorem Judged.settled {u : Target} {rest : List Target} {e : Descriptor} {events : EventQueue} {pages : List Nat}
    (h : Judged u e events pages s t) (hq : s.verifier.queue = u :: rest) :
    (descriptor (settle t) u.seg = e ∧ (settle t).verifier.queue = rest ∧ (settle t).events = events) ∧
      ∀ p, p ∈ pages → p ∈ (settle t).pool := by
  refine ⟨⟨(descriptor_settle _).trans h.descriptor_eq, ?_, (settle_events t).trans h.events_eq⟩, fun p hp => ?_⟩
  · rw [settle_verifier, h.queue_eq, hq, List.erase_cons_head]
  · rw [settle_pool]
    exact h.released p hp

/-- Settles O26: the read hands its outcome to the verifier (`exec_memoryRead_verify`), which goes on or judges the target
as `verifyRead_eq` says; what each judgement comes to is said under 'What a judgement does'. -/
theorem verificationJudgesTarget : Obligations.VerificationJudgesTarget := by
  unfold Obligations.VerificationJudgesTarget
  intro w index found target rest s hu hw hid hl hm hg hq
  let v := scrubbed (storeRead w found s.store).2 s.sweep s
  have honly : judgesOnly target.seg s _ := (judgesOnly.trans (t := v) ⟨fun _ _ => rfl, rfl⟩
    (judgesOnly_verifyRead (outcomeAt s.store w found) (wordSamples s.store w) hl hm hq)).trans judgesOnly_settle
  have hread {data : SegData} (hdata : targetData target v = data) :=
    verifyRead_eq (s := v) (outcomeAt s.store w found) (wordSamples s.store w) hl hm hq hdata
  have hraise (k : EventKind) (n : Nat) :
      (raiseEvent k target.seg n v).events = (raiseEvent k target.seg n s).events :=
    raiseEvent_events_scrubbed _ _ _ _ _
  refine ⟨_, exec_memoryRead_verify found hu hw hg, fun j _ hj => honly.1 j hj, honly.2, fun hown => ?_,
    fun r hrepl hr => ?_⟩
  · have hread := hread (by rw [targetData, hown]; rfl : targetData target v = (descriptor s target.seg).data)
    have hreject (m : Bool) := (judged_rejectTarget_own (s := v) hid hown m).settled hq
    have hready := (judged_readyTarget_own (s := v) hid hl hown).settled hq
    simp only [hraise] at hreject hready
    refine ⟨fun ho => ?_, fun ho => ⟨fun hlast => ?_, fun hlast hcrc => ?_, fun hlast hcrc => ?_⟩⟩
    · rw [hread.trans (if_pos ho)]
      exact hreject true
    · rw [hread.trans ((if_neg ho).trans (if_neg hlast))]
      exact ⟨settle_segments _, settle_events _, settle_verifier _⟩
    · rw [hread.trans ((if_neg ho).trans ((if_pos hlast).trans (if_pos hcrc)))]
      exact hready.1
    · rw [hread.trans ((if_neg ho).trans ((if_pos hlast).trans (if_neg hcrc)))]
      exact hreject false
  · have hread := hread (by rw [targetData, hrepl, if_pos rfl, show (descriptor v target.seg).repl = some r from hr] :
      targetData target v = r.data)
    have hreject (m : Bool) := (judged_rejectTarget_replacement (s := v) hid hrepl hr m).settled hq
    have hready := readyTarget_replacement (s := v) hl hrepl hr
    have hwaits := (judged_replacementReady (s := v) hid r).settled hq
    simp only [hraise] at hreject hwaits
    refine ⟨fun ho => ?_, fun ho => ⟨fun hlast => ?_, fun hlast hcrc => ?_, fun hlast hcrc => ?_⟩⟩
    · rw [hread.trans (if_pos ho)]
      exact hreject true
    · rw [hread.trans ((if_neg ho).trans (if_neg hlast))]
      exact ⟨settle_segments _, settle_events _, settle_verifier _⟩
    · rw [hread.trans ((if_neg ho).trans ((if_pos hlast).trans (if_pos hcrc)))]
      split
      · next hplay =>
        rw [hready.trans (if_pos hplay)]
        exact hwaits.1
      · next hplay =>
        rw [hready.trans (if_neg hplay)]
        obtain ⟨⟨hdesc, hqueue, hevents⟩, hpages⟩ :=
          (judged_replacementReady_swapIn (s := v) hid hl r (Bool.eq_false_of_not_eq_true hplay)).settled hq
        exact ⟨hdesc, hqueue, hpages, hevents.trans
          (raiseEvent_events_congr _ _ _ (hraise _ _) (by rw [raiseEvent_timebase, raiseEvent_timebase]; rfl))⟩
    · rw [hread.trans ((if_neg ho).trans ((if_pos hlast).trans (if_neg hcrc)))]
      exact hreject false

end Sys2Proof.Machine
end

section
/-! PROOF. What the laws of the tables do not keep (R133, R136, R138): O56. -/

namespace Sys2Proof.Machine

open Sys2Proof

/-- A device in IDLE mode, its run STOPPED, whose fault table still holds two active sources of before: SEGMENT_MISSING at
the PLAY of segment 0 under the cursor, and PERMIT, of class TRIP, which the effective action NONE has not taken up.
Segment 0 is READY and has a replacement in LOADING. -/
def staleAction : State :=
  { State.reset with
    schedule := [.play { seg := 0, gain := 0, range := none, edge := .tapered, capture := false }]
    sequencer := { State.reset.sequencer with phase := .awaiting }
    segments := tset State.reset.segments 0
      { Descriptor.blank with state := .ready, repl := some { state := .loading, data := .blank } }
    faults := { State.reset.faults with
      entries := tset (tset State.reset.faults.entries 35 { source State.reset 35 with active := true }) 37
        { source State.reset 37 with active := true } } }

/-- The state that a SEG_ABANDON of segment 0 leaves there. -/
def afterAbandon : State :=
  settle (onRequest 0x23 0 [0] (onSegment true [0] segAbandonEffect) staleAction)

theorem exec_segAbandon_staleAction : exec (.segAbandon 0 [0]) staleAction = .next afterAbandon := rfl

theorem sequencerLaw_staleAction : sequencerLaw staleAction = true := by decide +kernel

/-- The abandoned replacement has SEGMENT_MISSING judged again; its end forms the action afresh, outside ACTIVE too, and
the TRIP found then freezes the run. -/
theorem afterAbandon_frozen : afterAbandon.run.state = .frozen ∧ afterAbandon.config.mode = .idle := by
  decide +kernel

/-- R88: outside ACTIVE a lawful sequencer's run is STOPPED. -/
theorem stopped_of_sequencerLaw {s : State} (h : sequencerLaw s = true) (hm : s.config.mode ≠ .active) :
    s.run.state = .stopped := by
  simp only [sequencerLaw, Bool.and_eq_true, decide_eq_true_eq] at h
  obtain ⟨⟨⟨⟨⟨-, hstopped⟩, -⟩, -⟩, -⟩, -⟩ := h
  exact not_imp_comm.1 hstopped hm

/-- Refutes O56: `sequencerLaw` does not hold on, since the statement does not assume that the effective action stands as
the active sources form it (`actionLaw`); a source's end outside ACTIVE then hands TRIP to a STOPPED run. -/
theorem not_tablesKeepTheirLimits : ¬ Obligations.TablesKeepTheirLimits := by
  unfold Obligations.TablesKeepTheirLimits
  intro h
  obtain ⟨-, -, -, -, hkeeps, -⟩ := h _ _ _ exec_segAbandon_staleAction
  obtain ⟨hfrozen, hidle⟩ := afterAbandon_frozen
  have hstopped := stopped_of_sequencerLaw (hkeeps sequencerLaw_staleAction) (by rw [hidle]; decide)
  exact absurd (hfrozen.symm.trans hstopped) (by decide)

end Sys2Proof.Machine
end

section
/-! PROOF. Walks through a lawful schedule end (R45, R46): O30. The remaining counters from the index reached on, read as
the digits of a number, fall with every jump back, and between jumps the index rises. -/

namespace Sys2Proof.Machine

/-! ## Lawful schedules -/

theorem scheduleLaw_iff {es : List Entry} :
    scheduleLaw es = true ↔ es.length ≤ 256 ∧ ∀ r e, es[r]? = some e → entryLawful r e = true := by
  simp only [scheduleLaw, Bool.and_eq_true, decide_eq_true_eq, List.all_eq_true, List.mem_range]
  refine and_congr_right fun _ => ⟨fun h r e he => ?_, fun h r _ => ?_⟩
  · simpa only [he] using h r (List.getElem?_eq_some_iff.1 he).1
  · split
    · next e he => exact h r e he
    · rfl

theorem scheduleLaw_set {es : List Entry} {r : Nat} {e : Entry} (h : scheduleLaw es = true)
    (he : entryLawful r e = true) : scheduleLaw (es.set r e) = true := by
  rw [scheduleLaw_iff] at *
  refine ⟨by simpa using h.1, fun k d hd => ?_⟩
  rw [List.getElem?_set] at hd
  split at hd
  · next hk =>
    split at hd
    · cases hd; exact hk ▸ he
    · cases hd
  · exact h.2 k d hd

theorem entryLawful_rep {r j c m : Nat} :
    entryLawful r (.rep j c m) = true ↔ j < r ∧ 1 ≤ c ∧ c ≤ 65535 ∧ m ≤ c - 1 := by
  simp [entryLawful, and_assoc]

section Repeat
variable {es : List Entry} {r j c m : Nat} (h : scheduleLaw es = true) (he : es[r]? = some (.rep j c m))
include h he

/-- R45: what a REPEAT of a lawful schedule is. -/
theorem repeat_lawful : r < es.length ∧ es.length ≤ 256 ∧ j < r ∧ 1 ≤ c ∧ c ≤ 65535 ∧ m ≤ c - 1 :=
  ⟨(List.getElem?_eq_some_iff.1 he).1, (scheduleLaw_iff.1 h).1, entryLawful_rep.1 ((scheduleLaw_iff.1 h).2 _ _ he)⟩

/-- R46: passing a REPEAT keeps the schedule lawful. -/
theorem scheduleLaw_passRepeat : scheduleLaw (passRepeat r j c m es).2 = true := by
  obtain ⟨-, -, hj, hc, hc', hm⟩ := repeat_lawful h he
  unfold passRepeat
  split <;> exact scheduleLaw_set h (entryLawful_rep.2 (by omega))

end Repeat

/-! ## The measure -/

/-- R45: an entry's remaining counter, 0 where it has none. -/
def remainingOf : Entry → Nat
  | .rep _ _ m => m
  | .play _ | .dwell _ | .mark _ => 0

/-- The remaining counters, one digit to base 65,536 for each entry, those below index `i` taken as 0. -/
def counterDigits (es : List Entry) (i : Nat) : List Nat := List.replicate i 0 ++ (es.drop i).map remainingOf

/-- The repetitions still ahead of index `i`, as a number that falls with each jump back. -/
def roundsLeft (es : List Entry) (i : Nat) : Nat := Nat.ofDigits 65536 (counterDigits es i)

/-- More than the steps that an advance or a walk can still make from index `i`. -/
def stepsLeft (es : List Entry) (i : Nat) : Nat := 257 * roundsLeft es i + (256 - i)

theorem remainingOf_lt {es : List Entry} (h : scheduleLaw es = true) {e : Entry} (he : e ∈ es) :
    remainingOf e < 65536 := by
  obtain ⟨r, hr⟩ := List.mem_iff_getElem?.1 he
  have hlaw := (scheduleLaw_iff.1 h).2 r e hr
  cases e with
  | rep j c m =>
    have := entryLawful_rep.1 hlaw
    simp only [remainingOf]
    omega
  | play p => exact Nat.zero_lt_succ _
  | dwell d => exact Nat.zero_lt_succ _
  | mark v => exact Nat.zero_lt_succ _

theorem ofDigits_zeros (b n : Nat) : Nat.ofDigits b (List.replicate n 0) = 0 := by
  induction n with
  | zero => rfl
  | succ n ih => simp [List.replicate_succ, Nat.ofDigits_cons, ih]

theorem counterDigits_lt {es : List Entry} (h : scheduleLaw es = true) (i : Nat) :
    ∀ d ∈ counterDigits es i, d < 65536 := by
  intro d hd
  rcases List.mem_append.1 hd with hd | hd
  · rw [List.eq_of_mem_replicate hd]; exact Nat.zero_lt_succ _
  · obtain ⟨e, he, rfl⟩ := List.mem_map.1 hd
    exact remainingOf_lt h (List.mem_of_mem_drop he)

/-- R46: the model's allowance is more than the steps left at any index of a lawful schedule. -/
theorem stepsLeft_lt_advanceFuel {es : List Entry} (h : scheduleLaw es = true) {i : Nat} (hi : i ≤ 256) :
    stepsLeft es i < advanceFuel := by
  have hlen : (counterDigits es i).length ≤ 256 := by
    have := (scheduleLaw_iff.1 h).1
    simp [counterDigits]
    omega
  have hlt : roundsLeft es i < 65536 ^ 256 :=
    lt_of_lt_of_le (Nat.ofDigits_lt_base_pow_length (by omega) (counterDigits_lt h i))
      (Nat.pow_le_pow_right (by omega) hlen)
  unfold stepsLeft advanceFuel
  generalize 65536 ^ 256 = top at *
  omega

/-- Below index `i` the counters do not matter. -/
theorem roundsLeft_set (es : List Entry) (i : Nat) (e : Entry) : roundsLeft (es.set i e) (i + 1) = roundsLeft es (i + 1) := by
  simp [roundsLeft, counterDigits, List.drop_set]

/-- An entry whose counter stands at 0 is left behind: no repetition ahead is gone. -/
theorem roundsLeft_succ {es : List Entry} {i : Nat} {e : Entry} (he : es[i]? = some e) (hz : remainingOf e = 0) :
    roundsLeft es (i + 1) = roundsLeft es i := by
  obtain ⟨hi, rfl⟩ := List.getElem?_eq_some_iff.1 he
  have hdigits : counterDigits es (i + 1) = counterDigits es i := by
    rw [counterDigits, counterDigits, List.drop_eq_getElem_cons hi, List.map_cons, hz, List.replicate_succ',
      List.append_assoc, List.singleton_append]
  rw [roundsLeft, roundsLeft, hdigits]

/-- A jump back to index `j` from the REPEAT at `r`, its counter decreased, leaves fewer repetitions ahead. -/
theorem roundsLeft_jump {es : List Entry} (h : scheduleLaw es = true) {r j c m : Nat}
    (he : es[r]? = some (.rep j c m)) (hm : 0 < m) :
    roundsLeft (es.set r (.rep j c (m - 1))) j < roundsLeft es r := by
  obtain ⟨hr, -, hj, -⟩ := repeat_lawful h he
  have hentry : es[r] = .rep j c m := (List.getElem?_eq_some_iff.1 he).2
  let low : List Nat := List.replicate j 0 ++ ((es.take r).drop j).map remainingOf
  let above : Nat := Nat.ofDigits 65536 ((es.drop (r + 1)).map remainingOf)
  have hlow : low.length = r := by simp [low]; omega
  have hlt : Nat.ofDigits 65536 low < 65536 ^ r := by
    rw [← hlow]
    refine Nat.ofDigits_lt_base_pow_length (by omega) fun d hd => ?_
    rcases List.mem_append.1 hd with hd | hd
    · rw [List.eq_of_mem_replicate hd]; exact Nat.zero_lt_succ _
    · obtain ⟨e, he, rfl⟩ := List.mem_map.1 hd
      exact remainingOf_lt h (List.mem_of_mem_take (List.mem_of_mem_drop he))
  have hafter : counterDigits (es.set r (.rep j c (m - 1))) j =
      low ++ ((m - 1) :: (es.drop (r + 1)).map remainingOf) := by
    rw [counterDigits, List.set_eq_take_append_cons_drop, if_pos hr,
      List.drop_append_of_le_length (by simp; omega)]
    simp [low, remainingOf]
  have hbefore : counterDigits es r = List.replicate r 0 ++ (m :: (es.drop (r + 1)).map remainingOf) := by
    rw [counterDigits, List.drop_eq_getElem_cons hr, hentry]
    rfl
  calc roundsLeft (es.set r (.rep j c (m - 1))) j
      = Nat.ofDigits 65536 low + 65536 ^ r * ((m - 1) + 65536 * above) := by
        rw [roundsLeft, hafter, Nat.ofDigits_append, hlow, Nat.ofDigits_cons]
    _ < 65536 ^ r + 65536 ^ r * ((m - 1) + 65536 * above) := Nat.add_lt_add_right hlt _
    _ = 65536 ^ r * (m + 65536 * above) := by
        rw [show m + 65536 * above = 1 + ((m - 1) + 65536 * above) by omega]; ring
    _ = roundsLeft es r := by
        rw [roundsLeft, hbefore, Nat.ofDigits_append, ofDigits_zeros, List.length_replicate, Nat.ofDigits_cons,
          Nat.zero_add]

/-- A step to the next index leaves fewer steps, where the entry left behind has no counter above 0. -/
theorem stepsLeft_succ {es : List Entry} (h : scheduleLaw es = true) {i : Nat} {e : Entry} (he : es[i]? = some e)
    (hz : remainingOf e = 0) : i + 1 ≤ 256 ∧ stepsLeft es (i + 1) < stepsLeft es i := by
  have hi := (List.getElem?_eq_some_iff.1 he).1
  have := (scheduleLaw_iff.1 h).1
  rw [stepsLeft, stepsLeft, roundsLeft_succ he hz]
  omega

/-- R46: passing a REPEAT leaves fewer steps. -/
theorem stepsLeft_passRepeat {es : List Entry} (h : scheduleLaw es = true) {r j c m : Nat}
    (he : es[r]? = some (.rep j c m)) :
    stepsLeft (passRepeat r j c m es).2 (passRepeat r j c m es).1 < stepsLeft es r := by
  have hlaw := repeat_lawful h he
  unfold passRepeat
  split
  · next hm =>
    have := roundsLeft_jump h he hm
    simp only [stepsLeft]
    omega
  · next hm =>
    have := roundsLeft_succ he (show remainingOf (.rep j c m) = 0 by simp only [remainingOf]; omega)
    simp only [stepsLeft, roundsLeft_set, this]
    omega

/-! ## The walks -/

/-- R63: with more steps than are left a walk does not depend on how many it is allowed. -/
theorem walk_eq_of_stepsLeft (n m : Nat) {es : List Entry} {i : Nat} (reach : Nat) (h : scheduleLaw es = true)
    (hn : stepsLeft es i < n) (hm : stepsLeft es i < m) : walk n es i reach = walk m es i reach := by
  induction n generalizing m es i reach with
  | zero => omega
  | succ n ih =>
    obtain ⟨m, rfl⟩ := Nat.exists_eq_succ_of_ne_zero (show m ≠ 0 by omega)
    simp only [walk]
    split
    · rfl
    · rfl
    · rfl
    · next he =>
      have := stepsLeft_succ h he rfl
      exact ih m _ h (by omega) (by omega)
    · next he =>
      have := stepsLeft_passRepeat h he
      exact ih m _ (scheduleLaw_passRepeat h he) (by omega) (by omega)

/-- R60: the same of the advance of a join. -/
theorem seek_eq_of_stepsLeft (n m : Nat) {i : Nat} {s : State} (h : scheduleLaw s.schedule = true)
    (hn : stepsLeft s.schedule i < n) (hm : stepsLeft s.schedule i < m) : seek n i s = seek m i s := by
  induction n generalizing m i s with
  | zero => omega
  | succ n ih =>
    obtain ⟨m, rfl⟩ := Nat.exists_eq_succ_of_ne_zero (show m ≠ 0 by omega)
    simp only [seek]
    split
    · next he =>
      have := stepsLeft_succ h he rfl
      exact ih m (by simpa using h) (by simp; omega) (by simp; omega)
    · next he =>
      have := stepsLeft_passRepeat h he
      exact ih m (scheduleLaw_passRepeat h he) (by simp only; omega) (by simp only; omega)
    · rfl

@[simp] theorem skipEntry_schedule (i g : Nat) (s : State) : (skipEntry i g s).schedule = s.schedule := by
  simp only [skipEntry, raiseEvent_schedule, raiseEnded]
  split <;> simp

/-- R54: the same of the advance. -/
theorem advance_eq_of_stepsLeft (n m : Nat) {i : Nat} {s : State} (h : scheduleLaw s.schedule = true)
    (hn : stepsLeft s.schedule i < n) (hm : stepsLeft s.schedule i < m) : advance n i s = advance m i s := by
  induction n generalizing m i s with
  | zero => omega
  | succ n ih =>
    obtain ⟨m, rfl⟩ := Nat.exists_eq_succ_of_ne_zero (show m ≠ 0 by omega)
    simp only [advance]
    split
    · rfl
    · next he =>
      have := stepsLeft_succ h he rfl
      exact ih m (by simpa using h) (by simp; omega) (by simp; omega)
    · next he =>
      have := stepsLeft_passRepeat h he
      exact ih m (scheduleLaw_passRepeat h he) (by simp only; omega) (by simp only; omega)
    · rfl
    · next he =>
      have := stepsLeft_succ h he rfl
      split
      · rfl
      · split
        · exact ih m (by simpa using h) (by simp; omega) (by simp; omega)
        · rfl

/-- Settles O30, by the steps left at an index, which every step lowers and which the allowance exceeds. -/
theorem advanceEndsWithinItsSteps : Obligations.AdvanceEndsWithinItsSteps := by
  unfold Obligations.AdvanceEndsWithinItsSteps
  refine fun extra i hi => ⟨fun es reach h => ?_, fun s h => ?_⟩
  · have := stepsLeft_lt_advanceFuel h hi
    exact walk_eq_of_stepsLeft _ _ reach h (by omega) this
  · have := stepsLeft_lt_advanceFuel h hi
    exact ⟨advance_eq_of_stepsLeft _ _ h (by omega) this, seek_eq_of_stepsLeft _ _ h (by omega) this⟩

end Sys2Proof.Machine
end

section
/-! PROOF. SCHED_APPEND (R48, R195): O28. -/

namespace Sys2Proof.Machine

variable {s : State} {tag : Byte} {body : List Byte}

/-! ## The request -/

/-- R48: what a SCHED_APPEND of fitting length does. -/
def schedAppendEffect (body : List Byte) (s : State) : State :=
  match appendedEntries body s.schedule.length with
  | .error k => answer .badValue (.schedPosition k) s
  | .ok es => appendEntries es s

theorem exec_schedAppend_fits (h : linkFree s = true) (hf : schedAppendFits body = true) :
    exec (.schedAppend tag body) s =
      .next (settle (schedAppendEffect body { s with link := taken s 0x30 tag .answered })) := by
  have hlen : body.length ≤ 1040 := by
    simp only [schedAppendFits, Bool.and_eq_true, decide_eq_true_eq] at hf
    omega
  rw [exec, execSchedAppend, onRequest_free h hlen]
  simp only [hf, Bool.not_true, Bool.false_eq_true, if_false]
  rfl

/-- R48: the first entry that fails is named, and nothing is appended. -/
theorem exec_schedAppend_error {k : Nat} (h : linkFree s = true) (hf : schedAppendFits body = true)
    (he : appendedEntries body s.schedule.length = .error k) : exec (.schedAppend tag body) s =
      .next (settle { s with link := answered s 0x30 tag .badValue (.schedPosition k) }) := by
  rw [exec_schedAppend_fits h hf, schedAppendEffect, he]
  exact congrArg (fun u => Host.Outcome.next (settle u)) (answer_answered rfl)

theorem exec_schedAppend_full {es : List Entry} (h : linkFree s = true) (hf : schedAppendFits body = true)
    (he : appendedEntries body s.schedule.length = .ok es) (hfull : 256 < s.schedule.length + es.length) :
    exec (.schedAppend tag body) s = .next (settle { s with link := answered s 0x30 tag .full .empty }) := by
  rw [exec_schedAppend_fits h hf, schedAppendEffect, he]
  simp only [appendEntries, Config.maxEntries, hfull, if_true]
  exact congrArg (fun u => Host.Outcome.next (settle u)) (answer_answered rfl)

/-- R48, R65: lawful entries that find room are appended; a lookahead at "end of schedule" is redone. -/
theorem exec_schedAppend_ok {es : List Entry} (h : linkFree s = true) (hf : schedAppendFits body = true)
    (he : appendedEntries body s.schedule.length = .ok es) (hroom : s.schedule.length + es.length ≤ 256) :
    exec (.schedAppend tag body) s = .next (settle (answer .ok (.schedCount (s.schedule.length + es.length))
      (redoAtEnd { s with schedule := s.schedule ++ es, link := taken s 0x30 tag .answered }))) := by
  rw [exec_schedAppend_fits h hf, schedAppendEffect, he]
  simp only [appendEntries, Config.maxEntries, Nat.not_lt.mpr hroom, if_false]

theorem redoAtEnd_of_none (h : s.sequencer.lookahead = none) : redoAtEnd s = s := by
  unfold redoAtEnd
  split
  · next hl => rw [h] at hl; cases hl
  · rfl

theorem exec_schedAppend_adds {es : List Entry} (h : linkFree s = true) (hl : s.sequencer.lookahead = none)
    (hf : schedAppendFits body = true) (he : appendedEntries body s.schedule.length = .ok es)
    (hroom : s.schedule.length + es.length ≤ 256) : exec (.schedAppend tag body) s = .next (settle
      { s with
        schedule := s.schedule ++ es
        link := answered s 0x30 tag .ok (.schedCount (s.schedule.length + es.length)) }) := by
  rw [exec_schedAppend_ok h hf he hroom, redoAtEnd_of_none]
  · exact congrArg (fun u => Host.Outcome.next (settle u)) (answer_answered rfl)
  · exact hl

/-! ## The entries of a body -/

theorem entriesFrom_ok_length {n k left : Nat} {es : List Entry} (h : entriesFrom body n k left = .ok es) :
    es.length = left := by
  induction left generalizing k es with
  | zero => cases h; rfl
  | succ left ih =>
    simp only [entriesFrom] at h
    split at h
    · cases h
    · split at h
      · cases h
      · next hes => cases h; simp [ih hes]

theorem entriesFrom_error_lt {n k left j : Nat} (h : entriesFrom body n k left = .error j) : j < k + left := by
  induction left generalizing k with
  | zero => cases h
  | succ left ih =>
    simp only [entriesFrom] at h
    split at h
    · cases h; omega
    · split at h
      · next hes => cases h; have := ih hes; omega
      · cases h

/-- R48: a body of one entry, by what its bytes decode to. -/
theorem appendedEntries_one_none {n : Nat} (hb : body.length = 16) (he : entryAt body 0 n = none) :
    appendedEntries body n = .error 0 := by
  simp only [appendedEntries, hb, Nat.reduceDiv, entriesFrom, Nat.mul_zero, Nat.add_zero, he]

theorem appendedEntries_one_some {n : Nat} {e : Entry} (hb : body.length = 16) (he : entryAt body 0 n = some e) :
    appendedEntries body n = .ok [e] := by
  simp only [appendedEntries, hb, Nat.reduceDiv, entriesFrom, Nat.mul_zero, Nat.add_zero, he]

theorem schedAppendFits_of_length {m : Nat} (h1 : 1 ≤ m) (h8 : m ≤ 8) (hb : body.length = 16 * m) :
    schedAppendFits body = true := by
  simp only [schedAppendFits, Bool.and_eq_true, decide_eq_true_eq]
  omega

section OneEntry
variable (h : linkFree s = true) (hl : s.sequencer.lookahead = none) (hb : body.length = 16)
include h hb

/-- R48: a body of one entry that its bytes do not decode to is refused. -/
theorem exec_schedAppend_one_none (he : entryAt body 0 s.schedule.length = none) : exec (.schedAppend tag body) s =
    .next (settle { s with link := answered s 0x30 tag .badValue (.schedPosition 0) }) :=
  exec_schedAppend_error h (schedAppendFits_of_length (m := 1) (by omega) (by omega) hb)
    (appendedEntries_one_none hb he)

include hl

theorem exec_schedAppend_one {e : Entry} (hn : s.schedule.length < 256)
    (he : entryAt body 0 s.schedule.length = some e) : exec (.schedAppend tag body) s = .next (settle
      { s with
        schedule := s.schedule ++ [e]
        link := answered s 0x30 tag .ok (.schedCount (s.schedule.length + [e].length)) }) :=
  exec_schedAppend_adds h hl (schedAppendFits_of_length (m := 1) (by omega) (by omega) hb)
    (appendedEntries_one_some hb he) hn

end OneEntry

/-! ## One entry of each kind (R195) -/

theorem entryAt_play (seg edge flags x y : Byte) (g : BitVec 16) (a b : BitVec 32) (n : Nat) :
    entryAt ([0, seg] ++ le16 g ++ [edge, flags, x, y] ++ le32 a ++ le32 b) 0 n =
      if seg.toNat ≤ 63 ∧ edge.toNat ≤ 1 ∧ (flags.getLsbD 1 = true → a.toNat ≤ b.toNat ∧ b.toNat ≤ 1048575) then
        some (.play
          { seg := seg.toNat, gain := g, range := if flags.getLsbD 1 then some (a.toNat, b.toNat) else none,
            edge := if edge = 1 then .butted else .tapered, capture := flags.getLsbD 0 })
      else none := by
  have hedge : edge = 0 ∨ edge = 1 ↔ edge.toNat ≤ 1 := by bv_omega
  have hg : le16At ([0, seg] ++ le16 g ++ [edge, flags, x, y] ++ le32 a ++ le32 b) (0 + 2) = g := le16_append g
  have ha : le32At ([0, seg] ++ le16 g ++ [edge, flags, x, y] ++ le32 a ++ le32 b) (0 + 8) = a := le32At_le32 0 a
  have hb : le32At ([0, seg] ++ le16 g ++ [edge, flags, x, y] ++ le32 a ++ le32 b) (0 + 12) = b := le32At_le32 0 b
  rw [entryAt, hg, ha, hb]
  exact (if_pos rfl).trans (if_congr (and_congr_right' (and_congr_left' hedge)) rfl rfl)

theorem entryAt_dwell (x y z : Byte) (d : BitVec 32) (pad : List Byte) (n : Nat) :
    entryAt ([1, x, y, z] ++ le32 d ++ pad) 0 n =
      if 1 ≤ d.toNat ∧ d.toNat ≤ 16777215 then some (.dwell d.toNat) else none := by
  have hd : le32At ([1, x, y, z] ++ le32 d ++ pad) (0 + 4) = d := le32At_le32 0 d
  rw [entryAt, hd]
  rfl

theorem entryAt_rep (x : Byte) (j c : BitVec 16) (pad : List Byte) (n : Nat) :
    entryAt ([2, x] ++ le16 j ++ le16 c ++ pad) 0 n =
      if 1 ≤ c.toNat ∧ j.toNat < n then some (.rep j.toNat c.toNat (c.toNat - 1)) else none := by
  have hj : le16At ([2, x] ++ le16 j ++ le16 c ++ pad) (0 + 2) = j := le16_append j
  have hc : le16At ([2, x] ++ le16 j ++ le16 c ++ pad) (0 + 4) = c := le16_append c
  rw [entryAt, hj, hc]
  rfl

theorem entryAt_mark (x : Byte) (v : BitVec 16) (pad : List Byte) (n : Nat) :
    entryAt ([3, x] ++ le16 v ++ pad) 0 n = some (.mark v) := by
  have hv : le16At ([3, x] ++ le16 v ++ pad) (0 + 2) = v := le16_append v
  rw [entryAt, hv]
  rfl

theorem entryAt_unknown (k : Byte) (pad : List Byte) (n : Nat) (hk : 3 < k.toNat) : entryAt (k :: pad) 0 n = none := by
  have hne (c : Byte) (hc : c.toNat ≤ 3) : byteAt (k :: pad) 0 ≠ c := fun e => by
    rw [show k = c from e] at hk
    omega
  simp only [entryAt, hne 0 (by decide), hne 1 (by decide), hne 2 (by decide), hne 3 (by decide), if_false]

/-- Settles O28: each kind by what its bytes decode to, a batch by the entries it comes to. -/
theorem schedAppendAddsEntries : Obligations.SchedAppendAddsEntries := by
  unfold Obligations.SchedAppendAddsEntries
  intro tag s h hl
  refine ⟨fun seg edge flags x y g a b hn => ?_, fun x y z d pad hn hpad => ?_, fun x j c pad hn hpad => ?_,
    fun x v pad hn hpad => ?_, fun k pad hk hpad => ?_, fun body m h1 h8 hb => ⟨fun es he => ?_, fun k he => ?_⟩⟩
  · have hentry := entryAt_play seg edge flags x y g a b s.schedule.length
    simp only
    split
    · next hok => exact exec_schedAppend_one h hl (by simp [le16, le32]) hn (hentry.trans (if_pos hok))
    · next hbad => exact exec_schedAppend_one_none h (by simp [le16, le32]) (hentry.trans (if_neg hbad))
  · have hentry := entryAt_dwell x y z d pad s.schedule.length
    simp only
    split
    · next hok => exact exec_schedAppend_one h hl (by simp [le16, le32, hpad]) hn (hentry.trans (if_pos hok))
    · next hbad => exact exec_schedAppend_one_none h (by simp [le16, le32, hpad]) (hentry.trans (if_neg hbad))
  · have hentry := entryAt_rep x j c pad s.schedule.length
    simp only
    split
    · next hok => exact exec_schedAppend_one h hl (by simp [le16, hpad]) hn (hentry.trans (if_pos hok))
    · next hbad => exact exec_schedAppend_one_none h (by simp [le16, hpad]) (hentry.trans (if_neg hbad))
  · exact exec_schedAppend_one h hl (by simp [le16, hpad]) hn (entryAt_mark x v pad _)
  · exact exec_schedAppend_one_none h (by simp [hpad]) (entryAt_unknown k pad _ hk)
  · have hlen : es.length = m := by
      rw [entriesFrom_ok_length he, hb]
      omega
    have hf := schedAppendFits_of_length h1 h8 hb
    refine ⟨hlen, ?_⟩
    split
    · next hfull => exact exec_schedAppend_full h hf he (by omega)
    · next hroom => exact exec_schedAppend_adds h hl hf he (by omega)
  · have hlt := entriesFrom_error_lt he
    exact ⟨by omega, exec_schedAppend_error h (schedAppendFits_of_length h1 h8 hb) he⟩

end Sys2Proof.Machine
end

section
/-! PROOF. SCHED_TRUNCATE and SCHED_CLEAR (R49, R50): O29. -/

namespace Sys2Proof.Machine

variable {s : State} {tag : Byte}

/-- R193: the device once it has taken a request. -/
abbrev withTaken (kind tag : Byte) (s : State) : State := { s with link := taken s kind tag .answered }

/-- A request of fitting length that is taken. -/
theorem onRequest_withLength {kind : Byte} {n : Nat} {body : List Byte} {f : State → State} (h : linkFree s = true)
    (hb : body.length = n) (hn : n ≤ 1040) :
    onRequest kind tag body (withLength n body f) s = f (withTaken kind tag s) := by
  rw [onRequest_free h (hb.trans_le hn), withLength, if_pos hb]

theorem exec_schedTruncate (k : BitVec 16) (h : linkFree s = true) : exec (.schedTruncate tag (le16 k)) s =
    .next (settle (truncateEffect k.toNat (withTaken 0x31 tag s))) := by
  have hk : le16At (le16 k) 0 = k := le16_append k
  rw [exec, execSchedTruncate, hk, onRequest_withLength h (by simp [le16]) (by omega)]

/-- R49: a truncation is refused where it would reach the cursor or the entry in force of a run not STOPPED. -/
theorem truncationRefused_iff {k : Nat} : truncationRefused k s = true ↔
    s.config.mode = .active ∧ s.run.state ≠ .stopped ∧
      (k ≤ s.sequencer.cursor ∨ ∃ e, s.sequencer.entry = some e ∧ k ≤ e) := by
  cases he : s.sequencer.entry <;> simp [truncationRefused, isActive, he, and_assoc]

theorem truncateEffect_badValue {k : Nat} (h : s.schedule.length < k) :
    truncateEffect k s = answer .badValue .empty s := if_pos h

theorem truncateEffect_inUse {k : Nat} (h : k ≤ s.schedule.length) (hr : truncationRefused k s = true) :
    truncateEffect k s = answer .inUse .empty s := (if_neg (Nat.not_lt.mpr h)).trans (if_pos hr)

theorem truncateEffect_ok {k : Nat} (h : k ≤ s.schedule.length) (hr : ¬ truncationRefused k s = true) :
    truncateEffect k s = answer .ok (.schedCount k) (redoReaching k { s with schedule := s.schedule.take k }) :=
  (if_neg (Nat.not_lt.mpr h)).trans (if_neg hr)

theorem redoReaching_of_none {k : Nat} (h : s.sequencer.lookahead = none) : redoReaching k s = s := by
  unfold redoReaching
  simp only [h]

theorem exec_schedClear (h : linkFree s = true) : exec (.schedClear tag []) s =
    .next (clearEffect (withTaken 0x32 tag s)) := by
  rw [exec, execSchedClear, onRequest_withLength (n := 0) h rfl (by omega)]

/-- Settles O29: the refusals by R49's checks in order, SCHED_CLEAR by the run it may not disturb. -/
theorem schedTruncateAndClearSpareRun : Obligations.SchedTruncateAndClearSpareRun := by
  unfold Obligations.SchedTruncateAndClearSpareRun
  refine ⟨fun tag k s h hl => ?_, fun tag s h => ?_⟩
  · intro touches refused
    have hexec := exec_schedTruncate (tag := tag) k h
    have hiff := truncationRefused_iff (s := withTaken 0x31 tag s) (k := k.toNat)
    refine ⟨fun hk => ?_, fun hk ht => ?_, fun hk ht => ?_⟩
    · rw [truncateEffect_badValue (s := withTaken 0x31 tag s) hk, answer_answered (s := s) rfl] at hexec
      exact hexec
    · rw [truncateEffect_inUse (s := withTaken 0x31 tag s) hk (hiff.2 ht), answer_answered (s := s) rfl] at hexec
      exact hexec
    · rw [truncateEffect_ok (s := withTaken 0x31 tag s) hk (fun hr => ht (hiff.1 hr)), redoReaching_of_none,
        answer_answered (s := s) rfl] at hexec
      · exact hexec
      · exact hl
  · rw [exec_schedClear h]
    simp only [clearEffect, isActive, decide_eq_true_eq]
    split <;> exact congrArg Host.Outcome.next (answer_answered rfl)

end Sys2Proof.Machine
end

section
/-! PROOF. The end of a play (R36, R37, R59, R103) with no lookahead standing, and the abort of an entry (R62, R103): what
each leaves alone. -/

namespace Sys2Proof.Machine

variable {s t u : State} {id : Nat}

/-! ## The store while pages are released (R11) -/

/-- The store is left as it was, or the granted operation has completed in it; either way its completion gives the same. -/
def storeSettled (s t : State) : Prop :=
  completeInStore t = completeInStore s ∧ (t.store = s.store ∨ t.store = completeInStore s)

theorem storeSettled.trans (h : storeSettled s t) (h' : storeSettled t u) : storeSettled s u := by
  obtain ⟨hc, hs⟩ := h
  obtain ⟨hc', hs'⟩ := h'
  refine ⟨hc'.trans hc, ?_⟩
  rcases hs' with e | e
  · rw [e]; exact hs
  · exact .inr (e.trans hc)

theorem storeSettled_of_outer (ho : outer t = outer s) (hs : t.store = s.store) : storeSettled s t :=
  have ⟨_, _, _, _, hc, _⟩ := outer_parts ho
  ⟨hc, .inl hs⟩

theorem storeSettled_releasePages (ps : List Nat) : storeSettled s (releasePages ps s) :=
  ⟨completeInStore_releasePages ps s, releasePages_store ps s⟩

theorem storeSettled_swapIn (hl : s.sequencer.lookahead = none) : storeSettled s (swapIn id s) := by
  rcases hr : (descriptor s id).repl with _ | r
  · rw [swapIn, hr]; exact storeSettled_of_outer rfl rfl
  · rw [swapIn_some hl hr]
    exact (storeSettled_releasePages (s := carriedAtSwap id (setDescriptor id _ s)) _).trans
      (storeSettled_of_outer (outer_raiseEvent _ _ _) (raiseEvent_store _ _ _ _))

/-! ## A segment's play ends (R36, R37) -/

/-- R37: the data that waits READY to replace a descriptor's. -/
def waitingData (d : Descriptor) : Option SegData :=
  match d.repl with
  | some r => if r.state = .ready then some r.data else none
  | none => none

/-- R37, R38: a descriptor once the play of its segment has ended. -/
def endedDescriptor (d : Descriptor) : Descriptor :=
  match waitingData d with
  | some e => { state := .ready, data := e, doubleErrors := 0, inPlay := false, repl := none }
  | none => { d with inPlay := false }

/-- R38: the events once the play of segment `id` has ended. -/
def endedEvents (id : Nat) (s : State) : EventQueue :=
  match waitingData (descriptor s id) with
  | some e => (raiseEvent .replacementApplied id e.frames s).events
  | none => s.events

theorem waitingRepl_eq (id : Nat) (s : State) : waitingRepl id s = waitingData (descriptor s id) := rfl

theorem waitingData_eq_some {d : Descriptor} {e : SegData} :
    waitingData d = some e ↔ ∃ r, d.repl = some r ∧ r.state = .ready ∧ r.data = e := by
  unfold waitingData
  split
  · next r hr => simp [hr]
  · next hr => simp [hr]

/-- A play's end of a segment whose replacement does not wait READY. -/
theorem endSegPlay_plain (h : waitingData (descriptor s id) = none) :
    endSegPlay id s = setDescriptor id { descriptor s id with inPlay := false } s := by
  by_cases hid : id < 64
  · have hw : waitingRepl id (setDescriptor id { descriptor s id with inPlay := false } s) = none := by
      rw [waitingRepl_eq, descriptor_setDescriptor_same _ hid]
      exact h
    simp [endSegPlay, hw]
  · rw [endSegPlay, setDescriptor_out _ (Nat.not_lt.mp hid), waitingRepl_eq, h]
    rfl

/-- A play's end of a segment whose replacement waits READY. -/
theorem endSegPlay_swap {r : Replacement} (hl : s.sequencer.lookahead = none) (hr : (descriptor s id).repl = some r)
    (hready : r.state = .ready) : endSegPlay id s = raiseEvent .replacementApplied id r.data.frames
      (releasePages (descriptor s id).data.pages (carriedAtSwap id (setDescriptor id
        { state := .ready, data := r.data, doubleErrors := 0, inPlay := false, repl := none } s))) := by
  have hid := lt_of_repl hr
  have hd := descriptor_setDescriptor_same (s := s) { descriptor s id with inPlay := false } hid
  have hr' : (descriptor (setDescriptor id { descriptor s id with inPlay := false } s) id).repl = some r := by
    rw [hd]; exact hr
  have hw : (waitingRepl id (setDescriptor id { descriptor s id with inPlay := false } s)).isSome = true := by
    rw [waitingRepl_some hr', decide_eq_true hready]
  rw [endSegPlay]
  simp only [hw, if_true]
  rw [swapIn_some (s := setDescriptor id _ s) hl hr', hd, setDescriptor_setDescriptor]

theorem judgesOnly_endSegPlay (hl : s.sequencer.lookahead = none) : judgesOnly id s (endSegPlay id s) := by
  simp only [endSegPlay]
  have hset := judgesOnly_setDescriptor (s := s) (id := id) { descriptor s id with inPlay := false }
  split
  · exact hset.trans (judgesOnly_swapIn hl)
  · exact hset

theorem storeSettled_endSegPlay (hl : s.sequencer.lookahead = none) : storeSettled s (endSegPlay id s) := by
  simp only [endSegPlay]
  have hset : storeSettled s (setDescriptor id { descriptor s id with inPlay := false } s) :=
    storeSettled_of_outer rfl rfl
  split
  · exact hset.trans (storeSettled_swapIn hl)
  · exact hset

theorem descriptor_endSegPlay (hl : s.sequencer.lookahead = none) (hid : id < 64) :
    descriptor (endSegPlay id s) id = endedDescriptor (descriptor s id) := by
  rcases hw : waitingData (descriptor s id) with _ | e
  · rw [endSegPlay_plain hw, descriptor_setDescriptor_same _ hid, endedDescriptor, hw]
  · obtain ⟨r, hr, hready, rfl⟩ := waitingData_eq_some.1 hw
    rw [endSegPlay_swap hl hr hready, descriptor_raiseEvent, descriptor, releasePages_segments, endedDescriptor, hw]
    exact descriptor_setDescriptor_same _ hid

theorem endSegPlay_events (hl : s.sequencer.lookahead = none) : (endSegPlay id s).events = endedEvents id s := by
  rcases hw : waitingData (descriptor s id) with _ | e
  · rw [endSegPlay_plain hw, endedEvents, hw]; rfl
  · obtain ⟨r, hr, hready, rfl⟩ := waitingData_eq_some.1 hw
    rw [endSegPlay_swap hl hr hready, endedEvents, hw]
    exact raiseEvent_events_congr _ _ _ (by simp) (by simp)

/-! ## The summary and the capture record close -/

/-- R86: the counts return to 0; the setpoints and the held values stand. -/
theorem channel_zeroCounts {c : Nat} (hc : c < 16) : tget (zeroCounts s).pipeline.channels c =
    { tget s.pipeline.channels c with clampCount := 0, slewCount := 0 } := tget_tmap _ _ hc

theorem closeSummary_eq (a j : Bool) (s : State) : closeSummary a j s =
    { s with
      pipeline := { s.pipeline with channels := (zeroCounts s).pipeline.channels }
      summaries := (closeSummary a j s).summaries, events := (closeSummary a j s).events } := by
  unfold closeSummary
  split
  · rfl
  · simp only [queueSummary]
    rw [raiseEvent_eq]
    split <;> rfl

@[simp] theorem closeSummary_store (a j : Bool) : (closeSummary a j s).store = s.store := by rw [closeSummary_eq]
@[simp] theorem closeSummary_segments (a j : Bool) : (closeSummary a j s).segments = s.segments := by rw [closeSummary_eq]

theorem closeRecord_eq (e : Bool) (s : State) : closeRecord e s = { s with capture := (closeRecord e s).capture } := by
  simp only [closeRecord]
  split
  · rfl
  · split <;> rfl

theorem closeCapture_eq (a : Bool) (s : State) : closeCapture a s = { s with capture := (closeCapture a s).capture } := by
  unfold closeCapture
  split
  · exact closeRecord_eq a s
  · rfl

/-! ## A play ends (R59, R103) -/

/-- R59, R103: a play whose summary has closed, in segment table, pipeline and summaries. -/
def summarized (p : PlayParams) (aborted joined : Bool) (s : State) : State :=
  closeSummary aborted joined (endSegPlay p.seg (withdrawReads .play s))

/-- R59: the pipeline and the sequencer are rid of a play. -/
def withoutPlay (s : State) : State :=
  { s with pipeline := { s.pipeline with params := none }, sequencer := { s.sequencer with fetch := .none } }

/-- R59, R103: the play in progress ends, block by block. -/
theorem endPlay_play {p : PlayParams} (a j : Bool) (hp : s.pipeline.params = some (.play p)) :
    endPlay a j s = closeCapture a (withoutPlay (summarized p a j s)) := by
  simp only [endPlay, hp, withoutPlay, summarized]

/-- A play's end has nothing to do where no play is in progress. -/
theorem endPlay_noPlay (a j : Bool) (hp : ∀ p, s.pipeline.params ≠ some (.play p)) : endPlay a j s = s := by
  unfold endPlay
  split
  · next p h => exact absurd h (hp p)
  · rfl

/-- The parts that the end of a play leaves alone: all but the store, the pool, the arbiter, the sweep, the segments, the
captures, the summaries, the events, what the sequencer has fetched and carries, and the pipeline's parameters and
counts. -/
def endsOnly (s t : State) : Prop :=
  t = { s with
        store := t.store, pool := t.pool, arbiter := t.arbiter, sweep := t.sweep, segments := t.segments
        capture := t.capture, summaries := t.summaries, events := t.events
        sequencer := { s.sequencer with carried := t.sequencer.carried, fetch := t.sequencer.fetch }
        pipeline := { s.pipeline with channels := t.pipeline.channels, params := t.pipeline.params } }

theorem endsOnly_refl : endsOnly s s := rfl

theorem endsOnly.trans (h : endsOnly s t) (h' : endsOnly t u) : endsOnly s u := by
  unfold endsOnly at *
  rw [h', h]

theorem endsOnly_raiseEvent (k : EventKind) (a v : Nat) : endsOnly s (raiseEvent k a v s) := by
  unfold endsOnly
  rw [raiseEvent_eq]

theorem endsOnly_releasePages (ps : List Nat) : endsOnly s (releasePages ps s) := by
  unfold endsOnly
  rw [releasePages_eq]

theorem endsOnly_endSegPlay (hl : s.sequencer.lookahead = none) : endsOnly s (endSegPlay id s) := by
  rcases hw : waitingData (descriptor s id) with _ | e
  · rw [endSegPlay_plain hw]; rfl
  · obtain ⟨r, hr, hready, -⟩ := waitingData_eq_some.1 hw
    rw [endSegPlay_swap hl hr hready]
    exact (endsOnly.trans (t := carriedAtSwap id (setDescriptor id _ s)) rfl (endsOnly_releasePages _)).trans
      (endsOnly_raiseEvent _ _ _)

theorem endsOnly_closeSummary (a j : Bool) : endsOnly s (closeSummary a j s) := by
  unfold endsOnly
  rw [closeSummary_eq]

theorem endsOnly_closeCapture (a : Bool) : endsOnly s (closeCapture a s) := by
  unfold endsOnly
  rw [closeCapture_eq]

section EndPlay
variable {p : PlayParams} (a j : Bool)

theorem endsOnly_summarized (hl : s.sequencer.lookahead = none) : endsOnly s (summarized p a j s) :=
  (endsOnly.trans (t := withdrawReads .play s) rfl (endsOnly_endSegPlay hl)).trans (endsOnly_closeSummary a j)

theorem endsOnly_endPlay (hl : s.sequencer.lookahead = none) : endsOnly s (endPlay a j s) := by
  by_cases hp : ∃ p, s.pipeline.params = some (.play p)
  · obtain ⟨p, hp⟩ := hp
    rw [endPlay_play a j hp]
    exact ((endsOnly_summarized a j hl).trans (u := withoutPlay (summarized p a j s)) rfl).trans
      (endsOnly_closeCapture a)
  · rw [endPlay_noPlay a j (fun p h => hp ⟨p, h⟩)]
    exact endsOnly_refl

theorem storeSettled_endPlay (hl : s.sequencer.lookahead = none) : storeSettled s (endPlay a j s) := by
  by_cases hp : ∃ p, s.pipeline.params = some (.play p)
  · obtain ⟨p, hp⟩ := hp
    have hread : storeSettled s (withdrawReads .play s) := storeSettled_of_outer (outer_withdrawReads _) rfl
    have hsum : storeSettled s (summarized p a j s) := (hread.trans (storeSettled_endSegPlay hl)).trans
      (storeSettled_of_outer (outer_closeSummary a j) (closeSummary_store a j))
    rw [endPlay_play a j hp]
    exact (hsum.trans (u := withoutPlay (summarized p a j s)) (storeSettled_of_outer rfl rfl)).trans
      (storeSettled_of_outer (outer_closeCapture a) (by rw [closeCapture_eq]))
  · rw [endPlay_noPlay a j (fun p h => hp ⟨p, h⟩)]
    exact storeSettled_of_outer rfl rfl

/-- R86: of the pipeline a play's end leaves the parameters empty and the counts at 0. -/
theorem endPlay_pipeline (hl : s.sequencer.lookahead = none) (hp : s.pipeline.params = some (.play p)) :
    (endPlay a j s).pipeline = { s.pipeline with params := none, channels := (zeroCounts s).pipeline.channels } := by
  have hseg : (endSegPlay p.seg (withdrawReads .play s)).pipeline = s.pipeline := by
    rw [(judgesOnly_endSegPlay (s := withdrawReads .play s) hl).2]; rfl
  rw [endPlay_play a j hp, closeCapture_eq]
  simp only [withoutPlay, summarized]
  rw [closeSummary_eq]
  simp only [zeroCounts, hseg]

theorem endPlay_segments (hp : s.pipeline.params = some (.play p)) :
    (endPlay a j s).segments = (endSegPlay p.seg (withdrawReads .play s)).segments := by
  rw [endPlay_play a j hp, closeCapture_eq]
  exact closeSummary_segments a j

/-- R36: no other segment's descriptor is touched by a play's end. -/
theorem descriptor_endPlay_other (hl : s.sequencer.lookahead = none)
    (hid : ∀ p, s.pipeline.params = some (.play p) → p.seg ≠ id) :
    descriptor (endPlay a j s) id = descriptor s id := by
  by_cases hp : ∃ p, s.pipeline.params = some (.play p)
  · obtain ⟨p, hp⟩ := hp
    rw [descriptor, endPlay_segments a j hp]
    exact (judgesOnly_endSegPlay (s := withdrawReads .play s) hl).1 id (Ne.symm (hid p hp))
  · rw [endPlay_noPlay a j (fun p h => hp ⟨p, h⟩)]

theorem descriptor_endPlay (hl : s.sequencer.lookahead = none) (hp : s.pipeline.params = some (.play p))
    (hseg : p.seg < 64) : descriptor (endPlay a j s) p.seg = endedDescriptor (descriptor s p.seg) := by
  rw [descriptor, endPlay_segments a j hp]
  exact descriptor_endSegPlay (s := withdrawReads .play s) hl hseg

/-- R86: a play's end leaves every setpoint and every held value. -/
theorem setpoint_endPlay (hl : s.sequencer.lookahead = none) {c : Nat} (hc : c < 16) :
    (tget (endPlay a j s).pipeline.channels c).previous = (tget s.pipeline.channels c).previous ∧
      (tget (endPlay a j s).pipeline.channels c).held = (tget s.pipeline.channels c).held := by
  by_cases hp : ∃ p, s.pipeline.params = some (.play p)
  · obtain ⟨p, hp⟩ := hp
    rw [endPlay_pipeline a j hl hp]
    simp only [channel_zeroCounts hc, and_self]
  · rw [endPlay_noPlay a j (fun p h => hp ⟨p, h⟩)]
    exact ⟨rfl, rfl⟩

end EndPlay

/-! ## An entry is aborted (R62, R103) -/

/-- R60, R37: the segment of a joined successor still to begin, if there is one. -/
def joinedSeg (s : State) : Option Nat :=
  if s.sequencer.joinPending then
    match s.schedule[s.sequencer.cursor]? with
    | some (.play p) => some p.seg
    | _ => none
  else none

theorem endJoinWait_none (h : joinedSeg s = none) : endJoinWait s = s := by
  unfold joinedSeg at h
  unfold endJoinWait
  split
  · next hj =>
    rw [if_pos hj] at h
    split
    · next p hp => simp [hp] at h
    · rfl
  · rfl

theorem endJoinWait_some (h : joinedSeg s = some id) : endJoinWait s = endSegPlay id s := by
  unfold joinedSeg at h
  unfold endJoinWait
  split at h
  · next hj =>
    rw [if_pos hj]
    split at h
    · next p hp => cases h; simp only [hp]
    · cases h
  · cases h

/-- R62, R103: what the abort of an entry comes to: the sequencer stands in IDLE at its cursor, no parameters are left,
and of the segments only the played one's and the joined successor's are touched. -/
structure Aborted (s t : State) : Prop where
  frame : t = { s with
    store := t.store, pool := t.pool, arbiter := t.arbiter, sweep := t.sweep, segments := t.segments
    sequencer := t.sequencer, pipeline := t.pipeline, capture := t.capture, summaries := t.summaries, events := t.events }
  store : storeSettled s t
  sequencer : t.sequencer = { s.sequencer with
    phase := .idle, position := 0, entry := none, lookahead := none, carried := none, joinPending := false
    fetch := t.sequencer.fetch }
  pipeline : t.pipeline = { s.pipeline with channels := t.pipeline.channels, params := none, continuation := false }
  setpoints : ∀ c, c < 16 → (tget t.pipeline.channels c).previous = (tget s.pipeline.channels c).previous ∧
    (tget t.pipeline.channels c).held = (tget s.pipeline.channels c).held
  segments : ∀ id, (∀ p, s.pipeline.params = some (.play p) → p.seg ≠ id) → joinedSeg s ≠ some id →
    descriptor t id = descriptor s id

/-- A joined successor that waits is given up once the lookahead is void. -/
theorem aborted_endJoinWait (hl : s.sequencer.lookahead = none) : endsOnly s (endJoinWait s) ∧
    storeSettled s (endJoinWait s) ∧ (endJoinWait s).pipeline = s.pipeline ∧
    ∀ id, joinedSeg s ≠ some id → descriptor (endJoinWait s) id = descriptor s id := by
  rcases hg : joinedSeg s with _ | g
  · rw [endJoinWait_none hg]
    exact ⟨endsOnly_refl, storeSettled_of_outer rfl rfl, rfl, fun _ _ => rfl⟩
  · rw [endJoinWait_some hg]
    refine ⟨endsOnly_endSegPlay hl, storeSettled_endSegPlay hl, ?_, fun id hid => ?_⟩
    · rw [(judgesOnly_endSegPlay hl).2]
    · exact (judgesOnly_endSegPlay hl).1 id fun e => hid (congrArg some e.symm)

theorem aborted_abortEntry (s : State) : Aborted s (abortEntry s) := by
  obtain ⟨hends, hstore, hpipe, hsegs⟩ := aborted_endJoinWait (s := voidLookahead s) rfl
  have hl : (endJoinWait (voidLookahead s)).sequencer.lookahead = none := by rw [hends]; rfl
  have hplay := hends.trans (endsOnly_endPlay true false hl)
  let y : State := endPlay true false (endJoinWait (voidLookahead s))
  have habort : abortEntry s = sequencerIdle { y with pipeline := { y.pipeline with params := none } } := rfl
  constructor
  case frame =>
    rw [habort, show y = _ from hplay]
    rfl
  case store =>
    have hvoid : storeSettled s (voidLookahead s) := storeSettled_of_outer outer_voidLookahead rfl
    exact ((hvoid.trans hstore).trans (storeSettled_endPlay true false hl)).trans
      (u := abortEntry s) (storeSettled_of_outer rfl rfl)
  case sequencer =>
    rw [habort, show y = _ from hplay]
    rfl
  case pipeline =>
    rw [habort, show y = _ from hplay]
    rfl
  case setpoints =>
    intro c hc
    have h := setpoint_endPlay true false hl hc
    rw [hpipe] at h
    exact h
  case segments =>
    intro id hid hjoin
    have h := descriptor_endPlay_other true false hl (id := id) (by rw [hpipe]; exact hid)
    exact h.trans (hsegs id hjoin)

end Sys2Proof.Machine
end

section
/-! PROOF. RUN_STOP and RUN_UNLOAD (R53, R62, R84, R99, R100, R135): O36. -/

namespace Sys2Proof.Machine

open Sys2Proof

variable {s : State} {tag kind : Byte}

/-! ## SEGMENT_MISSING ends -/

theorem endSource_frame {k : Nat} (hk : 32 ≤ k) (s : State) : endSource k s =
    { s with faults := (endSource k s).faults, events := (endSource k s).events } := by
  simp only [endSource, if_neg (Nat.not_lt.mpr hk)]
  rw [raiseEvent_eq]
  rfl

theorem source_endSource {k : Nat} (hk : k < 38) (s : State) :
    source (endSource k s) k = { source s k with active := false, subject := 0 } := by
  have hfaults : (endSource k s).faults = (setEntry k { source s k with active := false, subject := 0 } s).faults := by
    simp only [endSource, raiseEvent_faults]
    split <;> rfl
  rw [source, hfaults]
  exact tget_tset_same _ _ hk

/-- R135: the wait at an entry ends: SEGMENT_MISSING is not active, and leaves the pause-reason set. -/
theorem endWait_frame (s : State) : endWait s =
    { s with
      run := { s.run with sources := (endWait s).run.sources }
      faults := (endWait s).faults, events := (endWait s).events } := by
  unfold endWait
  split
  · rw [endSource_frame (by omega)]
    rfl
  · rfl

theorem source_endWait (s : State) : (source (endWait s) 35).active = false := by
  unfold endWait
  split
  · have hentries : (setFaultLine (setAction (leaveSet 35 (endSource 35 s)))).faults.entries =
        (endSource 35 s).faults.entries := rfl
    rw [source, hentries, ← source, source_endSource (by omega)]
  · next h => exact Bool.eq_false_of_not_eq_true h

/-! ## A stop -/

/-- R99 to R102: the run is stopped into PARKING or UNLOADING. -/
def stopInto (state : RunState) (s : State) : State :=
  beginStopTaper (endWait (abortEntry { s with run := { s.run with state := state } }))

theorem enterParking_eq (s : State) : enterParking s = stopInto .parking s := rfl
theorem enterUnloading_eq (s : State) : enterUnloading s = stopInto .unloading s := rfl

/-- R53, R62, R84, R135: what a stop leaves alone and where it leaves the sequencer, the pipeline and the run. -/
structure StoppedInto (state : RunState) (s t : State) : Prop where
  frame : t = { s with
    store := t.store, pool := t.pool, arbiter := t.arbiter, sweep := t.sweep, segments := t.segments
    sequencer := t.sequencer, pipeline := t.pipeline, run := t.run, faults := t.faults, capture := t.capture
    summaries := t.summaries, events := t.events }
  store : storeSettled s t
  run : t.run = { s.run with state := state, sources := t.run.sources }
  sequencer : t.sequencer = { s.sequencer with
    phase := .idle, position := 0, entry := none, lookahead := none, carried := none, joinPending := false
    fetch := t.sequencer.fetch }
  pipeline : t.pipeline = { s.pipeline with
    channels := t.pipeline.channels, params := none, continuation := false, stopTaper := decide (0 < s.pipeline.taper) }
  setpoints : ∀ c, c < 16 → (tget t.pipeline.channels c).previous = (tget s.pipeline.channels c).previous ∧
    (tget t.pipeline.channels c).held = (tget s.pipeline.channels c).held
  segments : ∀ id, (∀ p, s.pipeline.params = some (.play p) → p.seg ≠ id) → joinedSeg s ≠ some id →
    descriptor t id = descriptor s id
  missing : (source t 35).active = false

theorem stoppedInto_stopInto (state : RunState) (s : State) : StoppedInto state s (stopInto state s) := by
  obtain ⟨hframe, hstore, hseq, hpipe, hset, hsegs⟩ := aborted_abortEntry { s with run := { s.run with state := state } }
  have hwait := endWait_frame (abortEntry { s with run := { s.run with state := state } })
  constructor
  case frame =>
    rw [stopInto, hwait, hframe]
    rfl
  case store =>
    have habort : storeSettled s { s with run := { s.run with state := state } } := storeSettled_of_outer rfl rfl
    refine (habort.trans hstore).trans (storeSettled_of_outer ?_ ?_)
    · rw [stopInto, outer_beginStopTaper, outer_endWait]
    · rw [stopInto, hwait]; rfl
  case run =>
    rw [stopInto, hwait, hframe]
    rfl
  case sequencer =>
    have h : (stopInto state s).sequencer = (abortEntry { s with run := { s.run with state := state } }).sequencer := by
      rw [stopInto, hwait]; rfl
    rw [h]
    exact hseq
  case pipeline =>
    have h : (stopInto state s).pipeline =
        (beginStopTaper (abortEntry { s with run := { s.run with state := state } })).pipeline := by
      rw [stopInto, hwait]; rfl
    rw [h, beginStopTaper, hpipe]
  case setpoints =>
    have h : (stopInto state s).pipeline.channels =
        (abortEntry { s with run := { s.run with state := state } }).pipeline.channels := by
      rw [stopInto, hwait]; rfl
    rw [h]
    exact hset
  case segments =>
    have h : (stopInto state s).segments = (abortEntry { s with run := { s.run with state := state } }).segments := by
      rw [stopInto, hwait]; rfl
    intro id hid hjoin
    rw [descriptor, h]
    exact hsegs id hid hjoin
  case missing => exact source_endWait (abortEntry { s with run := { s.run with state := state } })

/-! ## The requests -/

/-- R89: a run request of fitting length that is taken in ACTIVE. -/
theorem onRequest_onRun {n : Nat} {body : List Byte} {f : State → State} (h : linkFree s = true)
    (ha : s.config.mode = .active) (hb : body.length = n) (hn : n ≤ 1040) :
    onRequest kind tag body (onRun n body f) s = f (withTaken kind tag s) := by
  have hactive : isActive (withTaken kind tag s) = true := decide_eq_true ha
  rw [onRequest_free h (hb.trans_le hn), onRun, if_neg (not_not.mpr hb), hactive]
  rfl

theorem runReply_taken {st : Status} {u : State} (h : u.link = taken s kind tag .answered) :
    runReply st u = { u with link := answered s kind tag st (.run (runBlock u)) } := answer_answered h

theorem exec_runStop (h : linkFree s = true) (ha : s.config.mode = .active) :
    exec (.runStop tag []) s = .next (settle (runStopEffect (withTaken 0x43 tag s))) := by
  rw [exec, execRunStop, onRequest_onRun (n := 0) h ha rfl (by omega)]

theorem exec_runUnload (h : linkFree s = true) (ha : s.config.mode = .active) :
    exec (.runUnload tag []) s = .next (settle (runUnloadEffect (withTaken 0x44 tag s))) := by
  rw [exec, execRunUnload, onRequest_onRun (n := 0) h ha rfl (by omega)]

theorem runStopEffect_eq (s : State) : runStopEffect s =
    if s.run.state ∈ [.starting, .running, .pausing, .paused, .holding] then runReply .ok (stopInto .parking s)
    else runReply .ok s := by
  unfold runStopEffect
  split <;> next h => simp [h, enterParking_eq]

theorem runUnloadEffect_eq (s : State) : runUnloadEffect s =
    if s.run.state ∈ [.starting, .running, .pausing, .paused, .holding, .parking] ∨
        (s.run.state = .stopped ∧ s.run.unload ≠ .inStopped) then runReply .ok (stopInto .unloading s)
    else runReply .ok s := by
  unfold runUnloadEffect
  split <;> next h => simp [h, enterUnloading_eq]

theorem joinedSeg_eq_some {id : Nat} : joinedSeg s = some id ↔
    s.sequencer.joinPending = true ∧ ∃ p, s.schedule[s.sequencer.cursor]? = some (.play p) ∧ p.seg = id := by
  unfold joinedSeg
  split
  · next hj =>
    split
    · next p hp => simp [hj, hp]
    · next hp => simp only [hj, true_and, reduceCtorEq, false_iff]; exact fun ⟨p, h, _⟩ => hp p h
  · next hj => simp [hj]

/-- Settles O36: both requests stop the run by the same abort, or change nothing. -/
theorem stopAndUnloadAbortEntry : Obligations.StopAndUnloadAbortEntry := by
  unfold Obligations.StopAndUnloadAbortEntry
  intro tag s h ha moves same
  have hmoves (c : Instr) (kind : Byte) (state : RunState)
      (hc : exec c s = .next (settle (runReply .ok (stopInto state (withTaken kind tag s))))) : moves c kind state := by
    obtain ⟨hframe, hstore, hrun, hseq, hpipe, hset, hsegs, hmissing⟩ :=
      stoppedInto_stopInto state (withTaken kind tag s)
    generalize stopInto state (withTaken kind tag s) = x at *
    have hlink : x.link = taken s kind tag .answered := by rw [hframe]
    have hblock : runBlock (settle { x with link := answered s kind tag .ok (.run (runBlock x)) }) = runBlock x := by
      rw [settle_eq]; rfl
    have hcompleted : completeInStore (withTaken kind tag s) = completeInStore s := rfl
    rw [runReply_taken hlink] at hc
    refine ⟨_, hc, ?_, ?_, ?_, ?_, ?_, ?_, ?_, ?_, ?_, ?_, ?_, fun id hid hplay hjoin => ?_, ?_, ?_⟩
    case refine_1 => rw [settle_run]; exact hrun
    case refine_2 | refine_3 | refine_4 | refine_5 => rw [settle_sequencer, hseq]
    case refine_6 | refine_7 | refine_8 => rw [settle_pipeline, hpipe]
    case refine_9 => rw [settle_pipeline]; exact hset
    case refine_10 => rw [source, settle_faults]; exact hmissing
    case refine_11 => rw [settle_link, hblock]
    case refine_12 =>
      rw [descriptor_settle]
      refine hsegs id hplay fun hj => ?_
      obtain ⟨hpending, p, hp, rfl⟩ := joinedSeg_eq_some.1 hj
      exact hjoin p hpending hp rfl
    case refine_13 => rw [settle_store]; exact hcompleted ▸ hstore.2
    case refine_14 => rw [settle_eq, hframe]
  have hsame (c : Instr) (kind : Byte)
      (hc : exec c s = .next (settle (runReply .ok (withTaken kind tag s)))) : same c kind :=
    hc.trans (congrArg (fun u => Host.Outcome.next (settle u)) (runReply_taken rfl))
  have hstop := exec_runStop (tag := tag) h ha
  have hunload := exec_runUnload (tag := tag) h ha
  rw [runStopEffect_eq] at hstop
  rw [runUnloadEffect_eq] at hunload
  constructor
  · split
    · next hs => exact hmoves _ _ _ (by rw [hstop, if_pos hs])
    · next hs => exact hsame _ _ (by rw [hstop, if_neg hs])
  · split
    · next hs => exact hmoves _ _ _ (by rw [hunload, if_pos hs])
    · next hs => exact hsame _ _ (by rw [hunload, if_neg hs])

end Sys2Proof.Machine
end

section
/-! PROOF. The lookahead's resolution, its prefetch and its redo (R63 to R65): O33. -/

namespace Sys2Proof.Machine

variable {s t : State}

/-! ## Steps of the walk (R63) -/

section Walk
variable {es : List Entry} {n i r : Nat}

theorem walk_end (h : es[i]? = none) : walk (n + 1) es i r = (none, es.length) := by simp only [walk, h]

theorem walk_play {p : PlayEntry} (h : es[i]? = some (.play p)) : walk (n + 1) es i r = (some i, max r i) := by
  simp only [walk, h]

theorem walk_dwell {d : Nat} (h : es[i]? = some (.dwell d)) : walk (n + 1) es i r = (some i, max r i) := by
  simp only [walk, h]

theorem walk_mark {v : BitVec 16} (h : es[i]? = some (.mark v)) :
    walk (n + 1) es i r = walk n es (i + 1) (max r i) := by simp only [walk, h]

theorem walk_rep {j c m : Nat} (h : es[i]? = some (.rep j c m)) : walk (n + 1) es i r =
    walk n (passRepeat i j c m es).2 (passRepeat i j c m es).1 (max r i) := by simp only [walk, h]

end Walk

/-- R63: the walk that resolves the lookahead. -/
def lookaheadWalk (s : State) : Option Nat × Nat :=
  walk advanceFuel s.schedule (s.sequencer.cursor + 1) (s.sequencer.cursor + 1)

/-- The walk comes to index `k` of the schedule with at least one step left, its highest index then `reach`. -/
def walkReaches (k reach : Nat) (s : State) : Prop :=
  ∃ n es r, lookaheadWalk s = walk (n + 1) es k r ∧ es[k]? = s.schedule[k]? ∧ es.length = s.schedule.length ∧
    max r k = reach

theorem advanceFuel_eq : ∃ n, advanceFuel = n + 2 :=
  ⟨advanceFuel - 2, (Nat.sub_add_cancel
    ((by decide : 2 ≤ 257).trans (Nat.le_mul_of_pos_right 257 (Nat.pow_pos (by decide))))).symm⟩

theorem walkReaches_next : walkReaches (s.sequencer.cursor + 1) (s.sequencer.cursor + 1) s := by
  obtain ⟨n, hn⟩ := advanceFuel_eq
  exact ⟨n + 1, s.schedule, s.sequencer.cursor + 1, congrArg (walk · _ _ _) hn, rfl, rfl, Nat.max_self _⟩

theorem walkReaches_mark {v : BitVec 16} (h : s.schedule[s.sequencer.cursor + 1]? = some (.mark v)) :
    walkReaches (s.sequencer.cursor + 2) (s.sequencer.cursor + 2) s := by
  obtain ⟨n, hn⟩ := advanceFuel_eq
  exact ⟨n, s.schedule, _, (congrArg (walk · _ _ _) hn).trans (walk_mark h), rfl, rfl, by omega⟩

section Repeat
variable {j c m : Nat} (h : s.schedule[s.sequencer.cursor + 1]? = some (.rep j c m))
include h

theorem walkReaches_jump (hj : j ≤ s.sequencer.cursor) (hm : 0 < m) : walkReaches j (s.sequencer.cursor + 1) s := by
  obtain ⟨n, hn⟩ := advanceFuel_eq
  refine ⟨n, _, _, (congrArg (walk · _ _ _) hn).trans ((walk_rep h).trans (by rw [passRepeat, if_pos hm])), ?_, ?_, ?_⟩
  · rw [List.getElem?_set_ne (by omega)]
  · rw [List.length_set]
  · omega

theorem walkReaches_fallThrough (hm : m = 0) : walkReaches (s.sequencer.cursor + 2) (s.sequencer.cursor + 2) s := by
  obtain ⟨n, hn⟩ := advanceFuel_eq
  refine ⟨n, _, _, (congrArg (walk · _ _ _) hn).trans
    ((walk_rep h).trans (by rw [passRepeat, if_neg (by omega)])), ?_, ?_, ?_⟩
  · rw [List.getElem?_set_ne (by omega)]
  · rw [List.length_set]
  · omega

end Repeat

/-! ## The resolution, by the entry that the walk comes to -/

section Resolution
variable {k reach : Nat} (h : walkReaches k reach s)
include h

theorem resolve_end (hk : s.schedule[k]? = none) :
    resolve s = { successor := none, continues := false, reach := s.schedule.length, prefetch := none } := by
  obtain ⟨n, es, r, hw, hes, hlen, -⟩ := h
  have hend : lookaheadWalk s = (none, s.schedule.length) := hw.trans ((walk_end (hes.trans hk)).trans (by rw [hlen]))
  unfold lookaheadWalk at hend
  simp only [resolve, hend]

theorem resolve_dwell {d : Nat} (hk : s.schedule[k]? = some (.dwell d)) :
    resolve s = { successor := some k, continues := false, reach := reach, prefetch := none } := by
  obtain ⟨n, es, r, hw, hes, -, hreach⟩ := h
  have hend : lookaheadWalk s = (some k, reach) := hw.trans ((walk_dwell (hes.trans hk)).trans (by rw [hreach]))
  unfold lookaheadWalk at hend
  simp only [resolve, hend, hk]

theorem resolve_play {p : PlayEntry} (hk : s.schedule[k]? = some (.play p)) : resolve s =
    { successor := some k, continues := joinCheck p s, reach := reach, prefetch := prefetchOf p s } := by
  obtain ⟨n, es, r, hw, hes, -, hreach⟩ := h
  have hend : lookaheadWalk s = (some k, reach) := hw.trans ((walk_play (hes.trans hk)).trans (by rw [hreach]))
  unfold lookaheadWalk at hend
  simp only [resolve, hend, hk]

end Resolution

/-! ## The data a successor would play (R60, R63) -/

section Data
variable {id : Nat}

theorem playingSeg_eq_some : playingSeg s = some id ↔ ∃ p, s.pipeline.params = some (.play p) ∧ p.seg = id := by
  unfold playingSeg
  split
  · next p hp => simp [hp]
  · next hp => exact ⟨nofun, fun ⟨p, hq, _⟩ => absurd hq (hp p)⟩

theorem waitingRepl_eq_some {e : SegData} :
    waitingRepl id s = some e ↔ ∃ r, (descriptor s id).repl = some r ∧ r.state = .ready ∧ r.data = e := by
  unfold waitingRepl
  split
  · next r hr => split <;> simp_all
  · next hr => simp [hr]

/-- R37, R60: a replacement that waits READY for the end of the play in progress is what a successor would play. -/
theorem successorData_repl {r : Replacement} (hr : (descriptor s id).repl = some r) (hready : r.state = .ready)
    (hplay : playingSeg s = some id) : successorData id s = some (true, r.data) := by
  simp only [successorData, hplay, if_true, waitingRepl_eq_some.2 ⟨r, hr, hready, rfl⟩]

theorem successorData_own
    (hno : ∀ r, ¬ ((descriptor s id).repl = some r ∧ r.state = .ready ∧ playingSeg s = some id)) :
    successorData id s = if (descriptor s id).state = .ready then some (false, (descriptor s id).data) else none := by
  have hnone : (if playingSeg s = some id then waitingRepl id s else none) = none := by
    split
    · next hplay =>
      rw [Option.eq_none_iff_forall_ne_some]
      intro e he
      obtain ⟨r, hr, hready, -⟩ := waitingRepl_eq_some.1 he
      exact hno r ⟨hr, hready, hplay⟩
    · rfl
  simp only [successorData, hnone]

theorem rangeFits_iff {q : PlayEntry} {n : Nat} : rangeFits q n = true ↔ ∀ r, q.range = some r → r.2 < n := by
  cases hr : q.range <;> simp [rangeFits, hr]

theorem rangeOf_eq (q : PlayEntry) (n : Nat) : rangeOf q n = q.range.getD (0, n - 1) := by
  cases hr : q.range <;> simp [rangeOf, hr]

section Play
variable {q : PlayEntry} {repl : Bool} {e : SegData}

theorem joinCheck_iff (hd : successorData q.seg s = some (repl, e)) :
    joinCheck q s = true ↔ ∀ r, q.range = some r → r.2 < e.frames := by
  simp only [joinCheck, hd, rangeFits_iff]

/-- R64: what a prefetch of a PLAY's first one or two frames reads. -/
theorem prefetchOf_eq (hd : successorData q.seg s = some (repl, e)) {a b : Nat}
    (hrange : q.range.getD (0, e.frames - 1) = (a, b)) (ha : a < e.frames) (hab : a ≤ b) :
    prefetchOf q s = some
      { seg := q.seg, fromRepl := repl, pages := e.pages, lo := a * e.count
        hi := (min (if a < b then a + 1 else b) (e.frames - 1) + 1) * e.count, samples := [], nextWord := a * e.count / 4
        stopWord := ((min (if a < b then a + 1 else b) (e.frames - 1) + 1) * e.count + 3) / 4 } := by
  have hlast : min (a + 1) b = if a < b then a + 1 else b := by split <;> omega
  simp only [prefetchOf, hd, rangeOf_eq, hrange, if_pos ha, hlast, stopOf]

end Play
end Data

/-! ## What a play takes over of the frames prefetched (R55, R64) -/

section Fetch
variable {p : PlayParams} {f : Prefetch}

theorem initialFetch_same (h : f.seg = p.seg ∧ f.fromRepl = false ∧ f.pages = p.pages ∧
    f.lo = p.first * maskCount p.channels) : initialFetch p (some f) =
      { samples := f.samples, nextWord := f.nextWord, dueWord := dueFor p p.first } := if_pos h

theorem initialFetch_other (h : ¬ (f.seg = p.seg ∧ f.fromRepl = false ∧ f.pages = p.pages ∧
    f.lo = p.first * maskCount p.channels)) : initialFetch p (some f) =
      { samples := [], nextWord := p.first * maskCount p.channels / 4, dueWord := dueFor p p.first } := if_neg h

end Fetch

/-! ## The redo (R65) -/

/-- What the resolution depends on is the same in two states. -/
def resolvesAlike (t s : State) : Prop :=
  t.schedule = s.schedule ∧ t.sequencer.cursor = s.sequencer.cursor ∧ t.segments = s.segments ∧
    t.pipeline.params = s.pipeline.params

theorem successorData_congr (id : Nat) (hsegs : t.segments = s.segments) (hparams : t.pipeline.params = s.pipeline.params) :
    successorData id t = successorData id s := by
  have hplay : playingSeg t = playingSeg s := by rw [playingSeg, hparams, playingSeg]
  have hdesc : descriptor t id = descriptor s id := by rw [descriptor, hsegs, descriptor]
  have hrepl : waitingRepl id t = waitingRepl id s := by rw [waitingRepl, hdesc, waitingRepl]
  rw [successorData, hplay, hdesc, hrepl, successorData]

theorem resolve_congr (h : resolvesAlike t s) : resolve t = resolve s := by
  obtain ⟨hsched, hcursor, hsegs, hparams⟩ := h
  have hdata (id : Nat) := successorData_congr id hsegs hparams
  have hjoin (p : PlayEntry) : joinCheck p t = joinCheck p s := by rw [joinCheck, hdata, joinCheck]
  have hprefetch (p : PlayEntry) : prefetchOf p t = prefetchOf p s := by rw [prefetchOf, hdata, prefetchOf]
  simp only [resolve, hsched, hcursor, hjoin, hprefetch]

theorem redoLookahead_some {l : Lookahead} (h : s.sequencer.lookahead = some l) :
    redoLookahead s = installLookahead (voidLookahead s) := if_pos (by simp [h])

theorem resolvesAlike_redo {l : Lookahead} (h : s.sequencer.lookahead = some l) :
    resolvesAlike (redoLookahead s) s := by
  rw [redoLookahead_some h]
  exact ⟨rfl, rfl, rfl, rfl⟩

/-- R65: after the redo the lookahead is what the state resolves to. -/
theorem lookahead_redoLookahead {l : Lookahead} (h : s.sequencer.lookahead = some l) :
    (redoLookahead s).sequencer.lookahead = some (resolve (redoLookahead s)) := by
  rw [resolve_congr (resolvesAlike_redo h), redoLookahead_some h]
  exact congrArg some (resolve_congr (s := s) (t := voidLookahead s) ⟨rfl, rfl, rfl, rfl⟩)

theorem resolve_settle : resolve (settle s) = resolve s := resolve_congr (by simp [resolvesAlike])

theorem resolve_answer (st : Status) (b : ReplyBody) : resolve (answer st b s) = resolve s :=
  resolve_congr (by simp [resolvesAlike])

theorem redoAtEnd_eq {l : Lookahead} (h : s.sequencer.lookahead = some l) :
    redoAtEnd s = if l.successor = none then redoLookahead s else s := by
  obtain ⟨_ | j, c, r, q⟩ := l <;> simp [redoAtEnd, h]

theorem redoReaching_eq {l : Lookahead} {k : Nat} (h : s.sequencer.lookahead = some l) :
    redoReaching k s = if k ≤ l.reach then redoLookahead s else s := by simp only [redoReaching, h]

/-- A request that redoes the lookahead under a condition, once it is answered. -/
theorem answered_redo {l : Lookahead} {p : Prop} [Decidable p] (st : Status) (b : ReplyBody)
    (h : s.sequencer.lookahead = some l) (ht : t = if p then redoLookahead s else s) :
    (settle (answer st b t)).schedule = s.schedule ∧
      (settle (answer st b t)).sequencer.lookahead = some (if p then resolve (settle (answer st b t)) else l) := by
  subst ht
  rw [settle_schedule, settle_sequencer, answer_schedule, answer_sequencer, resolve_settle, resolve_answer]
  split
  · exact ⟨(resolvesAlike_redo h).1, lookahead_redoLookahead h⟩
  · exact ⟨rfl, h⟩

/-! ## A prefetch read (R39, R64) -/

theorem successorNames_of {id j : Nat} {e : PlayEntry} {l : Lookahead} (h : s.sequencer.lookahead = some l)
    (hj : l.successor = some j) (he : s.schedule[j]? = some (.play e)) (hid : e.seg = id) :
    successorNames id s = true := by
  obtain ⟨successor, c, r, q⟩ := l
  cases hj
  simp [successorNames, h, he, names, hid]

/-- R64: the state with the standing lookahead's prefetch at `q`. -/
abbrev withPrefetch (l : Lookahead) (q : Prefetch) (s : State) : State :=
  { s with sequencer.lookahead := some { l with prefetch := some q } }

section Prefetched
variable {l : Lookahead} {q : Prefetch} {index : Nat} {o : ReadOutcome} {samples : List Sample}
  (hl : s.sequencer.lookahead = some l) (hq : l.prefetch = some q)
include hl hq

theorem prefetchRead_taken (ho : o ≠ .uncorrectable) : prefetchRead index o samples s = withPrefetch l
    { q with nextWord := index + 1, samples := q.samples ++ samplesBetween index q.lo (4 * index + 4) samples } s := by
  obtain ⟨j, c, r, f⟩ := l
  cases hq
  simp only [prefetchRead, setPrefetch, hl, if_neg ho]

theorem prefetchRead_lost (ho : o = .uncorrectable) : prefetchRead index o samples s =
    if q.fromRepl then dropReplacement q.seg (withPrefetch l { q with nextWord := index + 1 } s)
    else markDamaged q.seg 3 (addDoubleErrors q.seg (offsetsBetween index q.lo q.hi).length
      (withPrefetch l { q with nextWord := index + 1 } s)) := by
  obtain ⟨j, c, r, f⟩ := l
  cases hq
  simp only [prefetchRead, setPrefetch, hl, if_pos ho]

end Prefetched

/-- The offsets that a prefetch read asks for. -/
theorem samplesBetween_eq (index lo : Nat) (samples : List Sample) : samplesBetween index lo (4 * index + 4) samples =
    ((List.range 4).filter (fun k => decide (lo ≤ 4 * index + k))).map
      (fun k => (4 * index + k, samples.getD k 0)) := by
  have hlt : ∀ k, k ∈ List.range 4 → 4 * index + k < 4 * index + 4 := fun k hk => by
    have := List.mem_range.1 hk
    omega
  rw [samplesBetween, ← List.filterMap_eq_map, List.filterMap_filter]
  exact List.filterMap_congr fun k hk => by simp [hlt k hk]

theorem offsetsBetween_length (index lo hi : Nat) : (offsetsBetween index lo hi).length =
    (((List.range 4).filter (fun k => decide (lo ≤ 4 * index + k))).filter
      (fun k => decide (4 * index + k < hi))).length := by
  rw [offsetsBetween, List.filter_map, List.length_map, List.filter_filter]
  congr 2
  funext k
  simp [Bool.and_comm]

/-- R13: the granted prefetch read completes. -/
theorem exec_memoryRead_prefetch {w index : Nat} (found : ReadOutcome) (hu : s.life = .up) (hw : w < 4194304)
    (hg : s.arbiter.granted = some { requestor := .playback, op := .read w index .prefetch, live := true }) :
    exec (.memoryRead found) s = .next (settle (prefetchRead index (outcomeAt s.store w found) (wordSamples s.store w)
      (scrubbed (storeRead w found s.store).2 s.sweep s))) :=
  (exec_memoryRead found hu hg rfl).trans (if_pos hw)

/-- What a prefetch read spares: the run and the entry parameters in force. -/
def sparesPlay (s t : State) : Prop := t.run = s.run ∧ t.pipeline.params = s.pipeline.params

theorem sparesPlay_segChanged (id : Nat) : sparesPlay s (segChanged id s) := by
  unfold segChanged redoLookahead
  split
  · split <;> exact ⟨rfl, rfl⟩
  · exact ⟨rfl, rfl⟩

theorem sparesPlay_markDamaged (id o : Nat) : sparesPlay s (markDamaged id o s) := by
  unfold markDamaged
  split
  · obtain ⟨hrun, hparams⟩ := sparesPlay_segChanged (s := raiseEvent .segmentDamaged id o
      (setDescriptor id { descriptor s id with state := .damaged } s)) id
    exact ⟨hrun.trans (by simp), hparams.trans (by simp)⟩
  · exact ⟨rfl, rfl⟩

theorem sparesPlay_dropReplacement (id : Nat) : sparesPlay s (dropReplacement id s) := by
  unfold dropReplacement
  split
  · next h =>
    obtain ⟨r, hr, -⟩ := waitingRepl_isSome h
    obtain ⟨hrun, hparams⟩ := sparesPlay_segChanged (s := raiseEvent .segmentRejected id 4 (removeReplacement id s)) id
    exact ⟨hrun.trans (by simp [removeReplacement_some hr]), hparams.trans (by simp [removeReplacement_some hr])⟩
  · exact ⟨rfl, rfl⟩

section Lost
variable {l : Lookahead} {q : Prefetch} {id j : Nat} {e : PlayEntry}
  (hl : s.sequencer.lookahead = some l) (hj : l.successor = some j)
  (he : s.schedule[j]? = some (.play e)) (hid : e.seg = id)
include hl hj he hid

omit hl in
/-- R65: what the redo comes to, where a change to segment `id` was raised as an event. -/
theorem segChanged_redone {u : State} (k : EventKind) (v : Nat) (hu : u.sequencer.lookahead = some l)
    (hsched : u.schedule = s.schedule) (ht : t = segChanged id (raiseEvent k id v u)) :
    descriptor t id = descriptor u id ∧ t.pool = u.pool ∧ t.events = (raiseEvent k id v u).events ∧
      t.sequencer.lookahead = some (resolve t) := by
  have hlook : (raiseEvent k id v u).sequencer.lookahead = some l := by rw [raiseEvent_sequencer, hu]
  have hnames := successorNames_of hlook hj (by rw [raiseEvent_schedule, hsched, he]) hid
  have hredo : t = redoLookahead (raiseEvent k id v u) := ht.trans (if_pos hnames)
  rw [hredo]
  refine ⟨?_, ?_, ?_, lookahead_redoLookahead hlook⟩ <;> rw [redoLookahead_some hlook] <;> simp [descriptor]

/-- R40, R64, R65: a READY descriptor becomes DAMAGED, and the lookahead that names it is redone. -/
theorem markDamaged_redone {o : Nat} (hlt : id < 64) (hd : (descriptor s id).state = .ready)
    (ht : t = markDamaged id o s) : descriptor t id = { descriptor s id with state := .damaged } ∧
      t.events = (raiseEvent .segmentDamaged id o s).events ∧ t.sequencer.lookahead = some (resolve t) := by
  rw [markDamaged, if_pos hd] at ht
  obtain ⟨hdesc, -, hevents, hlook⟩ := segChanged_redone hj he hid .segmentDamaged o
    (u := setDescriptor id { descriptor s id with state := .damaged } s) hl rfl ht
  exact ⟨hdesc.trans (descriptor_setDescriptor_same _ hlt), hevents.trans (raiseEvent_events_congr _ _ _ rfl rfl), hlook⟩

/-- R20, R64, R65: a replacement that waits READY is dropped, and the lookahead that names its segment is redone. -/
theorem dropReplacement_redone {r : Replacement} (hr : (descriptor s id).repl = some r) (hready : r.state = .ready)
    (ht : t = dropReplacement id s) : descriptor t id = { descriptor s id with repl := none } ∧
      (∀ x, x ∈ r.data.pages → x ∈ t.pool) ∧ t.events = (raiseEvent .segmentRejected id 4 s).events ∧
      t.sequencer.lookahead = some (resolve t) := by
  rw [dropReplacement, if_pos (by rw [waitingRepl_some hr, decide_eq_true hready])] at ht
  have hrem := removeReplacement_some hr
  obtain ⟨hdesc, hpool, hevents, hlook⟩ := segChanged_redone hj he hid .segmentRejected 4 (u := removeReplacement id s)
    (by rw [removeReplacement_lookahead, hl]) (by rw [hrem]; simp) ht
  refine ⟨hdesc.trans descriptor_removeReplacement, fun x hx => ?_, hevents.trans ?_, hlook⟩
  · rw [hpool, hrem]
    exact mem_releasePages.2 (.inl hx)
  · exact raiseEvent_events_congr _ _ _ (by rw [hrem]; simp) (by rw [hrem]; simp)

end Lost

/-! ## The statement -/

/-- R63: what the resolution comes to where its walk reaches index `k`. -/
theorem resolve_ahead {k reach : Nat} (h : walkReaches k reach s) {q : PlayEntry} {repl : Bool} {e : SegData}
    (hk : s.schedule[k]? = some (.play q)) (hd : successorData q.seg s = some (repl, e)) :
    (resolve s).successor = some k ∧ (resolve s).reach = reach ∧
      ((resolve s).continues = true ↔ ∀ r, q.range = some r → r.2 < e.frames) ∧
      (resolve s).prefetch = prefetchOf q s := by
  rw [resolve_play h hk]
  exact ⟨rfl, rfl, joinCheck_iff hd, rfl⟩

/-- Settles O33: the walk's first steps give what the resolution reaches, and a prefetch read's three outcomes are those
of `prefetchRead`. -/
theorem lookaheadFollowsScheduleAndSegments : Obligations.LookaheadFollowsScheduleAndSegments := by
  unfold Obligations.LookaheadFollowsScheduleAndSegments
  refine ⟨fun s => ?_, fun p f => ?_, fun tag l s h hl => ?_, fun w index found l q s hu hw hg hl hq hlt hsucc => ?_⟩
  · intro c ahead
    have hahead (k reach : Nat) (h : walkReaches k reach s) : ahead k reach := by
      refine ⟨resolve_end h, fun d => resolve_dwell h, fun q hk => ?_⟩
      intro d waits plays
      have hplays (repl : Bool) (e : SegData) (hd : successorData q.seg s = some (repl, e)) : plays repl e := by
        obtain ⟨hsucc, hreach, hcont, hpre⟩ := resolve_ahead h hk hd
        exact ⟨hsucc, hreach, hcont, fun ha hab => hpre.trans (prefetchOf_eq hd rfl ha hab)⟩
      have hown (hno : ∀ r, ¬ waits r) := successorData_own (s := s) (id := q.seg)
        fun r ⟨hr, hready, hplay⟩ => hno r ⟨hr, hready, playingSeg_eq_some.1 hplay⟩
      refine ⟨fun r ⟨hr, hready, hplay⟩ => hplays true _ (successorData_repl hr hready (playingSeg_eq_some.2 hplay)),
        fun hno hready => hplays false _ ((hown hno).trans (if_pos hready)), fun hno hready => ?_⟩
      have hnone := (hown hno).trans (if_neg hready)
      rw [resolve_play h hk]
      simp only [joinCheck, prefetchOf, hnone]
    exact ⟨hahead _ _ walkReaches_next, fun v hv => hahead _ _ (walkReaches_mark hv), fun j n m hrep hj =>
      ⟨fun hm => hahead _ _ (walkReaches_jump hrep hj hm), fun hm => hahead _ _ (walkReaches_fallThrough hrep hm)⟩⟩
  · refine ⟨fun hsame => ?_, fun hother => ?_, rfl, rfl⟩
    · rw [initialFetch_same hsame]
      exact ⟨rfl, rfl⟩
    · rw [initialFetch_other hother]
      exact ⟨rfl, rfl⟩
  · refine ⟨fun body es hf hes hroom => ⟨_, exec_schedAppend_ok h hf hes hroom, ?_⟩, fun k hk hcursor hentry => ?_⟩
    · exact answered_redo (s := { s with schedule := s.schedule ++ es, link := taken s 0x30 tag .answered }) _ _ hl
        (redoAtEnd_eq hl)
    · have hspares : ¬ truncationRefused k.toNat (withTaken 0x31 tag s) = true := fun hr => by
        obtain ⟨-, -, hc | ⟨e, he, hke⟩⟩ := truncationRefused_iff.1 hr
        · exact absurd hc (Nat.not_le.mpr hcursor)
        · exact absurd (hentry e he) (Nat.not_lt.mpr hke)
      refine ⟨_, (exec_schedTruncate k h).trans (congrArg (fun u => Host.Outcome.next (settle u))
        (truncateEffect_ok hk hspares)), ?_⟩
      exact answered_redo
        (s := { s with schedule := s.schedule.take k.toNat, link := taken s 0x31 tag .answered }) _ _ hl
        (redoReaching_eq hl)
  · intro d bad asked lost errors
    obtain ⟨j, e, hj, he, hid⟩ := hsucc
    let v := scrubbed (storeRead w found s.store).2 s.sweep s
    let u := withPrefetch l { q with nextWord := index + 1 } v
    have hlook : u.sequencer.lookahead = some { l with prefetch := some { q with nextWord := index + 1 } } := rfl
    have htaken := prefetchRead_taken (s := v) (index := index) (o := outcomeAt s.store w found) (samples := wordSamples s.store w) hl hq
    have hlost := prefetchRead_lost (s := v) (index := index) (o := outcomeAt s.store w found) (samples := wordSamples s.store w) hl hq
    refine ⟨_, exec_memoryRead_prefetch found hu hw hg, ?_⟩
    have hkeeps : sparesPlay s (prefetchRead index (outcomeAt s.store w found) (wordSamples s.store w) v) := by
      by_cases ho : bad
      · rw [hlost ho]
        split
        · exact sparesPlay_dropReplacement (s := u) q.seg
        · exact sparesPlay_markDamaged
            (s := addDoubleErrors q.seg (offsetsBetween index q.lo q.hi).length u) q.seg 3
      · rw [htaken ho]
        exact ⟨rfl, rfl⟩
    rw [settle_run, settle_pipeline, settle_segments, settle_events, settle_sequencer, settle_pool, resolve_settle,
      descriptor_settle]
    refine ⟨hkeeps.1, hkeeps.2, fun ho => ?_, fun ho hown => ?_, fun ho hrepl r hr hready => ?_⟩
    · rw [htaken ho]
      exact ⟨rfl, rfl, by rw [samplesBetween_eq]⟩
    · rw [hlost ho, if_neg (by rw [hown]; exact Bool.false_ne_true), offsetsBetween_length]
      have hcounted : descriptor (addDoubleErrors q.seg lost.length u) q.seg = { d with doubleErrors := errors } :=
        descriptor_setDescriptor_same _ hlt
      refine ⟨fun hd => ?_, fun hd => ?_⟩
      · obtain ⟨hdesc, hevents, hredone⟩ := markDamaged_redone (s := addDoubleErrors q.seg lost.length u) (o := 3)
          hlook hj he hid hlt (by rw [hcounted]; exact hd) rfl
        rw [hcounted] at hdesc
        exact ⟨hdesc, hevents.trans (raiseEvent_events_congr _ _ _ rfl rfl), hredone⟩
      · rw [markDamaged_other (by rw [hcounted]; exact hd)]
        exact ⟨hcounted, rfl⟩
    · rw [hlost ho, if_pos hrepl]
      obtain ⟨hdesc, hpages, hevents, hredone⟩ := dropReplacement_redone (s := u) hlook hj he hid hr hready rfl
      exact ⟨hdesc, hpages, hevents.trans (raiseEvent_events_congr _ _ _ rfl rfl), hredone⟩

end Sys2Proof.Machine
end

section
/-! PROOF. Entry starts (R52, R54, R55, R58): what `advance` does at an entry of each kind, and what a started entry
leaves alone. -/

namespace Sys2Proof.Machine

variable {s t : State} {i n : Nat}

/-! ## The advance, entry by entry (R54) -/

theorem advance_end (h : s.schedule[i]? = none) : advance (n + 1) i s = endSchedule s := by
  simp only [advance, h]

theorem advance_dwell {d : Nat} (h : s.schedule[i]? = some (.dwell d)) : advance (n + 1) i s = beginDwell i d s := by
  simp only [advance, h]

theorem advance_mark {v : BitVec 16} (h : s.schedule[i]? = some (.mark v)) :
    advance (n + 1) i s = advance n (i + 1) (raiseEvent .mark v.toNat i s) := by simp only [advance, h]

theorem advance_rep {j c m : Nat} (h : s.schedule[i]? = some (.rep j c m)) : advance (n + 1) i s =
    advance n (passRepeat i j c m s.schedule).1 { s with schedule := (passRepeat i j c m s.schedule).2 } := by
  simp only [advance, h]

section Play
variable {p : PlayEntry} (h : s.schedule[i]? = some (.play p))
include h

theorem advance_play (hok : startCheck p s = true) : advance (n + 1) i s = beginPlay i p false s := by
  simp only [advance, h, hok, if_true]

theorem advance_noted (hno : startCheck p s = false) (hc : (source s 35).cls = .note) :
    advance (n + 1) i s = advance n (i + 1) (skipEntry i p.seg s) := by
  simp only [advance, h, hno, hc, Bool.false_eq_true, if_true, if_false]

theorem advance_waits (hno : startCheck p s = false) (hc : (source s 35).cls ≠ .note) :
    advance (n + 1) i s = waitEntry i p.seg s := by
  simp only [advance, h, hno, hc, Bool.false_eq_true, if_false]

end Play

/-- R55: the entry-start check, as the words put it. -/
theorem startCheck_iff {p : PlayEntry} : startCheck p s = true ↔
    (descriptor s p.seg).state = .ready ∧ ∀ r, p.range = some r → r.2 < (descriptor s p.seg).data.frames := by
  rw [startCheck, Bool.and_eq_true, decide_eq_true_eq, rangeFits_iff]

/-! ## Going on (R53, R54) -/

theorem proceed_spent (hc : s.capture.closing = false) (hj : s.sequencer.joinPending = false)
    (hr : s.run.state = .running) (hp : s.sequencer.phase = .spent) :
    proceed s = advance advanceFuel (s.sequencer.cursor + 1) s := by simp [proceed, hc, hj, hr, hp]

theorem proceed_awaiting (hc : s.capture.closing = false) (hj : s.sequencer.joinPending = false)
    (hr : s.run.state = .running) (hp : s.sequencer.phase = .awaiting) :
    proceed s = advance advanceFuel s.sequencer.cursor s := by simp [proceed, hc, hj, hr, hp]

theorem proceed_join {p : PlayEntry} (hc : s.capture.closing = false) (hj : s.sequencer.joinPending = true)
    (he : s.schedule[s.sequencer.cursor]? = some (.play p)) :
    proceed s = beginPlay s.sequencer.cursor p true s := by simp [proceed, hc, hj, he]

theorem proceed_stays (hj : s.sequencer.joinPending = false) (hr : s.run.state ≠ .running) : proceed s = s := by
  simp [proceed, hj, hr]

theorem proceed_closing (hc : s.capture.closing = true) : proceed s = s := if_pos hc

theorem callReads_not_inEntry (h : s.sequencer.phase ≠ .inEntry) : callReads s = s := by
  unfold callReads
  split
  · rw [if_neg fun hin => h hin.2.1]
  · rfl

/-! ## A capture record opens (R149) -/

/-- R149: the record in slot `i`, with its first page, has opened for a play. -/
def recordOpened (i entry seg page : Nat) (rest : List Nat) (s : State) : State :=
  { s with
    pool := rest
    capture := { s.capture with
      slots := tset s.capture.slots i (some
        { entry := entry, ordinal := s.summaries.ordinal, seg := seg, channels := (general s).captureSet, frames := 0
          pages := [page], state := .filling, endedEarly := false, damaged := false })
      current := some i }
    summaries := { s.summaries with opened := s.summaries.opened.map (fun o => { o with captureId := some i }) } }

/-- What decides between the outcomes of an opening is the same in two states. -/
def opensAlike (t s : State) : Prop := t.config = s.config ∧ t.capture = s.capture ∧ t.pool = s.pool

/-- R149: a record opens, or CAPTURE_SKIPPED says why not. -/
theorem openCapture_outcome (e g : Nat) (s : State) :
    (∃ c, ∀ t, opensAlike t s → openCapture e g t = raiseEvent .captureSkipped e c t) ∨
      ∃ i page rest, ∀ t, opensAlike t s → openCapture e g t = recordOpened i e g page rest t := by
  have hgeneral {t : State} (h : opensAlike t s) : (general t).captureSet = (general s).captureSet := by
    rw [general, h.1, general]
  have hslot {t : State} (h : opensAlike t s) : freeSlot t = freeSlot s := by simp only [freeSlot, slot, h.2.1]
  by_cases hset : (general s).captureSet = 0
  · exact .inl ⟨3, fun t h => if_pos ((hgeneral h).trans hset)⟩
  rcases hfree : freeSlot s with _ | i
  · exact .inl ⟨1, fun t h => by simp only [openCapture, hgeneral h, if_neg hset, hslot h, hfree]⟩
  rcases hpool : s.pool with _ | ⟨page, rest⟩
  · exact .inl ⟨2, fun t h => by
      simp only [openCapture, hgeneral h, if_neg hset, hslot h, hfree, allocateOne, h.2.2.trans hpool]⟩
  · exact .inr ⟨i, page, rest, fun t h => by
      simp only [openCapture, hgeneral h, if_neg hset, hslot h, hfree, allocateOne, h.2.2.trans hpool, recordOpened,
        setSlot]⟩

/-- R149: opening a record changes the capture unit, the pool, the events and the open summary. -/
theorem openCapture_frame (e g : Nat) (s : State) : openCapture e g s =
    { s with
      pool := (openCapture e g s).pool, events := (openCapture e g s).events
      capture := (openCapture e g s).capture, summaries := (openCapture e g s).summaries } := by
  rcases openCapture_outcome e g s with ⟨c, h⟩ | ⟨i, page, rest, h⟩
  · rw [h s ⟨rfl, rfl, rfl⟩]
    simp only [raiseEvent_pool, raiseEvent_capture, raiseEvent_summaries]
    exact raiseEvent_eq _ _ _ _
  · rw [h s ⟨rfl, rfl, rfl⟩]
    rfl

/-- What an opening gives depends on the parts it reads only. -/
theorem openCapture_congr (e g : Nat) (h : opensAlike t s) (hevents : t.events = s.events)
    (htime : t.timebase = s.timebase) (hsum : t.summaries = s.summaries) :
    (openCapture e g t).capture = (openCapture e g s).capture ∧ (openCapture e g t).pool = (openCapture e g s).pool ∧
      (openCapture e g t).events = (openCapture e g s).events ∧
      (openCapture e g t).summaries = (openCapture e g s).summaries := by
  rcases openCapture_outcome e g s with ⟨c, ho⟩ | ⟨i, page, rest, ho⟩
  · rw [ho t h, ho s ⟨rfl, rfl, rfl⟩]
    simp only [raiseEvent_pool, raiseEvent_capture, raiseEvent_summaries]
    exact ⟨h.2.1, h.2.2, raiseEvent_events_congr _ _ _ hevents (by rw [htime]), hsum⟩
  · have hgeneral : (general t).captureSet = (general s).captureSet := by rw [general, h.1, general]
    rw [ho t h, ho s ⟨rfl, rfl, rfl⟩]
    exact ⟨by simp only [recordOpened, h.2.1, hsum, hgeneral], rfl, hevents, by simp only [recordOpened, hsum]⟩

/-- R149: the open summary takes the record's id, if one opens. -/
theorem openCapture_summaries (e g : Nat) {o : OpenSummary} (ho : s.summaries.opened = some o)
    (hn : o.captureId = none) :
    ∃ id, (openCapture e g s).summaries = { s.summaries with opened := some { o with captureId := id } } := by
  rcases openCapture_outcome e g s with ⟨c, h⟩ | ⟨i, page, rest, h⟩
  · refine ⟨none, ?_⟩
    rw [h s ⟨rfl, rfl, rfl⟩, raiseEvent_summaries, ← hn, ← ho]
  · refine ⟨some i, ?_⟩
    rw [h s ⟨rfl, rfl, rfl⟩, recordOpened, ho]
    rfl

/-! ## An entry in force (R52, R55, R59) -/

/-- R52, R63: an entry has come into force at index `k`, its lookahead resolved. -/
structure EntryStarted (k : Nat) (s t : State) : Prop where
  run : t.run = s.run
  faults : t.faults = s.faults
  config : t.config = s.config
  schedule : t.schedule = s.schedule
  sequencer : t.sequencer = { s.sequencer with
    cursor := k, phase := .inEntry, position := 0, entry := some k, carried := none, joinPending := false
    lookahead := some (resolve t), fetch := t.sequencer.fetch }
  taper : t.pipeline.taper = s.pipeline.taper

theorem resolve_installLookahead : resolve (installLookahead s) = resolve s := resolve_congr ⟨rfl, rfl, rfl, rfl⟩

theorem entryStarted_beginDwell (k d : Nat) (s : State) : EntryStarted k s (beginDwell k d s) where
  run := rfl
  faults := rfl
  config := rfl
  schedule := rfl
  sequencer := by rw [beginDwell, resolve_installLookahead]; rfl
  taper := rfl

/-- R55: the state handed on to the capture unit: the play is with the segment table, the pipeline and the summaries. -/
def playHanded (idx : Nat) (p : PlayEntry) (byJoin : Bool) (s : State) : State :=
  let q := playParams idx p byJoin (descriptor s p.seg).data
  openSummary idx p.seg (zeroCounts
    { setDescriptor p.seg { descriptor s p.seg with inPlay := true } s with
      pipeline := { s.pipeline with params := some (.play q) }
      sequencer := { s.sequencer with fetch := initialFetch q s.sequencer.carried } })

/-- R55, R149: the play is with the capture unit too, where its entry asks for a record. -/
def playCaptured (idx : Nat) (p : PlayEntry) (byJoin : Bool) (s : State) : State :=
  if p.capture then openCapture idx p.seg (playHanded idx p byJoin s) else playHanded idx p byJoin s

theorem beginPlay_eq (idx : Nat) (p : PlayEntry) (byJoin : Bool) (s : State) :
    beginPlay idx p byJoin s = installLookahead (enterEntry idx (playCaptured idx p byJoin s)) := rfl

theorem playCaptured_frame (idx : Nat) (p : PlayEntry) (byJoin : Bool) (s : State) : playCaptured idx p byJoin s =
    { playHanded idx p byJoin s with
      pool := (playCaptured idx p byJoin s).pool, events := (playCaptured idx p byJoin s).events
      capture := (playCaptured idx p byJoin s).capture, summaries := (playCaptured idx p byJoin s).summaries } := by
  unfold playCaptured
  split
  · exact openCapture_frame _ _ _
  · rfl

theorem entryStarted_beginPlay (k : Nat) (p : PlayEntry) (b : Bool) (s : State) :
    EntryStarted k s (beginPlay k p b s) := by
  rw [beginPlay_eq, playCaptured_frame]
  exact ⟨rfl, rfl, rfl, rfl, by rw [resolve_installLookahead]; rfl, rfl⟩

section PlayStart
variable (k : Nat) (p : PlayEntry) (b : Bool) (s : State)

theorem beginPlay_params : (beginPlay k p b s).pipeline.params =
    some (.play (playParams k p b (descriptor s p.seg).data)) := by
  rw [beginPlay_eq, playCaptured_frame]
  rfl

theorem beginPlay_fetch : (beginPlay k p b s).sequencer.fetch =
    initialFetch (playParams k p b (descriptor s p.seg).data) s.sequencer.carried := by
  rw [beginPlay_eq, playCaptured_frame]
  rfl

theorem beginPlay_channels : (beginPlay k p b s).pipeline.channels = (zeroCounts s).pipeline.channels := by
  rw [beginPlay_eq, playCaptured_frame]
  rfl

theorem beginPlay_segments : (beginPlay k p b s).segments =
    tset s.segments p.seg { descriptor s p.seg with inPlay := true } := by
  rw [beginPlay_eq, playCaptured_frame]
  rfl

theorem beginPlay_continuation : (beginPlay k p b s).pipeline.continuation =
    (decide (p.edge = .butted) && (resolve (beginPlay k p b s)).continues) := by
  rw [beginPlay_eq, resolve_installLookahead, playCaptured_frame]
  rfl

theorem beginPlay_evidence : (beginPlay k p b s).capture = (playCaptured k p b s).capture ∧
    (beginPlay k p b s).pool = (playCaptured k p b s).pool ∧
    (beginPlay k p b s).events = (playCaptured k p b s).events ∧
    (beginPlay k p b s).summaries = (playCaptured k p b s).summaries := by
  rw [beginPlay_eq]
  exact ⟨rfl, rfl, rfl, rfl⟩

end PlayStart

/-! ## The end of the schedule (R58) -/

theorem endSchedule_running (hr : s.run.state = .running) : endSchedule s =
    { s with
      run := { s.run with state := .holding }
      sequencer := (stand .ended s.schedule.length s).sequencer
      events := (raiseEvent .scheduleEnded s.schedule.length 0 s).events } := by
  have hevents := raiseEvent_events_congr .scheduleEnded s.schedule.length 0 (s := s)
    (t := stand .ended s.schedule.length s) rfl rfl
  simp only [endSchedule, raiseEvent_run, stand_run, hr, if_true]
  rw [raiseEvent_eq, hevents]
  rfl

end Sys2Proof.Machine
end

section
/-! PROOF. The resumed run's entry start and the missing segment (R54 to R58, R63, R64): O31. -/

namespace Sys2Proof.Machine

open Sys2Proof

variable {s t : State} {tag : Byte}

/-! ## The effective action (R138) -/

/-- R134: the order of the effective actions, none below every class. -/
def actionRank : Option FaultClass → Nat
  | none => 0
  | some c => classCode c + 1

theorem actionRank_worseAction (a : Option FaultClass) (c : FaultClass) :
    actionRank (worseAction a c) = max (actionRank a) (actionRank (some c)) := by
  rcases a with _ | a
  · simp [worseAction, actionRank]
  · simp only [worseAction]
    split <;> simp only [actionRank] <;> omega

theorem classCode_injective : ∀ a b : FaultClass, classCode a = classCode b → a = b := by
  intro a b
  cases a <;> cases b <;> decide

theorem eq_of_actionRank {a b : Option FaultClass} (h : actionRank a = actionRank b) : a = b := by
  rcases a with _ | a <;> rcases b with _ | b <;> simp only [actionRank] at h
  · rfl
  · omega
  · omega
  · rw [classCode_injective a b (by omega)]

theorem actionRank_foldl_le (es : List FaultEntry) (a : Option FaultClass) (n : Nat) :
    actionRank (es.foldl (fun a e => if e.active then worseAction a e.cls else a) a) ≤ n ↔
      actionRank a ≤ n ∧ ∀ e ∈ es, e.active = true → actionRank (some e.cls) ≤ n := by
  induction es generalizing a with
  | nil => simp
  | cons e es ih =>
    rw [List.foldl_cons, ih, List.forall_mem_cons, ← and_assoc]
    refine and_congr_left' ?_
    split
    · next h => rw [actionRank_worseAction, max_le_iff]; simp [h]
    · next h => simp [h]

/-- R138: the effective action is the most severe class of an active source. -/
theorem actionRank_effectiveAction_le {entries : Vector FaultEntry 38} {n : Nat} :
    actionRank (effectiveAction entries) ≤ n ↔
      ∀ k, k < 38 → (tget entries k).active = true → actionRank (some (tget entries k).cls) ≤ n := by
  have hget (k : Nat) (hk : k < 38) : tget entries k = entries.toList[k]'(by simpa using hk) := by
    rw [tget_eq_getElem _ hk, Vector.getElem_toList]
  rw [effectiveAction, actionRank_foldl_le]
  refine ⟨fun ⟨_, h⟩ k hk => ?_, fun h => ⟨Nat.zero_le _, fun e he => ?_⟩⟩
  · rw [hget k hk]
    exact h _ (List.getElem_mem _)
  · obtain ⟨k, hk, rfl⟩ := List.getElem_of_mem he
    have hk' : k < 38 := by simpa using hk
    rw [← hget k hk']
    exact h k hk'

section OneSource
variable {entries : Vector FaultEntry 38} {k : Nat} {e : FaultEntry} (hk : k < 38)
include hk

/-- R138: the effective action after one source's entry is replaced, by what the others come to. -/
theorem actionRank_tset_le {n : Nat} : actionRank (effectiveAction (tset entries k e)) ≤ n ↔
    (e.active = true → actionRank (some e.cls) ≤ n) ∧
      ∀ j, j < 38 → j ≠ k → (tget entries j).active = true → actionRank (some (tget entries j).cls) ≤ n := by
  rw [actionRank_effectiveAction_le]
  refine ⟨fun h => ⟨?_, fun j hj hne => ?_⟩, fun ⟨hown, hother⟩ j hj => ?_⟩
  · simpa only [tget_tset_same _ _ hk] using h k hk
  · simpa only [tget_tset_ne _ _ hne] using h j hj
  · rw [tget_tset _ _ _ _ hk]
    split
    · exact hown
    · next hne => exact hother j hj hne

/-- R138: a raise makes the effective action the more severe of what it was and the source's class. -/
theorem effectiveAction_raise (hi : (tget entries k).active = false) (he : e.active = true) :
    actionRank (effectiveAction (tset entries k e)) =
      max (actionRank (effectiveAction entries)) (actionRank (some e.cls)) := by
  refine eq_of_forall_ge_iff fun n => ?_
  rw [actionRank_tset_le hk, max_le_iff, actionRank_effectiveAction_le, and_comm]
  refine and_congr ⟨fun h j hj hact => ?_, fun h j hj _ => h j hj⟩ (by simp [he])
  exact h j hj (fun hjk => by rw [hjk, hi] at hact; cases hact) hact

/-- R138: where a source of class PAUSE ends, the effective action stays or is at most PAUSE. -/
theorem effectiveAction_end (hc : (tget entries k).cls = .pause) (he : e.active = false) :
    effectiveAction (tset entries k e) = effectiveAction entries ∨
      actionRank (effectiveAction (tset entries k e)) ≤ 2 := by
  by_cases hmild : actionRank (effectiveAction (tset entries k e)) ≤ 2
  · exact .inr hmild
  refine .inl (eq_of_actionRank (eq_of_forall_ge_iff fun n => ?_))
  rw [actionRank_tset_le hk, actionRank_effectiveAction_le]
  refine ⟨fun ⟨_, h⟩ j hj hact => ?_, fun h => ⟨fun hact => ?_, fun j hj _ => h j hj⟩⟩
  · by_cases hjk : j = k
    · have hle : actionRank (effectiveAction (tset entries k e)) ≤ n :=
        (actionRank_tset_le hk).2 ⟨fun hact => absurd hact (by simp [he]), h⟩
      rw [hjk, hc]
      exact le_trans (by decide : actionRank (some .pause) ≤ 3) (le_trans (by omega) hle)
    · exact h j hj hjk hact
  · rw [he] at hact
    cases hact

end OneSource

/-! ## Handing the action to the run controller (R138) -/

theorem formAction_same (h : effectiveAction s.faults.entries = s.faults.action) : formAction s = s := if_pos h

/-- R138: an effective action of at most PAUSE moves no run. -/
theorem formAction_mild (h : actionRank (effectiveAction s.faults.entries) ≤ 2) : formAction s = setAction s := by
  unfold formAction
  split
  · next he => rw [setAction, he]
  · rcases hact : effectiveAction s.faults.entries with _ | c
    · rfl
    · cases c <;> simp [hact, actionRank, classCode] at h <;> rfl

theorem formAction_hands {a : Option FaultClass} (h : effectiveAction s.faults.entries = a) (hne : a ≠ s.faults.action) :
    formAction s = handAction a (setAction s) := by
  rw [formAction, if_neg (by rw [h]; exact hne), h]

theorem freeze_standsIdle (s : State) : (freeze s).run.state = .frozen ∧ (freeze s).sequencer.phase = .idle ∧
    (freeze s).sequencer.cursor = s.sequencer.cursor := by
  obtain ⟨hframe, -, hseq, -⟩ := aborted_abortEntry
    (pressureFall { s with run := { s.run with state := .frozen, unload := .idle } })
  have hfreeze : freeze s = freezePipeline (endWait (abortEntry
    (pressureFall { s with run := { s.run with state := .frozen, unload := .idle } }))) := rfl
  have hrun : (freeze s).run.state = (abortEntry
      (pressureFall { s with run := { s.run with state := .frozen, unload := .idle } })).run.state := by
    rw [hfreeze, endWait_frame]; rfl
  have hsequencer : (freeze s).sequencer = (abortEntry
      (pressureFall { s with run := { s.run with state := .frozen, unload := .idle } })).sequencer := by
    rw [hfreeze, endWait_frame]; rfl
  rw [hrun, hsequencer, hseq, hframe]
  exact ⟨rfl, rfl, rfl⟩

theorem enterUnloading_standsIdle (s : State) : (enterUnloading s).run.state = .unloading ∧
    (enterUnloading s).sequencer.phase = .idle ∧ (enterUnloading s).sequencer.cursor = s.sequencer.cursor := by
  have h := stoppedInto_stopInto .unloading s
  rw [enterUnloading_eq, h.run, h.sequencer]
  exact ⟨rfl, rfl, rfl⟩

/-! ## A missing segment (R56) -/

/-- R134: SEGMENT_MISSING's entry while it is active for subject `n`. -/
def missingEntry (n : Nat) (s : State) : FaultEntry := { source s 35 with active := true, subject := BitVec.ofNat 16 n }

/-- R134: SEGMENT_MISSING is active and reported; nothing has been done about it yet. -/
def missingRaised (n : Nat) (s : State) : State :=
  raiseEvent .faultRaised 35 (faultValue (missingEntry n s)) (setEntry 35 (missingEntry n s) s)

section Missing
variable {i g : Nat} (ha : s.config.mode = .active) (hi : (source s 35).active = false)
include ha hi

/-- R56: under NOTE the raise is reported and nothing stays active. -/
theorem skipEntry_eq : skipEntry i g s = raiseEvent .entrySkipped i g (raiseEvent .faultRaised 35
    (faultValue { source s 35 with subject := BitVec.ofNat 16 (i * 64 + g) })
    { s with sequencer := { s.sequencer with carried := none } }) := by
  have hactive : (!isActive { s with sequencer := { s.sequencer with carried := none } } ||
      (source { s with sequencer := { s.sequencer with carried := none } } 35).active) = false := by
    rw [Bool.or_eq_false_iff, Bool.not_eq_false']
    exact ⟨decide_eq_true ha, hi⟩
  unfold skipEntry raiseEnded
  rw [if_neg (by rw [hactive]; exact Bool.false_ne_true)]
  rfl

theorem skipEntry_frame : skipEntry i g s =
    { s with sequencer := { s.sequencer with carried := none }, events := (skipEntry i g s).events } := by
  rw [skipEntry_eq ha hi, raiseEvent_eq, raiseEvent_eq]

theorem skipEntry_events (hc : (source s 35).cls = .note) : (skipEntry i g s).events = (raiseEvent .entrySkipped i g
    (raiseEvent .faultRaised 35 (BitVec.ofNat 16 (i * 64 + g)).toNat s)).events := by
  have hvalue : faultValue { source s 35 with subject := BitVec.ofNat 16 (i * 64 + g) } =
      (BitVec.ofNat 16 (i * 64 + g)).toNat := by
    rw [faultValue, hc, classCode, Nat.zero_mul, Nat.zero_add]
  rw [skipEntry_eq ha hi, hvalue]
  exact raiseEvent_events_congr _ _ _ (raiseEvent_events_congr _ _ _ rfl rfl)
    (by rw [raiseEvent_timebase, raiseEvent_timebase])

theorem raise_missing (n : Nat) : raise 35 n s = setFaultLine (formAction
    (if (source s 35).cls = .pause then joinSet 35 (missingRaised n s) else missingRaised n s)) := by
  have hactive : (!isActive s || (source s 35).active) = false := by
    rw [Bool.or_eq_false_iff, Bool.not_eq_false']
    exact ⟨decide_eq_true ha, hi⟩
  unfold raise
  rw [if_neg (by rw [hactive]; exact Bool.false_ne_true)]
  rfl

omit ha in
/-- R138: what the raise makes of the effective action. -/
theorem effectiveAction_missing (n : Nat) :
    actionRank (effectiveAction (tset s.faults.entries 35 (missingEntry n s))) =
      max (actionRank (effectiveAction s.faults.entries)) (actionRank (some (source s 35).cls)) :=
  effectiveAction_raise (by omega) hi rfl

end Missing

theorem missingRaised_eq (n : Nat) (s : State) : missingRaised n s =
    { s with
      faults := { s.faults with entries := tset s.faults.entries 35 (missingEntry n s) }
      events := (missingRaised n s).events } := raiseEvent_eq _ _ _ _

theorem joinSet_notInForce {k : Nat} (hr : s.run.state = .running) (hf : inForce s = false) :
    joinSet k s = enterPaused { s with run := { s.run with sources := insertNum k s.run.sources } } := by
  have hforce : inForce { s with run := { s.run with sources := insertNum k s.run.sources } } = false := hf
  rw [joinSet, pauseJoined, if_pos hr, hforce]
  rfl

section Waits
variable {i g : Nat} (ha : s.config.mode = .active) (hi : (source s 35).active = false)
  (hr : s.run.state = .running) (hlaw : actionLaw s = true) (hmild : actionRank s.faults.action ≤ 2)
include ha hi hr hlaw hmild

/-- R56: under PAUSE the run is PAUSED, waiting at the entry. -/
theorem waitEntry_pause (hc : (source s 35).cls = .pause) :
    (waitEntry i g s).run = { s.run with state := .paused, sources := insertNum 35 s.run.sources } ∧
      (waitEntry i g s).sequencer.phase = .awaiting ∧ (waitEntry i g s).sequencer.cursor = i ∧
      source (waitEntry i g s) 35 = missingEntry (i * 64 + g) s := by
  have heff := effectiveAction_missing (s := s) hi (i * 64 + g)
  rw [hc, ← of_decide_eq_true hlaw] at heff
  have hwait : waitEntry i g s = _ := raise_missing (s := stand .awaiting i s) ha hi (i * 64 + g)
  rw [if_pos (show (source (stand .awaiting i s) 35).cls = .pause from hc), joinSet_notInForce (by rw [missingRaised_eq]; exact hr) (by rw [missingRaised_eq]; rfl),
    formAction_mild (by rw [missingRaised_eq]; exact heff.trans_le (max_le hmild (by decide))), missingRaised_eq] at hwait
  rw [hwait]
  exact ⟨rfl, rfl, rfl, tget_tset_same _ _ (by omega)⟩

omit hr in
/-- R56, R138: under STOP or TRIP the raised fault is handed to the run controller. -/
theorem waitEntry_hands {c : FaultClass} (hc : (source s 35).cls = c) (hsevere : 2 ≤ classCode c) :
    waitEntry i g s =
      setFaultLine (handAction (some c) (setAction (missingRaised (i * 64 + g) (stand .awaiting i s)))) := by
  have heff := effectiveAction_missing (s := s) hi (i * 64 + g)
  have hrank : actionRank (some c) = classCode c + 1 := rfl
  rw [hc, ← of_decide_eq_true hlaw, max_eq_right (by omega)] at heff
  have hnew : effectiveAction (missingRaised (i * 64 + g) (stand .awaiting i s)).faults.entries = some c := by
    rw [missingRaised_eq]
    exact eq_of_actionRank heff
  have hne : some c ≠ (missingRaised (i * 64 + g) (stand .awaiting i s)).faults.action := by
    rw [missingRaised_eq]
    intro h
    have hle : actionRank (some c) ≤ 2 := (congrArg actionRank h).trans_le hmild
    omega
  have hpause : (source (stand .awaiting i s) 35).cls ≠ .pause := fun h => by
    rw [← hc, show (source s 35).cls = .pause from h] at hsevere
    exact absurd hsevere (by decide)
  have hwait : waitEntry i g s = _ := raise_missing (s := stand .awaiting i s) ha hi (i * 64 + g)
  rw [if_neg hpause, formAction_hands hnew hne] at hwait
  exact hwait

/-- R56, R102: under STOP the run is UNLOADING. -/
theorem waitEntry_stop (hc : (source s 35).cls = .stop) : (waitEntry i g s).run.state = .unloading ∧
    (waitEntry i g s).sequencer.phase = .idle ∧ (waitEntry i g s).sequencer.cursor = i := by
  have hrun : (setAction (missingRaised (i * 64 + g) (stand .awaiting i s))).run.state = .running := by
    rw [missingRaised_eq]
    exact hr
  have hstop : handAction (some .stop) (setAction (missingRaised (i * 64 + g) (stand .awaiting i s))) =
      enterUnloading (setAction (missingRaised (i * 64 + g) (stand .awaiting i s))) := by
    simp only [handAction, stopAction, hrun]
  obtain ⟨hstate, hphase, hcursor⟩ :=
    enterUnloading_standsIdle (setAction (missingRaised (i * 64 + g) (stand .awaiting i s)))
  rw [waitEntry_hands ha hi hlaw hmild hc (by decide), hstop]
  exact ⟨hstate, hphase, hcursor.trans (by rw [missingRaised_eq]; rfl)⟩

omit hr in
/-- R56, R104: under TRIP the run is FROZEN. -/
theorem waitEntry_trip (hc : (source s 35).cls = .trip) : (waitEntry i g s).run.state = .frozen ∧
    (waitEntry i g s).sequencer.phase = .idle ∧ (waitEntry i g s).sequencer.cursor = i := by
  obtain ⟨hstate, hphase, hcursor⟩ := freeze_standsIdle (setAction (missingRaised (i * 64 + g) (stand .awaiting i s)))
  rw [waitEntry_hands ha hi hlaw hmild hc (by decide)]
  exact ⟨hstate, hphase, hcursor.trans (by rw [missingRaised_eq]; rfl)⟩

end Waits

/-! ## The run is RUNNING again (R92, R94) -/

/-- R94: a PAUSED run whose pause-reason set has become empty is RUNNING, and goes on from where it stood. -/
def resumedRun (s : State) : State :=
  { s with
    run := { s.run with state := .running }
    events := (raiseEvent .runResumed s.sequencer.cursor 0 s).events }

theorem pauseEmptied_paused (he : pauseEmpty s = true) (hr : s.run.state = .paused)
    (hp : s.sequencer.phase ≠ .inEntry) : pauseEmptied s = proceed (resumedRun s) := by
  have hevents := raiseEvent_events_congr .runResumed s.sequencer.cursor 0 (s := s)
    (t := { s with run := { s.run with state := .running } }) rfl rfl
  have hresumed : raiseEvent .runResumed s.sequencer.cursor 0 { s with run := { s.run with state := .running } } =
      resumedRun s := by
    rw [raiseEvent_eq, hevents]
    rfl
  simp only [pauseEmptied, he, hr, if_true, hresumed, enterRunning]
  exact congrArg proceed (callReads_not_inEntry hp)

/-- R94: the state in which a RUN_RESUME that empties the pause-reason set looks for the entry to start. -/
def hostLeft (tag : Byte) (s : State) : State := resumedRun { withTaken 0x42 tag s with run := { s.run with host := false } }

theorem exec_runResume (h : linkFree s = true) (ha : s.config.mode = .active) :
    exec (.runResume tag []) s = .next (settle (runReply .ok (leaveHost (withTaken 0x42 tag s)))) := by
  rw [exec, execRunResume, onRequest_onRun (n := 0) h ha rfl (by omega)]

/-- What the request's reply is sent from. -/
def resumeAnswered (tag : Byte) (s x : State) : State :=
  settle { x with link := answered s 0x42 tag .ok (.run (runBlock x)) }

/-- R54, R94: where HOST was the only pause reason of a PAUSED run with no entry in force, the entry start is made. -/
theorem exec_runResume_advances {i : Nat} (h : linkFree s = true) (ha : s.config.mode = .active)
    (hr : s.run.state = .paused) (hh : s.run.host = true) (hs : s.run.sources = [])
    (hj : s.sequencer.joinPending = false) (hc : s.capture.closing = false)
    (hi : (s.sequencer.phase = .awaiting ∧ i = s.sequencer.cursor) ∨
      (s.sequencer.phase = .spent ∧ i = s.sequencer.cursor + 1)) :
    exec (.runResume tag []) s = .next (resumeAnswered tag s (advance advanceFuel i (hostLeft tag s))) := by
  have hphase : s.sequencer.phase ≠ .inEntry := by
    rcases hi with ⟨hp, -⟩ | ⟨hp, -⟩ <;> rw [hp] <;> decide
  have hleave : leaveHost (withTaken 0x42 tag s) = proceed (hostLeft tag s) := by
    rw [leaveHost, if_pos hh]
    exact pauseEmptied_paused (s := { withTaken 0x42 tag s with run := { s.run with host := false } })
      (by simp [pauseEmpty, hs]) hr hphase
  have hproceed : proceed (hostLeft tag s) = advance advanceFuel i (hostLeft tag s) := by
    rcases hi with ⟨hp, rfl⟩ | ⟨hp, rfl⟩
    · exact proceed_awaiting hc hj rfl hp
    · exact proceed_spent hc hj rfl hp
  have hlink : (advance advanceFuel i (hostLeft tag s)).link = taken s 0x42 tag .answered :=
    (outer_parts (outer_advance advanceFuel i)).2.2.2.2.2.2.2.2.2.1
  rw [exec_runResume h ha, hleave, hproceed, runReply_taken hlink]
  rfl

theorem runBlock_resumeAnswered (tag : Byte) (s x : State) :
    (resumeAnswered tag s x).link = answered s 0x42 tag .ok (.run (runBlock (resumeAnswered tag s x))) := by
  rw [resumeAnswered, settle_link, runBlock, runBlock, isActive, isActive, pauseSet, pauseSet, settle_run,
    settle_config]

section Answered
variable {x u : State} {k : Nat}

/-- R52: a started entry as the answered request leaves it. -/
theorem resumeAnswered_started (tag : Byte) (s : State) (h : EntryStarted k u x) (hr : u.run.state = .running) :
    (resumeAnswered tag s x).run.state = .running ∧ (resumeAnswered tag s x).sequencer.phase = .inEntry ∧
      (resumeAnswered tag s x).sequencer.cursor = k ∧ (resumeAnswered tag s x).sequencer.position = 0 ∧
      (resumeAnswered tag s x).sequencer.entry = some k ∧
      (resumeAnswered tag s x).sequencer.lookahead = some (resolve (resumeAnswered tag s x)) ∧
      (resumeAnswered tag s x).pipeline.taper = u.pipeline.taper := by
  have hresolve : resolve (resumeAnswered tag s x) = resolve x := by
    rw [resumeAnswered, resolve_settle]
    exact resolve_congr (by exact ⟨rfl, rfl, rfl, rfl⟩)
  have hrun : (resumeAnswered tag s x).run = u.run := (settle_run _).trans h.run
  have hseq : (resumeAnswered tag s x).sequencer = x.sequencer := settle_sequencer _
  have hpipe : (resumeAnswered tag s x).pipeline = x.pipeline := settle_pipeline _
  have hlook : x.sequencer.lookahead = some (resolve x) := by rw [h.sequencer]
  rw [hresolve, hrun, hseq, hpipe, hlook, h.taper, h.sequencer]
  exact ⟨hr, rfl, rfl, rfl, rfl, rfl, rfl⟩

theorem resumeAnswered_dwells (tag : Byte) (s u : State) (k d : Nat) :
    (resumeAnswered tag s (beginDwell k d u)).pipeline.params = some (.dwell d) ∧
      (resumeAnswered tag s (beginDwell k d u)).pipeline.continuation = false ∧
      (resumeAnswered tag s (beginDwell k d u)).events = u.events ∧
      (resumeAnswered tag s (beginDwell k d u)).schedule = u.schedule := by
  rw [resumeAnswered, settle_pipeline, settle_events, settle_schedule]
  exact ⟨rfl, rfl, rfl, rfl⟩

end Answered

/-- R158: the summary that opens for a play, with the record that opened for it. -/
def summaryOpened (entry seg : Nat) (captureId : Option Nat) (s : State) : OpenSummary :=
  { ordinal := satInc s.summaries.ordinal, entry := entry, seg := seg, captureId := captureId, playFrames := 0
    feedback := Vector.replicate 32 .none, memoryErrors := Vector.replicate 16 0 }

/-- R158: the summaries once a play has begun. -/
def summariesOpened (o : OpenSummary) (s : State) : Summaries :=
  { s.summaries with ordinal := satInc s.summaries.ordinal, opened := some o }

theorem playHanded_summaries (k : Nat) (p : PlayEntry) (b : Bool) (s : State) :
    (playHanded k p b s).summaries = summariesOpened (summaryOpened k p.seg none s) s := rfl

/-- R55, R149, R158: what a play's start makes of the summaries and, where its entry asks for it, of the capture unit. -/
theorem playCaptured_evidence (k : Nat) (p : PlayEntry) (b : Bool) (s : State) :
    ∃ id, (playCaptured k p b s).summaries = summariesOpened (summaryOpened k p.seg id s) s ∧
      (p.capture = false → id = none ∧ (playCaptured k p b s).capture = s.capture ∧
        (playCaptured k p b s).events = s.events) ∧
      ∀ u, p.capture = true → opensAlike s u → s.events = u.events → s.timebase = u.timebase →
        u.summaries = summariesOpened (summaryOpened k p.seg none s) s →
        (playCaptured k p b s).capture = (openCapture k p.seg u).capture ∧
        (playCaptured k p b s).pool = (openCapture k p.seg u).pool ∧
        (playCaptured k p b s).events = (openCapture k p.seg u).events ∧
        (playCaptured k p b s).summaries = (openCapture k p.seg u).summaries := by
  rcases hcap : p.capture
  · have hplain : playCaptured k p b s = playHanded k p b s := if_neg (by simp [hcap])
    rw [hplain]
    exact ⟨none, rfl, fun _ => ⟨rfl, rfl, rfl⟩, fun _ h => absurd h Bool.false_ne_true⟩
  · have hopens : playCaptured k p b s = openCapture k p.seg (playHanded k p b s) := if_pos hcap
    obtain ⟨id, hid⟩ := openCapture_summaries k p.seg (playHanded_summaries k p b s ▸ rfl :
      (playHanded k p b s).summaries.opened = some (summaryOpened k p.seg none s)) rfl
    rw [hopens]
    refine ⟨id, hid, fun h => absurd h.symm Bool.false_ne_true, fun u _ halike hevents htime hsum => ?_⟩
    exact openCapture_congr (t := playHanded k p b s) (s := u) k p.seg halike hevents htime hsum.symm

theorem playParams_eq (k : Nat) (p : PlayEntry) (b : Bool) (d : SegData) : playParams k p b d =
    { entry := k, seg := p.seg, channels := d.channels, ratio := d.ratio, pages := d.pages
      first := (p.range.getD (0, d.frames - 1)).1, last := (p.range.getD (0, d.frames - 1)).2, gain := p.gain
      edge := p.edge
      length := ((p.range.getD (0, d.frames - 1)).2 - (p.range.getD (0, d.frames - 1)).1 + 1) * d.ratio, byJoin := b
      joinFailed := false, substituted := false } := by
  simp only [playParams, rangeOf_eq]

/-- R55: a play that begins, as the answered request leaves it. -/
theorem resumeAnswered_plays (tag : Byte) (s u : State) (k : Nat) (p : PlayEntry) (hid : p.seg < 64) :
    let t := resumeAnswered tag s (beginPlay k p false u)
    descriptor t p.seg = { descriptor u p.seg with inPlay := true } ∧
      t.pipeline.params = some (.play (playParams k p false (descriptor u p.seg).data)) ∧
      t.pipeline.continuation = (decide (p.edge = .butted) && (resolve t).continues) ∧
      ∀ c, c < 16 → (tget t.pipeline.channels c).clampCount = 0 ∧ (tget t.pipeline.channels c).slewCount = 0 := by
  intro t
  have hsegs : t.segments = (beginPlay k p false u).segments := settle_segments _
  have hpipe : t.pipeline = (beginPlay k p false u).pipeline := settle_pipeline _
  have hresolve : resolve t = resolve (beginPlay k p false u) :=
    resolve_congr ⟨settle_schedule _, congrArg Sequencer.cursor (settle_sequencer _), hsegs, by rw [hpipe]⟩
  refine ⟨?_, ?_, ?_, fun c hc => ?_⟩
  · rw [descriptor, hsegs, beginPlay_segments, tget_tset_same _ _ hid]
  · rw [hpipe, beginPlay_params]
  · rw [hpipe, hresolve, beginPlay_continuation]
  · rw [hpipe, beginPlay_channels, zeroCounts, tget_tmap _ _ hc]
    exact ⟨rfl, rfl⟩

theorem resumeAnswered_evidence (tag : Byte) (s u : State) (k : Nat) (p : PlayEntry) :
    let t := resumeAnswered tag s (beginPlay k p false u)
    t.capture = (playCaptured k p false u).capture ∧ t.pool = (playCaptured k p false u).pool ∧
      t.events = (playCaptured k p false u).events ∧ t.summaries = (playCaptured k p false u).summaries := by
  obtain ⟨hcap, hpool, hevents, hsum⟩ := beginPlay_evidence k p false u
  exact ⟨(settle_capture _).trans hcap, (settle_pool _).trans hpool, (settle_events _).trans hevents,
    (settle_summaries _).trans hsum⟩

/-! ## The missing segment's verification ends well (R57, R97) -/

theorem endSource_faults {k : Nat} (s : State) : (endSource k s).faults =
    { s.faults with entries := tset s.faults.entries k { source s k with active := false, subject := 0 } } := by
  simp only [endSource, raiseEvent_faults]
  split <;> rfl

/-- R57, R136: SEGMENT_MISSING has ended and left the pause-reason set; nothing has gone on yet. -/
def missingEnded (s : State) : State := leaveSet 35 (endSource 35 s)

theorem missingEnded_eq (s : State) : missingEnded s =
    { s with
      run := { s.run with sources := s.run.sources.filter (fun k => k ≠ 35) }
      faults := { s.faults with
        entries := tset s.faults.entries 35 { source s 35 with active := false, subject := 0 } }
      events := (missingEnded s).events } := by
  rw [missingEnded, leaveSet, endSource_frame (by omega), endSource_faults]

/-- R138: an ended source of class PAUSE moves no run; the effective action may fall. -/
theorem formAction_ended {q : State} (hlaw : actionLaw s = true) (hc : (source s 35).cls = .pause)
    (hq : q.faults = (missingEnded s).faults) : ∃ a, formAction q = { q with faults := { q.faults with action := a } } := by
  have hended := effectiveAction_end (entries := s.faults.entries) (k := 35)
    (e := { source s 35 with active := false, subject := 0 }) (by omega) hc rfl
  have hentries : q.faults.entries = tset s.faults.entries 35 { source s 35 with active := false, subject := 0 } := by
    rw [hq, missingEnded_eq]
  have haction : q.faults.action = effectiveAction s.faults.entries := by
    rw [hq, missingEnded_eq]
    exact of_decide_eq_true hlaw
  rw [← hentries, ← haction] at hended
  rcases hended with hsame | hmild
  · exact ⟨q.faults.action, formAction_same hsame⟩
  · exact ⟨_, formAction_mild hmild⟩

theorem faultEnd_missing (ha : (source s 35).active = true) (hc : (source s 35).cls = .pause) :
    faultEnd 35 s = setFaultLine (formAction (pauseEmptied (missingEnded s))) := by
  simp only [faultEnd, ha, hc, if_true]
  rfl

theorem recheckMissing_ends {p : PlayEntry} (ha : (source s 35).active = true) (hp : s.sequencer.phase = .awaiting)
    (he : s.schedule[s.sequencer.cursor]? = some (.play p)) (hok : startCheck p s = true) :
    recheckMissing p.seg s = faultEnd 35 s := by
  simp only [recheckMissing, ha, hp, he, hok, and_self, if_true]

/-- R57, R92, R97: what follows SEGMENT_MISSING's end in a PAUSED run: the entry starts unless another pause reason is
left. -/
theorem pauseEmptied_missingEnded {p : PlayEntry} (hr : s.run.state = .paused) (hp : s.sequencer.phase = .awaiting)
    (hj : s.sequencer.joinPending = false) (hc : s.capture.closing = false)
    (he : s.schedule[s.sequencer.cursor]? = some (.play p)) (hok : startCheck p s = true) :
    pauseEmptied (missingEnded s) =
      if s.run.host = false ∧ s.run.sources.filter (fun k => k ≠ 35) = [] then
        beginPlay s.sequencer.cursor p false (resumedRun (missingEnded s))
      else missingEnded s := by
  have hm := missingEnded_eq s
  have hempty : pauseEmpty (missingEnded s) = true ↔
      s.run.host = false ∧ s.run.sources.filter (fun k => k ≠ 35) = [] := by
    rw [hm]
    simp [pauseEmpty]
  split
  · next h =>
    obtain ⟨n, hn⟩ := advanceFuel_eq
    have hproceed : proceed (resumedRun (missingEnded s)) =
        advance advanceFuel (missingEnded s).sequencer.cursor (resumedRun (missingEnded s)) :=
      proceed_awaiting (by rw [hm]; exact hc) (by rw [hm]; exact hj) rfl (by rw [hm]; exact hp)
    have hdesc : descriptor (resumedRun (missingEnded s)) p.seg = descriptor s p.seg := by rw [hm]; rfl
    rw [pauseEmptied_paused (hempty.2 h) (by rw [hm]; exact hr) (by rw [hm, hp]; decide), hproceed, hn,
      advance_play (by rw [hm]; exact he) (by rw [startCheck, hdesc]; exact hok), hm]
  · next h => rw [pauseEmptied, if_neg (mt hempty.1 h)]

/-- R31, R57: the verification of the waiting entry's segment ends well. -/
theorem verifyRead_missing {p : PlayEntry} {rest : List Target} {o : ReadOutcome} {samples : List Sample}
    (hq : s.verifier.queue = { seg := p.seg, repl := false } :: rest)
    (ho : o ≠ .uncorrectable)
    (hlast : (descriptor s p.seg).data.count * (descriptor s p.seg).data.frames ≤ 4 * (s.verifier.nextWord + 1))
    (hcrc : crc32Final (crc32Samples s.verifier.crc (samples.take
      ((descriptor s p.seg).data.count * (descriptor s p.seg).data.frames - s.verifier.entered))) =
        (descriptor s p.seg).data.expected) : verifyRead o samples s =
      recheckMissing p.seg (readyTarget { seg := p.seg, repl := false } s) := by
  simp only [verifyRead, hq, if_neg ho]
  have hdata : targetData { seg := p.seg, repl := false } s = (descriptor s p.seg).data := rfl
  rw [hdata, SegData.size, if_pos hlast, if_pos hcrc]

/-- R31: what the readied target leaves as the wait at the entry finds it. -/
theorem readyTarget_spares {id : Nat} (hl : s.sequencer.lookahead = none) (hid : id < 64) :
    let y := readyTarget { seg := id, repl := false } s
    y.faults = s.faults ∧ y.run = s.run ∧ y.sequencer = s.sequencer ∧ y.schedule = s.schedule ∧ y.capture = s.capture ∧
      (descriptor y id).state = .ready ∧ (descriptor y id).data.frames = (descriptor s id).data.frames := by
  have hready : readyTarget { seg := id, repl := false } s = _ := segChanged_ready (u := { seg := id, repl := false }) hl
    { descriptor s id with
      state := .ready
      data := { (descriptor s id).data with dataCrc := some (descriptor s id).data.expected } } 0
  rw [hready]
  refine ⟨by simp, by simp, by simp, by simp, by simp, ?_, ?_⟩ <;>
    rw [descriptor_raiseEvent, descriptor_setDescriptor_same _ hid]

/-- R57, R97: the end of SEGMENT_MISSING, once its segment's verification has ended well, as the answered read leaves it. -/
theorem faultEnd_missing_goesOn {p : PlayEntry} (hid : p.seg < 64) (hactive : (source s 35).active = true)
    (hc : (source s 35).cls = .pause) (hlaw : actionLaw s = true) (hr : s.run.state = .paused)
    (hp : s.sequencer.phase = .awaiting) (hj : s.sequencer.joinPending = false) (hcap : s.capture.closing = false)
    (he : s.schedule[s.sequencer.cursor]? = some (.play p)) (hok : startCheck p s = true) :
    let t := settle (faultEnd 35 s)
    (source t 35).active = false ∧
      (if s.run.host = false ∧ s.run.sources.filter (fun k => k ≠ 35) = [] then
        t.run = { s.run with state := .running, sources := [] } ∧ t.sequencer.phase = .inEntry ∧
          t.sequencer.cursor = s.sequencer.cursor ∧ (descriptor t p.seg).inPlay = true
      else t.run = { s.run with sources := s.run.sources.filter (fun k => k ≠ 35) } ∧
        t.sequencer.phase = .awaiting) := by
  let x := pauseEmptied (missingEnded s)
  have hx : x = _ := pauseEmptied_missingEnded hr hp hj hcap he hok
  have hxfaults : x.faults = (missingEnded s).faults := by
    rw [hx]
    split
    · exact (entryStarted_beginPlay _ p false _).faults
    · rfl
  obtain ⟨a, ha⟩ := formAction_ended (q := x) hlaw hc hxfaults
  have hend : faultEnd 35 s = setFaultLine { x with faults := { x.faults with action := a } } :=
    (faultEnd_missing hactive hc).trans (congrArg setFaultLine ha)
  have hgone : (source x 35).active = false := by
    rw [source, hxfaults, missingEnded_eq, tget_tset_same _ _ (by omega)]
  rw [hend]
  dsimp only
  rw [settle_run, settle_sequencer, descriptor_settle, source, settle_faults]
  refine ⟨hgone, ?_⟩
  split
  · next hempty =>
    rw [if_pos hempty] at hx
    have hstart := entryStarted_beginPlay s.sequencer.cursor p false (resumedRun (missingEnded s))
    have hrun : x.run = { s.run with state := .running, sources := [] } := by
      rw [hx, hstart.run, resumedRun, missingEnded_eq, hempty.2]
    have hseq : x.sequencer.phase = .inEntry ∧ x.sequencer.cursor = s.sequencer.cursor := by
      rw [hx, hstart.sequencer]
      exact ⟨rfl, rfl⟩
    have hplay : (descriptor x p.seg).inPlay = true := by
      rw [hx, descriptor, beginPlay_segments, tget_tset_same _ _ hid]
    exact ⟨hrun, hseq.1, hseq.2, hplay⟩
  · next hleft =>
    rw [if_neg hleft] at hx
    have hrun : x.run = { s.run with sources := s.run.sources.filter (fun k => k ≠ 35) } := by
      rw [hx, missingEnded_eq]
    have hseq : x.sequencer.phase = .awaiting := by
      rw [hx, missingEnded_eq]
      exact hp
    exact ⟨hrun, hseq⟩

/-- Settles O31: a RUN_RESUME that empties the pause-reason set comes to `advance` (`exec_runResume_advances`), and each
entry is read off its step; a missing segment's raise is `skipEntry` or `waitEntry`, its end `faultEnd_missing`. -/
theorem entriesStartByTheirKind : Obligations.EntriesStartByTheirKind := by
  unfold Obligations.EntriesStartByTheirKind
  refine ⟨fun tag i s h ha hr hh hs hj hc hi hmissing hlaw haction => ?_, ?_⟩
  · intro resumed started dwells
    let u := hostLeft tag s
    have hresumed : u.events = resumed.events := raiseEvent_events_congr _ _ _ rfl rfl
    have hevents (k : EventKind) (n v : Nat) : (raiseEvent k n v u).events = (raiseEvent k n v resumed).events :=
      raiseEvent_events_congr k n v hresumed (by rw [raiseEvent_timebase]; rfl)
    have hstarted {v x : State} {k : Nat} (hx : EntryStarted k v x) (hrun : v.run = u.run)
        (htaper : v.pipeline.taper = s.pipeline.taper) : started (resumeAnswered tag s x) k := by
      have hstands := resumeAnswered_started tag s hx (by rw [hrun]; rfl)
      rw [htaper] at hstands
      exact hstands
    have hdwells {v : State} {k d : Nat} {events : EventQueue} (hrun : v.run = u.run)
        (htaper : v.pipeline.taper = s.pipeline.taper) (he : v.events = events) :
        dwells (resumeAnswered tag s (beginDwell k d v)) k d events := by
      obtain ⟨hparams, hcont, hev, -⟩ := resumeAnswered_dwells tag s v k d
      exact ⟨hstarted (entryStarted_beginDwell k d v) hrun htaper, hparams, hcont, hev.trans he⟩
    obtain ⟨n, hn⟩ := advanceFuel_eq
    refine ⟨_, exec_runResume_advances h ha hr hh hs hj hc hi, runBlock_resumeAnswered tag s _, ?_⟩
    rw [hn]
    refine ⟨fun he => ?_, fun d he => ?_, fun v d he hd => ?_, fun j c m d he => ?_, fun p he hid => ?_⟩
    · rw [advance_end (s := hostLeft tag s) he, endSchedule_running (s := hostLeft tag s) rfl, resumeAnswered,
        settle_run, settle_sequencer, settle_events]
      exact ⟨rfl, rfl, rfl, rfl, hevents _ _ _⟩
    · rw [advance_dwell (s := hostLeft tag s) he]
      exact ⟨hdwells rfl rfl hresumed, (resumeAnswered_dwells tag s _ i d).2.2.2⟩
    · have hd' : (raiseEvent .mark v.toNat i u).schedule[i + 1]? = some (.dwell d) := by
        rw [raiseEvent_schedule]
        exact hd
      rw [advance_mark (s := hostLeft tag s) he, advance_dwell hd']
      exact hdwells (raiseEvent_run _ _ _ _) (by rw [raiseEvent_pipeline]; rfl) (hevents _ _ _)
    · intro k hd
      let v : State := { u with schedule := s.schedule.set i (.rep j c (if 0 < m then m - 1 else c - 1)) }
      have hki : k ≠ i := by
        intro hki
        rw [hki, he] at hd
        cases hd
      have hpass : passRepeat i j c m u.schedule = (k, v.schedule) := by
        simp only [passRepeat, k, v]
        split <;> rfl
      have hd' : v.schedule[k]? = some (.dwell d) := (List.getElem?_set_ne hki.symm).trans hd
      have hadvance : advance (n + 2) i u = beginDwell k d v := by
        rw [advance_rep (n := n + 1) (s := u) he, hpass]
        exact advance_dwell hd'
      rw [hadvance]
      exact ⟨hdwells rfl rfl hresumed, (resumeAnswered_dwells tag s _ k d).2.2.2⟩
    · intro d range fits cls missing
      have hcheck : startCheck p u = true ↔ fits := startCheck_iff
      refine ⟨fun hfits => ?_, fun hno => ?_⟩
      · rw [advance_play (s := hostLeft tag s) he (hcheck.2 hfits)]
        obtain ⟨hdesc, hparams, hcont, hcounts⟩ := resumeAnswered_plays tag s u i p hid
        obtain ⟨hcap, hpool, hev, hsum⟩ := resumeAnswered_evidence tag s u i p
        obtain ⟨id, hsummary, hplain, hopened⟩ := playCaptured_evidence i p false u
        refine ⟨hstarted (entryStarted_beginPlay i p false u) rfl rfl, hdesc, ?_, hcont, hcounts,
          summaryOpened i p.seg id s, rfl, hsum.trans hsummary, ?_⟩
        · rw [hparams, playParams_eq]
          rfl
        · split
          · next hflag =>
            rw [hcap, hpool, hev, hsum]
            refine hopened _ hflag ⟨?_, ?_, ?_⟩ hresumed ?_ rfl <;>
              simp only [resumed, raiseEvent_config, raiseEvent_capture, raiseEvent_pool, raiseEvent_timebase] <;> rfl
          · next hflag =>
            obtain ⟨hnone, hcapture, hquiet⟩ := hplain (Bool.eq_false_of_not_eq_true hflag)
            exact ⟨hnone, hcap.trans hcapture, (hev.trans hquiet).trans hresumed⟩
      · have hfail : startCheck p u = false := Bool.eq_false_of_not_eq_true fun hok => hno (hcheck.1 hok)
        have hmild : actionRank s.faults.action ≤ 2 := by
          rcases haction with h | h | h <;> rw [h] <;> decide
        have hrun : u.run.state = .running := rfl
        let w := skipEntry i p.seg u
        have hw : w = { u with sequencer := { u.sequencer with carried := none }, events := w.events } :=
          skipEntry_frame (s := u) ha hmissing
        have hskip (hn : cls = .note) : advance (n + 2) i u = advance (n + 1) (i + 1) w := advance_noted he hfail hn
        have hwait (hn : cls ≠ .note) : advance (n + 2) i u = waitEntry i p.seg u := advance_waits he hfail hn
        refine ⟨fun hn e hnext => ?_, fun hn q hnext hq => ?_, fun hn => ?_, fun hn => ?_, fun hn => ?_⟩
        · have hev : w.events = (raiseEvent .entrySkipped i p.seg
              (raiseEvent .faultRaised 35 missing.toNat resumed)).events :=
            (skipEntry_events (s := u) ha hmissing hn).trans (raiseEvent_events_congr _ _ _ (hevents _ _ _)
              (by simp only [raiseEvent_timebase, resumed]; rfl))
          have hadvance : advance (n + 2) i u = beginDwell (i + 1) e w :=
            (hskip hn).trans (advance_dwell (by rw [hw]; exact hnext))
          rw [hadvance]
          refine ⟨hdwells (by rw [hw]) (by rw [hw]; rfl) hev, ?_⟩
          rw [source, resumeAnswered, settle_faults]
          have hfaults : w.faults = s.faults := by rw [hw]; rfl
          exact (congrArg (fun f => (tget f.entries 35).active) hfaults).trans hmissing
        · intro e hready hfitsq
          have hdesc : descriptor w q.seg = e := by rw [hw]; rfl
          have hadvance : advance (n + 2) i u = beginPlay (i + 1) q false w :=
            (hskip hn).trans (advance_play (by rw [hw]; exact hnext)
              (startCheck_iff.2 (by rw [hdesc]; exact ⟨hready, hfitsq⟩)))
          have hcarried : w.sequencer.carried = none := by rw [hw]
          have hfetch : (resumeAnswered tag s (beginPlay (i + 1) q false w)).sequencer.fetch =
              initialFetch (playParams (i + 1) q false e.data) none := by
            rw [resumeAnswered, settle_sequencer, ← hdesc, ← hcarried]
            exact beginPlay_fetch (i + 1) q false w
          rw [hadvance, hfetch, playParams_eq]
          exact ⟨hstarted (entryStarted_beginPlay (i + 1) q false w) (by rw [hw]) (by rw [hw]; rfl), rfl, rfl⟩
        · obtain ⟨hrun', hphase, hcursor, hsource⟩ := waitEntry_pause (s := u) (i := i) (g := p.seg) ha hmissing hrun hlaw
            hmild hn
          have hsrc : source (resumeAnswered tag s (waitEntry i p.seg u)) 35 = missingEntry (i * 64 + p.seg) u := by
            rw [source, resumeAnswered, settle_faults]
            exact hsource
          rw [hwait (by rw [hn]; decide), hsrc, resumeAnswered, settle_run, settle_sequencer]
          refine ⟨hrun'.trans ?_, hphase, hcursor, rfl, rfl⟩
          have hnone : insertNum 35 u.run.sources = [35] := congrArg (insertNum 35) hs
          rw [hnone, ← hr]
          rfl
        · rw [hwait (by rw [hn]; decide), resumeAnswered, settle_run, settle_sequencer]
          exact waitEntry_stop (s := u) ha hmissing hrun hlaw hmild hn
        · rw [hwait (by rw [hn]; decide), resumeAnswered, settle_run, settle_sequencer]
          exact waitEntry_trip (s := u) ha hmissing hlaw hmild hn
  · intro w index found rest p s hu hw hid hl ha hg hq hactive hc hlaw hr hp hj hcap he d hfits ho hlast hcrc
    let v := scrubbed (storeRead w found s.store).2 s.sweep s
    let y := readyTarget { seg := p.seg, repl := false } v
    obtain ⟨hfaults, hrun, hseq, hsched, hcapture, hready, hframes⟩ := readyTarget_spares (s := v) hl hid
    have hsource : source y 35 = source s 35 := by rw [source, hfaults]; rfl
    have hactive' : (source y 35).active = true := by rw [hsource]; exact hactive
    have hentry : y.schedule[y.sequencer.cursor]? = some (.play p) := by rw [hsched, hseq]; exact he
    have hok : startCheck p y = true := startCheck_iff.2 ⟨hready, fun r hrange => by rw [hframes]; exact hfits r hrange⟩
    have hphase : y.sequencer.phase = .awaiting := by rw [hseq]; exact hp
    have hread : verifyRead (outcomeAt s.store w found) (wordSamples s.store w) v = faultEnd 35 y :=
      (verifyRead_missing (s := v) hq ho hlast hcrc).trans (recheckMissing_ends hactive' hphase hentry hok)
    have hgoesOn := faultEnd_missing_goesOn hid hactive' (by rw [hsource]; exact hc) (by rw [actionLaw, hfaults]; exact hlaw)
      (by rw [hrun]; exact hr) hphase (by rw [hseq]; exact hj) (by rw [hcapture]; exact hcap) hentry hok
    have hrun' : y.run = s.run := hrun
    have hcursor : y.sequencer.cursor = s.sequencer.cursor := by rw [hseq]; rfl
    rw [hrun', hcursor] at hgoesOn
    refine ⟨_, exec_memoryRead_verify found hu hw hg, ?_⟩
    rw [hread]
    exact hgoesOn

end Sys2Proof.Machine
end

section
/-! PROOF. The normal end of an entry (R59): the summary and the record that close with its play, and what the advance
that follows leaves alone. -/

namespace Sys2Proof.Machine

variable {s t u x : State}

/-! ## The summary that closes (R160, R161) -/

/-- R161: a queued summary is the last of the queue. -/
theorem queueSummary_last (m : Summary) (s : State) : (queueSummary m s).summaries.queue.getLast? = some m := by
  rw [queueSummary, raiseEvent_summaries]
  split <;> exact List.getLast?_concat

theorem queueSummary_events (m : Summary) (s : State) :
    (queueSummary m s).events = (raiseEvent .summaryQueued m.entry m.ordinal.toNat s).events := by
  rw [queueSummary]
  exact raiseEvent_events_congr _ _ _ (by split <;> rfl) (by split <;> rfl)

theorem closeSummary_opened (a j : Bool) {o : OpenSummary} (ho : s.summaries.opened = some o) : closeSummary a j s =
    queueSummary (closedSummary a j o s) (zeroCounts { s with summaries := { s.summaries with opened := none } }) := by
  simp only [closeSummary, ho]

section PlayEnd
variable {p : PlayParams} (a j : Bool) {o : OpenSummary}
  (hl : s.sequencer.lookahead = none) (hp : s.pipeline.params = some (.play p)) (ho : s.summaries.opened = some o)
include hl hp

omit hl in
theorem endPlay_summaries :
    (endPlay a j s).summaries = (closeSummary a j (endSegPlay p.seg (withdrawReads .play s))).summaries := by
  rw [endPlay_play a j hp, closeCapture_eq]
  rfl

include ho

/-- R160, R161: the play's summary is the last of the queue. -/
theorem endPlay_lastSummary : ∃ m, (endPlay a j s).summaries.queue.getLast? = some m ∧ m.ordinal = o.ordinal ∧
    m.aborted = a ∧ m.joined = j ∧ m.playFrames = o.playFrames ∧ m.counter = s.timebase.counter := by
  have honly := (judgesOnly_endSegPlay (s := withdrawReads .play s) (id := p.seg) hl).2
  have hopened : (endSegPlay p.seg (withdrawReads .play s)).summaries.opened = some o := by rw [honly]; exact ho
  have htime : (endSegPlay p.seg (withdrawReads .play s)).timebase = s.timebase := by rw [honly]; rfl
  refine ⟨closedSummary a j o (endSegPlay p.seg (withdrawReads .play s)), ?_, rfl, rfl, rfl, rfl, ?_⟩
  · rw [endPlay_summaries a j hp, closeSummary_opened a j hopened]
    exact queueSummary_last _ _
  · rw [closedSummary, htime]

/-- R38, R161: the events of a play's end: the swap's, if one waits, then the summary's. -/
theorem endPlay_events : (endPlay a j s).events =
    (raiseEvent .summaryQueued o.entry o.ordinal.toNat { s with events := endedEvents p.seg s }).events := by
  have honly := (judgesOnly_endSegPlay (s := withdrawReads .play s) (id := p.seg) hl).2
  have hevents := endSegPlay_events (s := withdrawReads .play s) (id := p.seg) hl
  have hended : endedEvents p.seg (withdrawReads .play s) = endedEvents p.seg s := by
    unfold endedEvents
    have hdesc : descriptor (withdrawReads .play s) p.seg = descriptor s p.seg := rfl
    rw [hdesc]
    split
    · exact raiseEvent_events_congr _ _ _ rfl rfl
    · rfl
  have hopened : (endSegPlay p.seg (withdrawReads .play s)).summaries.opened = some o := by rw [honly]; exact ho
  have hclosed : (endPlay a j s).events = (closeSummary a j (endSegPlay p.seg (withdrawReads .play s))).events := by
    rw [endPlay_play a j hp, closeCapture_eq]
    rfl
  rw [hclosed, closeSummary_opened a j hopened, queueSummary_events]
  refine raiseEvent_events_congr _ _ _ (hevents.trans hended) ?_
  have htime : (endSegPlay p.seg (withdrawReads .play s)).timebase = s.timebase := by rw [honly]; rfl
  exact congrArg Timebase.counter htime

omit ho in
/-- R153: a normal end waits for the writes of the frame just captured. -/
theorem endPlay_closing : (endPlay false j s).capture.closing = !s.capture.ops.isEmpty := by
  have hcapture : (withoutPlay (summarized p false j s)).capture = s.capture := by
    have honly := (judgesOnly_endSegPlay (s := withdrawReads .play s) (id := p.seg) hl).2
    simp only [withoutPlay, summarized]
    rw [closeSummary_eq, honly]
    rfl
  rw [endPlay_play false j hp, closeCapture, hcapture, Bool.false_or]
  split
  · next h =>
    rw [h, closeRecord]
    split
    · rfl
    · split <;> rfl
  · next h => rw [Bool.eq_false_of_not_eq_true h]; rfl

end PlayEnd

/-! ## What an advance leaves alone -/

/-- What neither an advance nor a fault raised by it changes while no play is in progress: the closed summaries, and the
taper counter once it stands at 0. -/
def restsAtZero (s t : State) : Prop :=
  t.summaries.queue = s.summaries.queue ∧ (s.pipeline.taper = 0 → t.pipeline.taper = 0)

theorem restsAtZero.trans (h : restsAtZero s t) (h' : restsAtZero t u) : restsAtZero s u :=
  ⟨h'.1.trans h.1, fun hz => h'.2 (h.2 hz)⟩

theorem restsAtZero_of_eq (hs : t.summaries = s.summaries) (hp : t.pipeline = s.pipeline) : restsAtZero s t :=
  ⟨by rw [hs], fun hz => by rw [hp, hz]⟩

theorem abortEntry_summaries (hp : s.pipeline.params = none) (hj : s.sequencer.joinPending = false) :
    (abortEntry s).summaries = s.summaries := by
  have hwait : endJoinWait (voidLookahead s) = voidLookahead s :=
    endJoinWait_none (by rw [joinedSeg, if_neg]; exact fun h => Bool.false_ne_true (hj.symm.trans h))
  have hplay : endPlay true false (voidLookahead s) = voidLookahead s :=
    endPlay_noPlay _ _ fun p h => by
      have hnone : (voidLookahead s).pipeline.params = none := hp
      rw [hnone] at h
      cases h
  simp only [abortEntry, hwait, hplay]
  rfl

/-- R105: what the action STOP does to a run: UNLOADING, or nothing that touches the summaries or the pipeline. -/
theorem stopAction_moves (s : State) : stopAction s = enterUnloading s ∨
    ((stopAction s).summaries = s.summaries ∧ (stopAction s).pipeline = s.pipeline) := by
  cases hr : s.run.state with
  | stopped =>
    simp only [stopAction, hr]
    split
    · split
      · exact .inr ⟨by simp only [endStoppedDelay, raiseEvent_summaries]; rfl,
          by simp only [endStoppedDelay, raiseEvent_pipeline]; rfl⟩
      · exact .inr ⟨rfl, rfl⟩
    · exact .inr ⟨rfl, rfl⟩
  | unloading | frozen => exact .inr (by simp only [stopAction, hr, and_self])
  | starting | running | pausing | paused | holding | parking => exact .inl (by simp only [stopAction, hr])

section NoPlay
variable (hp : s.pipeline.params = none) (hj : s.sequencer.joinPending = false)
include hp hj

theorem restsAtZero_freeze : restsAtZero s (freeze s) := by
  have hfreeze : (freeze s).summaries = (abortEntry
      (pressureFall { s with run := { s.run with state := .frozen, unload := .idle } })).summaries := by
    rw [freeze, endWait_frame]; rfl
  exact ⟨congrArg Summaries.queue (hfreeze.trans (abortEntry_summaries hp hj)), fun _ => by rw [freeze, freezePipeline]⟩

theorem restsAtZero_enterUnloading : restsAtZero s (enterUnloading s) := by
  have hstop := stoppedInto_stopInto .unloading s
  have hsum : (enterUnloading s).summaries =
      (abortEntry { s with run := { s.run with state := .unloading } }).summaries := by
    rw [enterUnloading, endWait_frame]; rfl
  refine ⟨congrArg Summaries.queue (hsum.trans (abortEntry_summaries hp hj)), fun hz => ?_⟩
  rw [enterUnloading_eq, hstop.pipeline]
  exact hz

theorem restsAtZero_handAction (a : Option FaultClass) : restsAtZero s (handAction a s) := by
  unfold handAction
  split
  · exact restsAtZero_freeze hp hj
  · rcases stopAction_moves s with h | ⟨hsum, hpipe⟩
    · rw [h]
      exact restsAtZero_enterUnloading hp hj
    · exact restsAtZero_of_eq hsum hpipe
  · exact restsAtZero_of_eq rfl rfl

theorem restsAtZero_formAction : restsAtZero s (formAction s) := by
  unfold formAction
  split
  · exact restsAtZero_of_eq rfl rfl
  · exact (restsAtZero_of_eq rfl rfl).trans (restsAtZero_handAction (s := setAction s) hp hj _)

omit hp in
/-- A source that joins the pause-reason set may pause the run; nothing else moves. -/
theorem joinSet_spares (k : Nat) : (joinSet k s).summaries = s.summaries ∧ (joinSet k s).pipeline = s.pipeline ∧
    (joinSet k s).sequencer.joinPending = false := by
  unfold joinSet pauseJoined
  split
  · split <;> exact ⟨rfl, rfl, hj⟩
  · exact ⟨rfl, rfl, hj⟩

theorem restsAtZero_raise (k n : Nat) : restsAtZero s (raise k n s) := by
  unfold raise
  dsimp only
  split
  · exact restsAtZero_of_eq rfl rfl
  · let e : FaultEntry := { source s k with active := true, subject := BitVec.ofNat 16 n }
    let w := raiseEvent .faultRaised k (faultValue e) (setEntry k e s)
    have hw : w.summaries = s.summaries ∧ w.pipeline = s.pipeline ∧ w.sequencer.joinPending = false :=
      ⟨raiseEvent_summaries _ _ _ _, raiseEvent_pipeline _ _ _ _,
        (congrArg Sequencer.joinPending (raiseEvent_sequencer _ _ _ _)).trans hj⟩
    obtain ⟨hsum, hpipe, hjoin⟩ : (if e.cls = .pause then joinSet k w else w).summaries = s.summaries ∧
        (if e.cls = .pause then joinSet k w else w).pipeline = s.pipeline ∧
        (if e.cls = .pause then joinSet k w else w).sequencer.joinPending = false := by
      split
      · obtain ⟨hsum, hpipe, hjoin⟩ := joinSet_spares (s := w) hw.2.2 k
        exact ⟨hsum.trans hw.1, hpipe.trans hw.2.1, hjoin⟩
      · exact hw
    have hform := restsAtZero_formAction (s := if e.cls = .pause then joinSet k w else w) (by rw [hpipe, hp]) hjoin
    exact ((restsAtZero_of_eq hsum hpipe).trans hform).trans (u := setFaultLine _) (restsAtZero_of_eq rfl rfl)

end NoPlay

theorem raiseEnded_spares (k n : Nat) : (raiseEnded k n s).summaries = s.summaries ∧
    (raiseEnded k n s).pipeline = s.pipeline ∧ (raiseEnded k n s).sequencer = s.sequencer := by
  unfold raiseEnded
  split
  · exact ⟨rfl, rfl, rfl⟩
  · exact ⟨raiseEvent_summaries _ _ _ _, raiseEvent_pipeline _ _ _ _, raiseEvent_sequencer _ _ _ _⟩

/-- R158: a play's beginning closes no summary. -/
theorem beginPlay_queue (k : Nat) (q : PlayEntry) (b : Bool) (s : State) :
    (beginPlay k q b s).summaries.queue = s.summaries.queue := by
  obtain ⟨id, hsum, -⟩ := playCaptured_evidence k q b s
  rw [(beginPlay_evidence k q b s).2.2.2, hsum, summariesOpened]

theorem restsAtZero_beginPlay (k : Nat) (q : PlayEntry) (b : Bool) : restsAtZero s (beginPlay k q b s) :=
  ⟨beginPlay_queue k q b s, fun hz => by rw [(entryStarted_beginPlay k q b s).taper, hz]⟩

theorem restsAtZero_endSchedule : restsAtZero s (endSchedule s) := by
  unfold endSchedule
  dsimp only
  split
  · exact restsAtZero_of_eq (raiseEvent_summaries _ _ _ _) (raiseEvent_pipeline _ _ _ _)
  · exact restsAtZero_of_eq (raiseEvent_summaries _ _ _ _) (raiseEvent_pipeline _ _ _ _)

/-- R54: an advance with no play in progress closes no summary and leaves a taper counter of 0. -/
theorem restsAtZero_advance (n i : Nat) (hp : s.pipeline.params = none) : restsAtZero s (advance n i s) := by
  induction n generalizing i s with
  | zero => exact restsAtZero_of_eq rfl rfl
  | succ n ih =>
    rcases he : s.schedule[i]? with _ | (q | d | ⟨j, c, m⟩ | v)
    · rw [advance_end he]
      exact restsAtZero_endSchedule
    · rcases hok : startCheck q s
      · by_cases hc : (source s 35).cls = .note
        · rw [advance_noted he hok hc]
          obtain ⟨hsum, hpipe, -⟩ := raiseEnded_spares (s := { s with sequencer := { s.sequencer with carried := none } })
            35 (i * 64 + q.seg)
          have hskip : (skipEntry i q.seg s).summaries = s.summaries ∧ (skipEntry i q.seg s).pipeline = s.pipeline :=
            ⟨(raiseEvent_summaries _ _ _ _).trans hsum, (raiseEvent_pipeline _ _ _ _).trans hpipe⟩
          exact (restsAtZero_of_eq hskip.1 hskip.2).trans (ih (i + 1) (by rw [hskip.2, hp]))
        · rw [advance_waits he hok hc]
          exact (restsAtZero_of_eq rfl rfl).trans (restsAtZero_raise (s := stand .awaiting i s) hp rfl _ _)
      · rw [advance_play he hok]
        exact restsAtZero_beginPlay i q false
    · rw [advance_dwell he]
      exact ⟨rfl, fun hz => hz⟩
    · rw [advance_rep he]
      exact (restsAtZero_of_eq rfl rfl).trans (ih (s := { s with schedule := (passRepeat i j c m s.schedule).2 }) _ hp)
    · rw [advance_mark he]
      exact (restsAtZero_of_eq (raiseEvent_summaries _ _ _ _) (raiseEvent_pipeline _ _ _ _)).trans
        (ih (i + 1) (by rw [raiseEvent_pipeline, hp]))

/-- R53: so does whatever the sequencer does next. -/
theorem restsAtZero_proceed (hp : s.pipeline.params = none) : restsAtZero s (proceed s) := by
  unfold proceed
  split
  · exact restsAtZero_of_eq rfl rfl
  · split
    · split
      · exact restsAtZero_beginPlay _ _ _
      · exact restsAtZero_of_eq rfl rfl
    · split
      · split
        · exact restsAtZero_advance _ _ hp
        · exact restsAtZero_advance _ _ hp
        · exact restsAtZero_of_eq rfl rfl
      · exact restsAtZero_of_eq rfl rfl

/-! ## An entry is left (R52, R59) -/

/-- R59, R60: a PLAY's play has ended and the sequencer has left the entry. -/
def entryLeft (phase : Phase) (joined : Bool) (s : State) : State := leaveEntry phase (endPlay false joined s)

theorem endEntry_eq (p : PlayParams) (s : State) :
    endEntry p s = proceed (entryLeft (if p.joinFailed then .awaiting else .spent) false s) := rfl

/-- What leaving an entry touches, its play's end included. -/
theorem entryLeft_frame {p : PlayParams} (phase : Phase) (j : Bool) (hl : s.sequencer.lookahead = none)
    (hp : s.pipeline.params = some (.play p)) : entryLeft phase j s =
      { s with
        store := (entryLeft phase j s).store, pool := (entryLeft phase j s).pool
        arbiter := (entryLeft phase j s).arbiter, sweep := (entryLeft phase j s).sweep
        segments := (entryLeft phase j s).segments, capture := (entryLeft phase j s).capture
        summaries := (entryLeft phase j s).summaries, events := (entryLeft phase j s).events
        sequencer := { s.sequencer with
          phase := phase, position := 0, entry := none
          carried := (entryLeft phase j s).sequencer.carried, fetch := (entryLeft phase j s).sequencer.fetch }
        pipeline := { s.pipeline with channels := (entryLeft phase j s).pipeline.channels, params := none } } := by
  have hends := endsOnly_endPlay (s := s) false j hl
  have hpipe : (endPlay false j s).pipeline = { s.pipeline with
      channels := (endPlay false j s).pipeline.channels, params := none } := by
    rw [endPlay_pipeline false j hl hp]
  have hparams : (endPlay false j s).pipeline.params = none := by rw [hpipe]
  unfold endsOnly at hends
  rw [hparams] at hends
  unfold entryLeft
  rw [hends]
  rfl

end Sys2Proof.Machine
end

section
/-! PROOF. The frame boundary that closes no missed window and waits for no memory operation (R68, R71), up to the
sequencer's report and after it. -/

namespace Sys2Proof.Machine

variable {s x : State}

/-! ## The frame given (R68, R71) -/

/-- R68, R116, R197: the frame is formed and sent, and a snapshot latched. -/
def formed (s : State) : State := latchSnapshot (sendFrame (formFrame (openWindow (tick s))))

/-- R71: the state in which the sequencer takes the report of the frame. -/
def framed (s : State) : State := reportEvidence (frameKind s) (formed s)

/-- R10, R55: what closes a boundary. -/
def boundaryLeft (x : State) : State := settle (callReads x)

/-- R68, R71: what a boundary that closes no missed window and waits for no operation comes to. -/
def quietBoundary (s : State) : State :=
  boundaryLeft (reportRun (frameKind s) s.run.state (frameTaper (frameKind s) s)
    (reportSequencer (frameKind s) (framed s)))

theorem exec_frameBoundary_quiet (missFirst : Bool) (hu : s.life = .up) (ha : s.config.mode = .active)
    (hd : nothingDue s) (hm : closesNoMiss s) : exec (.frameBoundary missFirst) s = .next (quietBoundary s) := by
  have hexec : exec (.frameBoundary missFirst) s = .next (boundary missFirst s) := if_pos (decide_eq_true hu)
  have hgive : giveFrame (openWindow (tick s)) = _ := giveFrame_active ha
  rw [hexec, boundary_quiet missFirst hd hm, hgive]
  rfl

/-- R71: the run controller's report on a frame of a RUNNING run. -/
theorem reportRun_running (k : FrameKind) (i : Nat) (x : State) : reportRun k .running i x = x := rfl

/-- R96: a PAUSING run becomes PAUSED at a frame of taper counter 0. -/
def pausesAt (i : Nat) (x : State) : State := if i = 0 then enterPaused x else x

theorem reportRun_pausing (k : FrameKind) (i : Nat) (hx : x.run.state = .pausing) :
    reportRun k .pausing i x = pausesAt i x := by
  simp only [reportRun, hx, true_and, pausesAt]

theorem pausesAt_frame (i : Nat) (x : State) : pausesAt i x =
    { x with
      run := { x.run with state := if i = 0 then .paused else x.run.state }
      sequencer := { x.sequencer with carried := (pausesAt i x).sequencer.carried } } := by
  unfold pausesAt
  split <;> rfl

theorem reportRun_above (k : FrameKind) {was : RunState} {i : Nat} (x : State) (hw : was = .running ∨ was = .pausing)
    (hi : i ≠ 0) : reportRun k was i x = x := by
  rcases hw with rfl | rfl
  · rfl
  · simp only [reportRun, hi, and_false, if_false]

theorem reportRun_frame (k : FrameKind) {was : RunState} (i : Nat) (x : State) (hw : was = .running ∨ was = .pausing) :
    reportRun k was i x =
      { x with
        run := (reportRun k was i x).run
        sequencer := { x.sequencer with carried := (reportRun k was i x).sequencer.carried } } := by
  rcases hw with rfl | rfl
  · rfl
  · simp only [reportRun]
    split <;> rfl

/-- R96: the run once the run controller has taken the report. -/
theorem reportRun_run (k : FrameKind) (i : Nat) (hw : x.run.state = .running ∨ x.run.state = .pausing) :
    (reportRun k x.run.state i x).run =
      { x.run with state := if x.run.state = .pausing ∧ i = 0 then .paused else x.run.state } := by
  rcases hw with h | h
  · rw [h, reportRun_running, if_neg (fun hc => RunState.noConfusion hc.1), ← h]
  · rw [h, reportRun_pausing _ _ h, pausesAt_frame]
    simp only [h, true_and]

theorem formed_frame (s : State) : formed s =
    { s with
      timebase := (tick s).timebase, rig := (formed s).rig, link := (formed s).link
      pipeline := (formFrame s).pipeline } := by
  rw [formed, latchSnapshot_eq, sendFrame, formFrame_eq]
  rfl

theorem framed_idle (h : isPlayFrame (frameKind s) = false) : framed s = formed s := reportEvidence_of_not_play h _

/-- R159: the open summary once a play frame has entered it. -/
def accumulated (o : OpenSummary) (s : State) : OpenSummary :=
  { o with
    playFrames := satInc o.playFrames
    feedback := tmap (fun i f => accumulateStat (tget s.rig.feedback i) f) o.feedback }

/-- R159: what the report of a play frame leaves the capture unit to see. -/
def accumulatedFrame (o : OpenSummary) (s : State) : State :=
  { formed s with summaries := { s.summaries with opened := some (accumulated o s) } }

section PlayFrame
variable {o : OpenSummary} (hk : isPlayFrame (frameKind s) = true) (ho : s.summaries.opened = some o)
include hk ho

theorem framed_play : framed s =
    if isCaptured (frameKind s) (formed s) then captureFrame (accumulatedFrame o s) else accumulatedFrame o s := by
  have hrig : (formed s).rig.feedback = s.rig.feedback := by
    rw [formed, latchSnapshot_eq]
    rfl
  have hsum : (formed s).summaries = s.summaries := by rw [formed_frame]
  have hacc : accumulate (formed s) = accumulatedFrame o s := by
    unfold accumulate accumulatedFrame
    rw [hsum, ho]
    simp only [accumulated, hrig]
  simp only [framed, reportEvidence, hk, if_true, hacc]

/-- R71: what a play frame touches before the sequencer's report. -/
theorem framed_frame : framed s =
    { s with
      timebase := (tick s).timebase, rig := (framed s).rig, link := (framed s).link
      pipeline := (formFrame s).pipeline
      summaries := { s.summaries with opened := some (accumulated o s) }
      capture := (framed s).capture, pool := (framed s).pool, events := (framed s).events } := by
  rw [framed_play hk ho]
  split
  · rw [captureFrame_eq, accumulatedFrame, formed_frame]
  · rw [accumulatedFrame, formed_frame]

end PlayFrame

/-! ## After the reports -/

theorem boundaryLeft_frame (x : State) : boundaryLeft x =
    { x with
      arbiter := (boundaryLeft x).arbiter, sweep := (boundaryLeft x).sweep
      sequencer := { x.sequencer with fetch := (boundaryLeft x).sequencer.fetch } } := by
  rw [boundaryLeft, settle_eq, callReads_eq]

theorem boundaryLeft_summaries (x : State) : (boundaryLeft x).summaries = x.summaries := by rw [boundaryLeft_frame]

theorem descriptor_boundaryLeft (x : State) (id : Nat) : descriptor (boundaryLeft x) id = descriptor x id := by
  rw [boundaryLeft_frame]
  rfl

theorem resolve_boundaryLeft (x : State) : resolve (boundaryLeft x) = resolve x := by
  refine resolve_congr ⟨?_, ?_, ?_, ?_⟩ <;> rw [boundaryLeft_frame]

/-! ## The frame kinds of an entry in force (R69) -/

section Kind
variable (hr : s.run.state = .running ∨ s.run.state = .pausing)
include hr

theorem frameKind_play {p : PlayParams} (hp : s.pipeline.params = some (.play p)) :
    frameKind s = if s.sequencer.position < p.length then .play else .runOut := by
  rcases hr with h | h <;> simp only [frameKind, h, hp]

theorem frameKind_dwell {d : Nat} (hp : s.pipeline.params = some (.dwell d)) : frameKind s = .dwell := by
  rcases hr with h | h <;> simp only [frameKind, h, hp]

end Kind

/-! ## A captured frame (R150 to R152) -/

/-- R150: the frame now given is captured for record `r` in slot `j`. -/
def capturesInto (p : PlayParams) (j : Nat) (r : CaptureRecord) (s : State) : Prop :=
  s.capture.current = some j ∧ slot s j = some r ∧ r.state = .filling ∧
    (s.sequencer.position = p.length ∨ s.sequencer.position % p.ratio = 0)

/-- R150: nothing is captured while no record is filling. -/
theorem captureFrame_idle (h : ∀ j r, s.capture.current = some j → slot s j = some r → r.state ≠ .filling) :
    captureFrame s = s := by
  unfold captureFrame
  split
  · rfl
  · next j hj =>
    split
    · rfl
    · next r hr => rw [if_neg (h j r hj hr)]

theorem runOps_ne_nil (pages : List Nat) (start : Nat) {samples : List Sample} (h : samples ≠ []) :
    runOps pages start samples ≠ [] := by
  have hpos := List.length_pos_of_ne_nil h
  intro hnil
  have hlen := congrArg List.length hnil
  simp only [runOps, List.length_map, List.length_range, List.length_nil] at hlen
  omega

theorem captureValues_ne_nil {r : CaptureRecord} (h : 0 < maskCount r.channels) (t : State) : captureValues r t ≠ [] :=
  List.ne_nil_of_length_pos (by rw [captureValues, List.length_map]; exact h)

/-- R151: a captured frame's writes are made ready, where the record has room for it or a page can be had. -/
theorem captureFrame_issues {j : Nat} {r : CaptureRecord} (hj : s.capture.current = some j) (hr : slot s j = some r)
    (hf : r.state = .filling) (hc : 0 < maskCount r.channels)
    (hroom : (r.frames + 1) * maskCount r.channels ≤ 32768 * r.pages.length ∨ s.pool ≠ []) :
    (captureFrame s).capture.ops ≠ [] := by
  simp only [captureFrame, hj, hr, hf, if_true]
  split
  · next hfull =>
    rcases hpool : s.pool with _ | ⟨page, rest⟩
    · have hfits := hroom.resolve_right (not_not.mpr hpool)
      exact absurd hfull (Nat.not_lt.mpr hfits)
    · simp only [allocateOne, hpool]
      exact runOps_ne_nil _ _ (captureValues_ne_nil (r := { r with pages := r.pages ++ [page] }) hc _)
  · exact runOps_ne_nil _ _ (captureValues_ne_nil hc _)

section Capture
variable {o : OpenSummary} {p : PlayParams} (hk : isPlayFrame (frameKind s) = true) (ho : s.summaries.opened = some o)
  (hp : s.pipeline.params = some (.play p)) (hend : frameKind s = .runOut ↔ s.sequencer.position = p.length)
include hk ho hp hend

omit hk ho in
theorem isCaptured_iff : isCaptured (frameKind s) (formed s) = true ↔
    s.sequencer.position = p.length ∨ s.sequencer.position % p.ratio = 0 := by
  have hparams : (formed s).pipeline.params = some (.play p) := by rw [formed_frame]; exact hp
  have hpos : (formed s).sequencer.position = s.sequencer.position := by rw [formed_frame]
  simp only [isCaptured, hparams, hpos, Bool.or_eq_true, decide_eq_true_eq, hend]

/-- R150: a frame captured for no record leaves the capture unit and the events as they are. -/
theorem framed_quiet (hno : ∀ j r, ¬ capturesInto p j r s) :
    (framed s).capture = s.capture ∧ (framed s).events = s.events := by
  have hplain : (accumulatedFrame o s).capture = s.capture ∧ (accumulatedFrame o s).events = s.events := by
    rw [accumulatedFrame, formed_frame]
    exact ⟨rfl, rfl⟩
  rw [framed_play hk ho]
  split
  · next hcap =>
    have hwhen := (isCaptured_iff hp hend).1 hcap
    rw [captureFrame_idle fun j r hj hr hf => hno j r ⟨?_, ?_, hf, hwhen⟩]
    · exact hplain
    · rw [← hplain.1]; exact hj
    · rw [slot, ← hplain.1]; exact hr
  · exact hplain

theorem framed_issues {j : Nat} {r : CaptureRecord} (hcap : capturesInto p j r s) (hc : 0 < maskCount r.channels)
    (hroom : (r.frames + 1) * maskCount r.channels ≤ 32768 * r.pages.length ∨ s.pool ≠ []) :
    (framed s).capture.ops ≠ [] := by
  obtain ⟨hj, hr, hf, hwhen⟩ := hcap
  have hplain : (accumulatedFrame o s).capture = s.capture ∧ (accumulatedFrame o s).pool = s.pool := by
    rw [accumulatedFrame, formed_frame]
    exact ⟨rfl, rfl⟩
  rw [framed_play hk ho, if_pos ((isCaptured_iff hp hend).2 hwhen)]
  exact captureFrame_issues (by rw [hplain.1]; exact hj) (by rw [slot, hplain.1]; exact hr) hf hc (by rw [hplain.2]; exact hroom)

end Capture

end Sys2Proof.Machine
end

section
/-! PROOF. The last frames of an entry, its end and the join (R59 to R61, R37, R160, R153): O32. -/

namespace Sys2Proof.Machine

variable {s t u x y : State}

/-! ## What closes the boundary of an entry's end and of the next one's start -/

/-- R160, R161: the summary of the play that `o` was open for, ended normally at this boundary, is the last of the queue. -/
def summaryClosed (o : OpenSummary) (joined : Bool) (s t : State) : Prop :=
  ∃ m, t.summaries.queue.getLast? = some m ∧ m.ordinal = o.ordinal ∧ m.aborted = false ∧ m.joined = joined ∧
    m.playFrames = satInc o.playFrames ∧ m.counter = s.timebase.counter + 1

theorem summaryClosed_congr {o : OpenSummary} {j : Bool} (h : t.summaries.queue = u.summaries.queue) :
    summaryClosed o j s t ↔ summaryClosed o j s u := by rw [summaryClosed, summaryClosed, h]

/-- R52, R59: an entry has ended at the cursor, and the sequencer stands in `phase`. -/
def standsIn (phase : Phase) (s t : State) : Prop :=
  t.sequencer.phase = phase ∧ t.sequencer.cursor = s.sequencer.cursor ∧ t.sequencer.position = 0 ∧
    t.sequencer.entry = none ∧ t.sequencer.lookahead = none ∧ t.pipeline.params = none ∧
    t.pipeline.continuation = false ∧ t.schedule = s.schedule

/-- R52: at run control `run`, an entry has come into force at index `k`. -/
def entersAt (run : RunControl) (k : Nat) (t : State) : Prop :=
  t.run = run ∧ t.sequencer.phase = .inEntry ∧ t.sequencer.cursor = k ∧ t.sequencer.position = 0 ∧
    t.sequencer.entry = some k ∧ t.sequencer.lookahead = some (resolve t)

theorem entersAt_boundaryLeft {k : Nat} (h : EntryStarted k u x) : entersAt u.run k (boundaryLeft x) := by
  have hlook : x.sequencer.lookahead = some (resolve x) := by rw [h.sequencer]
  rw [entersAt, resolve_boundaryLeft, boundaryLeft_frame, ← h.run]
  refine ⟨rfl, ?_, ?_, ?_, ?_, hlook⟩ <;> rw [h.sequencer]

/-- R71: so it is where the run controller takes the boundary's report after the start. -/
theorem entersAt_reportRun {k i : Nat} {kind : FrameKind} {was : RunState} (h : EntryStarted k u x)
    (hw : was = .running ∨ was = .pausing) :
    entersAt (reportRun kind was i x).run k (boundaryLeft (reportRun kind was i x)) := by
  have hframe := reportRun_frame kind i x hw
  have hlook : x.sequencer.lookahead = some (resolve x) := by rw [h.sequencer]
  have hresolve : resolve (reportRun kind was i x) = resolve x := by
    refine resolve_congr ⟨?_, ?_, ?_, ?_⟩ <;> rw [hframe]
  rw [entersAt, resolve_boundaryLeft, hresolve, boundaryLeft_frame]
  refine ⟨rfl, ?_, ?_, ?_, ?_, ?_⟩ <;> rw [hframe]
  case refine_5 => exact hlook
  all_goals rw [h.sequencer]

section Advance
variable {k : Nat}

theorem advance_boundary_end (hr : u.run.state = .running) (h : u.schedule[k]? = none) :
    let t := boundaryLeft (advance advanceFuel k u)
    t.run = { u.run with state := .holding } ∧ t.sequencer.phase = .ended ∧
      t.sequencer.cursor = u.schedule.length ∧ t.sequencer.position = 0 ∧ t.pipeline.params = u.pipeline.params ∧
      t.segments = u.segments ∧ t.events = (raiseEvent .scheduleEnded u.schedule.length 0 u).events := by
  obtain ⟨n, hn⟩ := advanceFuel_eq
  rw [hn, advance_end h, endSchedule_running hr, boundaryLeft_frame]
  exact ⟨rfl, rfl, rfl, rfl, rfl, rfl, rfl⟩

theorem advance_boundary_dwell {d : Nat} (h : u.schedule[k]? = some (.dwell d)) :
    let t := boundaryLeft (advance advanceFuel k u)
    entersAt u.run k t ∧ t.pipeline.params = some (.dwell d) ∧ t.segments = u.segments ∧ t.events = u.events := by
  obtain ⟨n, hn⟩ := advanceFuel_eq
  rw [hn, advance_dwell h]
  refine ⟨entersAt_boundaryLeft (entryStarted_beginDwell k d u), ?_⟩
  rw [boundaryLeft_frame]
  exact ⟨rfl, rfl, rfl⟩

theorem advance_boundary_mark {v : BitVec 16} {d : Nat} (h : u.schedule[k]? = some (.mark v))
    (hd : u.schedule[k + 1]? = some (.dwell d)) :
    let t := boundaryLeft (advance advanceFuel k u)
    entersAt u.run (k + 1) t ∧ t.pipeline.params = some (.dwell d) ∧
      t.events = (raiseEvent .mark v.toNat k u).events := by
  obtain ⟨n, hn⟩ := advanceFuel_eq
  rw [hn, advance_mark h, advance_dwell (by rw [raiseEvent_schedule]; exact hd)]
  refine ⟨?_, ?_⟩
  · have hstart := entersAt_boundaryLeft (entryStarted_beginDwell (k + 1) d (raiseEvent .mark v.toNat k u))
    rw [raiseEvent_run] at hstart
    exact hstart
  · rw [boundaryLeft_frame]
    exact ⟨rfl, rfl⟩

theorem advance_boundary_play {q : PlayEntry} (h : u.schedule[k]? = some (.play q)) (hid : q.seg < 64)
    (hready : (descriptor u q.seg).state = .ready)
    (hfits : ∀ r, q.range = some r → r.2 < (descriptor u q.seg).data.frames) :
    let t := boundaryLeft (advance advanceFuel k u)
    entersAt u.run k t ∧ descriptor t q.seg = { descriptor u q.seg with inPlay := true } ∧
      t.pipeline.params = some (.play (playParams k q false (descriptor u q.seg).data)) := by
  obtain ⟨n, hn⟩ := advanceFuel_eq
  rw [hn, advance_play h (startCheck_iff.2 ⟨hready, hfits⟩)]
  refine ⟨entersAt_boundaryLeft (entryStarted_beginPlay k q false u), ?_⟩
  rw [boundaryLeft_frame, descriptor]
  refine ⟨?_, beginPlay_params k q false u⟩
  have hsegs := beginPlay_segments k q false u
  exact (congrArg (tget · q.seg) hsegs).trans (tget_tset_same _ _ hid)

end Advance

/-- R54, R59: an advance is made at index `k` from where the entry's end left the sequencer, the descriptors then those of
`table` and the events those of `told`; what it meets at `k`, if that is the end, a DWELL, a MARK before a DWELL or a
PLAY that starts. -/
def advancesFrom (phase : Phase) (k : Nat) (table : Nat → Descriptor) (told s t : State) : Prop :=
  (∃ u, t = settle (callReads (advance advanceFuel k u)) ∧ standsIn phase s u ∧ u.run = s.run ∧ u.faults = s.faults ∧
    u.events = told.events ∧ u.config = s.config ∧ ∀ id, id < 64 → descriptor u id = table id) ∧
  (s.schedule[k]? = none →
    t.run = { s.run with state := .holding } ∧ t.sequencer.phase = .ended ∧
      t.sequencer.cursor = s.schedule.length ∧ t.sequencer.position = 0 ∧ t.pipeline.params = none ∧
      t.events = (raiseEvent .scheduleEnded s.schedule.length 0 told).events) ∧
  (∀ d, s.schedule[k]? = some (.dwell d) →
    entersAt s.run k t ∧ t.pipeline.params = some (.dwell d) ∧ t.events = told.events) ∧
  (∀ v d, s.schedule[k]? = some (.mark v) → s.schedule[k + 1]? = some (.dwell d) →
    entersAt s.run (k + 1) t ∧ t.pipeline.params = some (.dwell d) ∧
      t.events = (raiseEvent .mark v.toNat k told).events) ∧
  ∀ q, s.schedule[k]? = some (.play q) → q.seg < 64 → (table q.seg).state = .ready →
    (∀ r, q.range = some r → r.2 < (table q.seg).data.frames) →
    entersAt s.run k t ∧ descriptor t q.seg = { table q.seg with inPlay := true } ∧
      t.pipeline.params = some (.play (playParams k q false (table q.seg).data))

/-- An advance that meets the end or a DWELL at once touches no segment. -/
theorem advancesFrom_descriptor {phase : Phase} {k id : Nat} {table : Nat → Descriptor} {told : State}
    (h : advancesFrom phase k table told s t) (hstate : s.run.state = .running)
    (hk : s.schedule[k]? = none ∨ ∃ d, s.schedule[k]? = some (.dwell d)) (hid : id < 64) : descriptor t id = table id := by
  obtain ⟨⟨u, ht, ⟨-, -, -, -, -, -, -, hsched⟩, hrun, -, -, -, htable⟩, -⟩ := h
  have hsegs : t.segments = u.segments := by
    rw [← hsched] at hk
    rcases hk with hk | ⟨d, hk⟩
    · obtain ⟨-, -, -, -, -, hsegs, -⟩ := advance_boundary_end (u := u) (k := k) (by rw [hrun]; exact hstate) hk
      exact ht ▸ hsegs
    · obtain ⟨-, -, hsegs, -⟩ := advance_boundary_dwell hk
      exact ht ▸ hsegs
  rw [← htable id hid, descriptor, hsegs, descriptor]

theorem advancesFrom_boundaryLeft {phase : Phase} {k : Nat} {table : Nat → Descriptor} {told : State}
    (hstands : standsIn phase s u) (hrun : u.run = s.run) (hstate : s.run.state = .running) (hfaults : u.faults = s.faults)
    (hevents : u.events = told.events) (hconfig : u.config = s.config)
    (htable : ∀ id, id < 64 → descriptor u id = table id) (hclock : u.timebase.counter = told.timebase.counter) :
    advancesFrom phase k table told s (boundaryLeft (advance advanceFuel k u)) := by
  have ⟨_, _, _, _, _, hparams, _, hsched⟩ := hstands
  have hraise (e : EventKind) (n v : Nat) : (raiseEvent e n v u).events = (raiseEvent e n v told).events :=
    raiseEvent_events_congr e n v hevents hclock
  refine ⟨⟨u, rfl, hstands, hrun, hfaults, hevents, hconfig, htable⟩, fun hk => ?_, fun d hk => ?_,
    fun v d hk hd => ?_, fun q hk hid hready hfits => ?_⟩
  · obtain ⟨hhold, hended, hcursor, hpos, hpar, -, hev⟩ := advance_boundary_end (u := u) (k := k)
      (by rw [hrun]; exact hstate) (by rw [hsched]; exact hk)
    rw [hsched] at hcursor hev
    exact ⟨hhold.trans (by rw [hrun]), hended, hcursor, hpos, hpar.trans hparams, hev.trans (hraise _ _ _)⟩
  · obtain ⟨henters, hpar, -, hev⟩ := advance_boundary_dwell (u := u) (by rw [hsched]; exact hk)
    rw [hrun] at henters
    exact ⟨henters, hpar, hev.trans hevents⟩
  · obtain ⟨henters, hpar, hev⟩ := advance_boundary_mark (u := u) (by rw [hsched]; exact hk)
      (by rw [hsched]; exact hd)
    rw [hrun] at henters
    exact ⟨henters, hpar, hev.trans (hraise _ _ _)⟩
  · obtain ⟨henters, hdesc, hpar⟩ := advance_boundary_play (u := u) (by rw [hsched]; exact hk) hid
      (by rw [htable _ hid]; exact hready) (by rw [htable _ hid]; exact hfits)
    rw [hrun] at henters
    rw [htable _ hid] at hdesc hpar
    exact ⟨henters, hdesc, hpar⟩

/-! ## The state in which an entry ends -/

/-- R59, R61: the state in which the sequencer has taken the report of the last frame of the play `p` so far: at drive
position P, its lookahead void. -/
def atEnd (p : PlayParams) (o : OpenSummary) (s y : State) : Prop :=
  y = { s with
    timebase := (tick s).timebase, rig := y.rig, link := y.link, arbiter := y.arbiter
    pipeline := { (formFrame s).pipeline with continuation := false }
    summaries := { s.summaries with opened := some (accumulated o s) }
    capture := (framed s).capture, pool := (framed s).pool, events := (framed s).events
    sequencer := { s.sequencer with position := p.length, lookahead := none, carried := y.sequencer.carried } }

/-- R59, R61: a frame after which the entry may end: its last drive frame, no join in prospect, or a run-out frame. -/
def mayEnd (p : PlayParams) (s : State) : Prop :=
  (s.sequencer.position = p.length ∧ s.sequencer.lookahead = none ∧ s.pipeline.continuation = false) ∨
    (s.sequencer.position + 1 = p.length ∧
      ¬ (p.edge = .butted ∧ ∃ l, s.sequencer.lookahead = some l ∧ l.continues = true))

theorem joinInProspect_iff {p : PlayParams} : joinInProspect p s = true ↔
    p.edge = .butted ∧ ∃ l, s.sequencer.lookahead = some l ∧ l.continues = true := by
  rw [joinInProspect, Bool.and_eq_true, decide_eq_true_eq]
  rcases hl : s.sequencer.lookahead with _ | l <;> simp

/-- R59: a play's last drive frame has been given. -/
def lastGiven (p : PlayParams) (s : State) : State :=
  { framed s with sequencer := { s.sequencer with position := p.length } }

theorem formFrame_taper (s : State) : (formFrame s).pipeline.taper = frameTaper (frameKind s) s := rfl

section Play
variable {p : PlayParams} {o : OpenSummary} (hr : s.run.state = .running ∨ s.run.state = .pausing)
  (hp : s.pipeline.params = some (.play p)) (ho : s.summaries.opened = some o)
include hr hp

theorem mayEnd_kind (he : s.sequencer.position = p.length ∨ s.sequencer.position + 1 = p.length) :
    isPlayFrame (frameKind s) = true ∧ (frameKind s = .runOut ↔ s.sequencer.position = p.length) := by
  rw [frameKind_play hr hp]
  split
  · exact ⟨rfl, nofun, fun h => by omega⟩
  · exact ⟨rfl, fun _ => by omega, fun _ => rfl⟩

include ho

theorem lastGiven_frame (hlast : s.sequencer.position + 1 = p.length) : lastGiven p s =
    { s with
      timebase := (tick s).timebase, rig := (framed s).rig, link := (framed s).link
      pipeline := (formFrame s).pipeline
      summaries := { s.summaries with opened := some (accumulated o s) }
      capture := (framed s).capture, pool := (framed s).pool, events := (framed s).events
      sequencer := { s.sequencer with position := p.length } } := by
  have hx := framed_frame (mayEnd_kind hr hp (.inr hlast)).1 ho
  have hlink : (lastGiven p s) = { framed s with sequencer := { s.sequencer with position := p.length } } := rfl
  rw [hx] at hlink
  exact hlink

/-- R59: the sequencer's report of a play's last drive frame. -/
theorem reportSequencer_last (hlast : s.sequencer.position + 1 = p.length) :
    reportSequencer (frameKind s) (framed s) =
      lastDriveFrame p (lastGiven p s) := by
  have hkind : frameKind s = .play := by rw [frameKind_play hr hp, if_pos (by omega)]
  have hx := framed_frame (mayEnd_kind hr hp (.inr hlast)).1 ho
  have hparams : (framed s).pipeline.params = some (.play p) := by rw [hx]; exact hp
  have hseq : (framed s).sequencer = s.sequencer := by rw [hx]
  rw [hkind]
  simp only [reportSequencer, hparams, hseq, hlast, if_true, lastGiven]

theorem atEnd_carryLookahead (hlast : s.sequencer.position + 1 = p.length) :
    atEnd p o s (carryLookahead (lastGiven p s)) := by
  rw [atEnd, lastGiven_frame hr hp ho hlast]
  rfl

/-- R59, R61: the report of such a frame ends the entry at taper counter 0; otherwise run-out frames follow. -/
theorem reported_atEnd (he : mayEnd p s) : ∃ y, atEnd p o s y ∧
    (frameTaper (frameKind s) s = 0 → reportSequencer (frameKind s) (framed s) = endEntry p y) ∧
    (frameTaper (frameKind s) s ≠ 0 → reportSequencer (frameKind s) (framed s) = y ∧
      y.sequencer.carried = s.sequencer.carried) := by
  have htaper := formFrame_taper s
  rcases he with ⟨hpos, hl, hcont⟩ | ⟨hlast, hno⟩
  · have hkind : frameKind s = .runOut := by rw [frameKind_play hr hp, if_neg (by omega)]
    have hx := framed_frame (mayEnd_kind hr hp (.inl hpos)).1 ho
    have hparams : (framed s).pipeline.params = some (.play p) := by rw [hx]; exact hp
    have hxtaper : (framed s).pipeline.taper = frameTaper (frameKind s) s := by rw [hx]; rfl
    have hatEnd : atEnd p o s (framed s) := by
      have hseq : s.sequencer = { s.sequencer with position := p.length, lookahead := none } := by rw [← hpos, ← hl]
      have hpipe : (formFrame s).pipeline = { (formFrame s).pipeline with continuation := false } := by
        rw [← hcont]; rfl
      rw [hpipe, hseq] at hx
      rw [atEnd, hx]
    have hreport : reportSequencer (frameKind s) (framed s) =
        if frameTaper (frameKind s) s = 0 then endEntry p (framed s) else framed s := by
      rw [← hxtaper, hkind]
      simp only [reportSequencer, hparams]
    refine ⟨framed s, hatEnd, fun hz => by rw [hreport, if_pos hz], fun hz => ⟨by rw [hreport, if_neg hz], ?_⟩⟩
    rw [hx]
  · have hx := lastGiven_frame hr hp ho hlast
    have hxtaper : (lastGiven p s).pipeline.taper = frameTaper (frameKind s) s := by rw [hx]; rfl
    have hreport : reportSequencer (frameKind s) (framed s) = if frameTaper (frameKind s) s = 0 then
        endEntry p (carryLookahead (lastGiven p s)) else voidLookahead (lastGiven p s) := by
      rw [reportSequencer_last hr hp ho hlast, lastDriveFrame, if_neg, ← hxtaper]
      rw [joinInProspect_iff, hx]
      exact hno
    by_cases hz : frameTaper (frameKind s) s = 0
    · exact ⟨carryLookahead (lastGiven p s), atEnd_carryLookahead hr hp ho hlast,
        fun _ => by rw [hreport, if_pos hz], fun h => absurd hz h⟩
    · refine ⟨voidLookahead (lastGiven p s), ?_, fun h => absurd h hz, fun _ => ⟨by rw [hreport, if_neg hz], ?_⟩⟩
      · rw [atEnd, hx]
        rfl
      · rw [hx]
        rfl

end Play

/-! ## The entry has ended (R59) -/

/-- R114: the frame counter has moved on. -/
def counted (s : State) : State := { s with timebase := { s.timebase with counter := s.timebase.counter + 1 } }

section Ended
variable {p : PlayParams} {o : OpenSummary} (phase : Phase) (j : Bool) (hy : atEnd p o s y)
  (hp : s.pipeline.params = some (.play p))
include hy

theorem atEnd_lookahead : y.sequencer.lookahead = none := by rw [hy]

theorem atEnd_opened : y.summaries.opened = some (accumulated o s) := by rw [hy]

theorem atEnd_descriptor (id : Nat) : descriptor y id = descriptor s id := by rw [hy]; rfl

include hp

theorem atEnd_params : y.pipeline.params = some (.play p) := by rw [hy]; exact hp

/-- R52, R59: what leaving the entry touches. -/
theorem entryLeft_atEnd : entryLeft phase j y =
    { s with
      timebase := (tick s).timebase, rig := y.rig, link := y.link
      store := (entryLeft phase j y).store, pool := (entryLeft phase j y).pool
      arbiter := (entryLeft phase j y).arbiter, sweep := (entryLeft phase j y).sweep
      segments := (entryLeft phase j y).segments, capture := (entryLeft phase j y).capture
      summaries := (entryLeft phase j y).summaries, events := (entryLeft phase j y).events
      sequencer := { s.sequencer with
        phase := phase, position := 0, entry := none, lookahead := none
        carried := (entryLeft phase j y).sequencer.carried, fetch := (entryLeft phase j y).sequencer.fetch }
      pipeline := { (formFrame s).pipeline with
        channels := (entryLeft phase j y).pipeline.channels, params := none, continuation := false } } := by
  have hleft := entryLeft_frame phase j (atEnd_lookahead hy) (atEnd_params hy hp)
  unfold atEnd at hy
  rw [hy] at hleft ⊢
  exact hleft

theorem descriptor_entryLeft (hseg : p.seg < 64) (id : Nat) : descriptor (entryLeft phase j y) id =
    if id = p.seg then endedDescriptor (descriptor s p.seg) else descriptor s id := by
  have hl := atEnd_lookahead hy
  have hyp := atEnd_params hy hp
  split
  · next h =>
    rw [h]
    exact (descriptor_endPlay false j hl hyp hseg).trans (by rw [atEnd_descriptor hy])
  · next h =>
    refine (descriptor_endPlay_other false j hl fun q hq => ?_).trans (atEnd_descriptor hy id)
    rw [hyp] at hq
    cases hq
    exact Ne.symm h

/-- R160, R161: the summary of the play that has ended is queued last. -/
theorem entryLeft_summaryClosed : summaryClosed o j s (entryLeft phase j y) := by
  obtain ⟨m, hm, hord, hab, hjoin, hframes, hcounter⟩ :=
    endPlay_lastSummary false j (atEnd_lookahead hy) (atEnd_params hy hp) (atEnd_opened hy)
  exact ⟨m, hm, hord, hab, hjoin, hframes, by rw [hcounter, hy]; rfl⟩

theorem entryLeft_standsIn : standsIn phase s (entryLeft phase j y) := by
  rw [entryLeft_atEnd phase j hy hp]
  exact ⟨rfl, rfl, rfl, rfl, rfl, rfl, rfl, rfl⟩

theorem entryLeft_closing : (entryLeft phase j y).capture.closing = !(framed s).capture.ops.isEmpty := by
  have h := endPlay_closing j (atEnd_lookahead hy) (atEnd_params hy hp)
  have hcapture : y.capture = (framed s).capture := by rw [hy]
  rw [hcapture] at h
  exact h

/-- R59, R60: with no capture to wait for, the advance is made from the cursor, or after a failed join check at it. -/
theorem proceed_entryLeft (hjoin : s.sequencer.joinPending = false) (hstate : s.run.state = .running)
    (hops : (framed s).capture.ops = []) (hphase : phase = if p.joinFailed then .awaiting else .spent) :
    proceed (entryLeft phase false y) = advance advanceFuel
      (if p.joinFailed then s.sequencer.cursor else s.sequencer.cursor + 1) (entryLeft phase false y) := by
  have hleft := entryLeft_atEnd phase false hy hp
  have hopen : (entryLeft phase false y).capture.closing = false := by
    rw [entryLeft_closing phase false hy hp, hops]
    rfl
  have hpend : (entryLeft phase false y).sequencer.joinPending = false := by rw [hleft]; exact hjoin
  have hgoing : (entryLeft phase false y).run.state = .running := by rw [hleft]; exact hstate
  have hstands : (entryLeft phase false y).sequencer.phase = phase := by rw [hleft]
  have hcursor : (entryLeft phase false y).sequencer.cursor = s.sequencer.cursor := by rw [hleft]
  by_cases hfailed : p.joinFailed = true
  · rw [if_pos hfailed] at hphase
    rw [proceed_awaiting hopen hpend hgoing (hstands.trans hphase), hcursor, if_pos hfailed]
  · rw [if_neg hfailed] at hphase
    rw [proceed_spent hopen hpend hgoing (hstands.trans hphase), hcursor, if_neg hfailed]

/-- R38, R161: the events of the entry's end, where its last frame raised none. -/
theorem entryLeft_events (hquiet : (framed s).events = s.events) : (entryLeft phase j y).events =
    (raiseEvent .summaryQueued o.entry o.ordinal.toNat
      { counted s with events := endedEvents p.seg (counted s) }).events := by
  have hended : endedEvents p.seg y = endedEvents p.seg (counted s) := by
    have hevents : y.events = (counted s).events := by rw [hy]; exact hquiet
    have hcounter : y.timebase.counter = (counted s).timebase.counter := by rw [hy]; rfl
    have hdesc : descriptor y p.seg = descriptor (counted s) p.seg := atEnd_descriptor hy _
    unfold endedEvents
    rw [hdesc]
    split
    · exact raiseEvent_events_congr _ _ _ hevents hcounter
    · exact hevents
  have h := endPlay_events false j (atEnd_lookahead hy) (atEnd_params hy hp) (atEnd_opened hy)
  refine h.trans (raiseEvent_events_congr _ _ _ hended ?_)
  rw [hy]
  rfl

end Ended

/-! ## A PLAY ends, or runs out (R59, R61) -/

section PlayEnd
variable {p : PlayParams} {o : OpenSummary} (hr : s.run.state = .running ∨ s.run.state = .pausing)
  (hp : s.pipeline.params = some (.play p)) (ho : s.summaries.opened = some o) (he : mayEnd p s)
include hr hp ho he

/-- R61: above taper counter 0 the entry goes on at drive position P. -/
theorem play_runsOn (hz : frameTaper (frameKind s) s ≠ 0) : ∃ y, quietBoundary s = boundaryLeft y ∧ atEnd p o s y ∧
    y.sequencer = { s.sequencer with position := p.length, lookahead := none } := by
  obtain ⟨y, hy, -, hgoesOn⟩ := reported_atEnd hr hp ho he
  obtain ⟨hx, hcarried⟩ := hgoesOn hz
  refine ⟨y, ?_, hy, (congrArg State.sequencer hy).trans (by rw [hcarried])⟩
  rw [quietBoundary, hx, reportRun_above _ _ hr hz]

variable (hz : frameTaper (frameKind s) s = 0)
include hz

/-- R59: at taper counter 0 the play ends and the sequencer goes on from there. -/
theorem play_ends : ∃ y, atEnd p o s y ∧ quietBoundary s = boundaryLeft (reportRun (frameKind s) s.run.state 0
    (proceed (entryLeft (if p.joinFailed then .awaiting else .spent) false y))) := by
  obtain ⟨y, hy, hend, -⟩ := reported_atEnd hr hp ho he
  exact ⟨y, hy, by rw [quietBoundary, hend hz, hz, endEntry_eq]⟩

theorem play_ends_closed :
    (quietBoundary s).pipeline.taper = 0 ∧ summaryClosed o false s (quietBoundary s) := by
  obtain ⟨y, hy, hq⟩ := play_ends hr hp ho he hz
  have hleft := entryLeft_atEnd (if p.joinFailed then .awaiting else .spent) false hy hp
  have hrests := restsAtZero_proceed (s := entryLeft (if p.joinFailed then .awaiting else .spent) false y) (by rw [hleft])
  rw [hq, boundaryLeft_frame, reportRun_frame _ _ _ hr]
  exact ⟨hrests.2 (by rw [hleft]; exact hz),
    (summaryClosed_congr hrests.1).2 (entryLeft_summaryClosed _ false hy hp)⟩

variable (hseg : p.seg < 64) (hjoin : s.sequencer.joinPending = false)
include hseg hjoin

/-- R59, R96: in PAUSING the run becomes PAUSED. -/
theorem play_ends_pausing (hstate : s.run.state = .pausing) :
    standsIn (if p.joinFailed then .awaiting else .spent) s (quietBoundary s) ∧
      (quietBoundary s).run = { s.run with state := .paused } ∧
      descriptor (quietBoundary s) p.seg = endedDescriptor (descriptor s p.seg) := by
  obtain ⟨y, hy, hq⟩ := play_ends hr hp ho he hz
  have hleft := entryLeft_atEnd (if p.joinFailed then .awaiting else .spent) false hy hp
  have hdesc := descriptor_entryLeft (if p.joinFailed then .awaiting else .spent) false hy hp hseg p.seg
  rw [if_pos rfl] at hdesc
  rw [hq, proceed_stays (by rw [hleft]; exact hjoin) (by rw [hleft, hstate]; decide), hstate,
    reportRun_pausing _ _ (by rw [hleft]; exact hstate), boundaryLeft_frame, pausesAt_frame]
  refine ⟨entryLeft_standsIn _ false hy hp, ?_, hdesc⟩
  rw [hleft, if_pos rfl]

/-- R59: in RUNNING the advance is made, where no capture is waited for. -/
theorem play_ends_running (hstate : s.run.state = .running) (hops : (framed s).capture.ops = [])
    (hquiet : (framed s).events = s.events) :
    advancesFrom (if p.joinFailed then .awaiting else .spent)
      (if p.joinFailed then s.sequencer.cursor else s.sequencer.cursor + 1)
      (fun id => if id = p.seg then endedDescriptor (descriptor s p.seg) else descriptor s id)
      (raiseEvent .summaryQueued o.entry o.ordinal.toNat { counted s with events := endedEvents p.seg (counted s) })
      s (quietBoundary s) := by
  obtain ⟨y, hy, hq⟩ := play_ends hr hp ho he hz
  have hleft := entryLeft_atEnd (if p.joinFailed then .awaiting else .spent) false hy hp
  rw [hq, hstate, reportRun_running, proceed_entryLeft _ hy hp hjoin hstate hops rfl]
  refine advancesFrom_boundaryLeft (entryLeft_standsIn _ false hy hp) (by rw [hleft]) hstate (by rw [hleft])
    (entryLeft_events _ false hy hp hquiet) (by rw [hleft]) (fun id _ => descriptor_entryLeft _ false hy hp hseg id) ?_
  rw [hleft, raiseEvent_timebase]
  rfl

omit hjoin in
/-- R153: in RUNNING the advance waits while the last frame is still to be written. -/
theorem play_ends_captured (hstate : s.run.state = .running) (hops : (framed s).capture.ops ≠ []) :
    standsIn (if p.joinFailed then .awaiting else .spent) s (quietBoundary s) ∧ (quietBoundary s).run = s.run ∧
      descriptor (quietBoundary s) p.seg = endedDescriptor (descriptor s p.seg) ∧
      (quietBoundary s).capture.closing = true := by
  obtain ⟨y, hy, hq⟩ := play_ends hr hp ho he hz
  have hleft := entryLeft_atEnd (if p.joinFailed then .awaiting else .spent) false hy hp
  have hdesc := descriptor_entryLeft (if p.joinFailed then .awaiting else .spent) false hy hp hseg p.seg
  rw [if_pos rfl] at hdesc
  have hclosing := entryLeft_closing (if p.joinFailed then .awaiting else .spent) false hy hp
  rw [List.isEmpty_eq_false_iff.2 hops] at hclosing
  rw [hq, hstate, reportRun_running, proceed_closing hclosing, boundaryLeft_frame]
  refine ⟨entryLeft_standsIn _ false hy hp, ?_, hdesc, hclosing⟩
  rw [hleft]

end PlayEnd

/-! ## A DWELL ends (R59) -/

/-- R59: a DWELL's last frame has been given, and the sequencer has left the entry. -/
def dwellLeft (s : State) : State :=
  leaveEntry .spent { carryLookahead { formed s with
    sequencer := { s.sequencer with position := s.sequencer.position + 1 } } with
    pipeline := { (formFrame s).pipeline with params := none, continuation := false } }

theorem dwellLeft_frame (s : State) : dwellLeft s =
    { s with
      timebase := (tick s).timebase, rig := (formed s).rig, link := (formed s).link
      arbiter := (dwellLeft s).arbiter
      pipeline := { (formFrame s).pipeline with params := none, continuation := false }
      sequencer := { s.sequencer with
        phase := .spent, position := 0, entry := none, lookahead := none
        carried := (dwellLeft s).sequencer.carried } } := by
  rw [dwellLeft, formed_frame]
  rfl

theorem reportSequencer_dwellEnd {d : Nat} (hr : s.run.state = .running ∨ s.run.state = .pausing)
    (hp : s.pipeline.params = some (.dwell d)) (hlast : s.sequencer.position + 1 = d) :
    reportSequencer (frameKind s) (framed s) = proceed (dwellLeft s) := by
  have hkind := frameKind_dwell hr hp
  have hparams : (formed s).pipeline.params = some (.dwell d) := by rw [formed_frame]; exact hp
  have hpos : (formed s).sequencer.position + 1 = d := by rw [formed_frame]; exact hlast
  rw [framed_idle (by rw [hkind]; rfl), hkind]
  simp only [reportSequencer, hparams, hpos, le_refl, if_true, endDwell]
  rw [dwellLeft, formed_frame]
  congr 2
  simp only [hlast]
  rfl

section DwellEnd
variable {d : Nat} (hp : s.pipeline.params = some (.dwell d)) (hlast : s.sequencer.position + 1 = d)
  (hjoin : s.sequencer.joinPending = false)
include hp hlast hjoin

/-- R59: a DWELL that ends in RUNNING is followed by the advance at once. -/
theorem dwell_ends_running (hclosing : s.capture.closing = false) (hstate : s.run.state = .running) :
    advancesFrom .spent (s.sequencer.cursor + 1) (descriptor s) (counted s) s (quietBoundary s) := by
  have hleft := dwellLeft_frame s
  have hproceed : proceed (dwellLeft s) = advance advanceFuel (s.sequencer.cursor + 1) (dwellLeft s) := by
    have h := proceed_spent (s := dwellLeft s) (by rw [hleft]; exact hclosing) (by rw [hleft]; exact hjoin)
      (by rw [hleft]; exact hstate) (by rw [hleft])
    rw [h, hleft]
  rw [quietBoundary, reportSequencer_dwellEnd (.inl hstate) hp hlast, hstate, reportRun_running, hproceed]
  refine advancesFrom_boundaryLeft ?_ ?_ hstate ?_ ?_ ?_ ?_ ?_ <;> rw [hleft]
  · exact ⟨rfl, rfl, rfl, rfl, rfl, rfl, rfl, rfl⟩
  · rfl
  · exact fun _ _ => rfl
  · rfl

/-- R59, R96: a DWELL that ends in PAUSING leaves the sequencer in SPENT, and the run PAUSED at taper counter 0. -/
theorem dwell_ends_pausing (hstate : s.run.state = .pausing) : standsIn .spent s (quietBoundary s) ∧
    (quietBoundary s).pipeline.taper = s.pipeline.taper ∧ (quietBoundary s).events = s.events ∧
    (quietBoundary s).run = { s.run with state := if s.pipeline.taper = 0 then .paused else .pausing } := by
  have hleft := dwellLeft_frame s
  have htaper : frameTaper (frameKind s) s = s.pipeline.taper := by rw [frameKind_dwell (.inr hstate) hp]; rfl
  have hproceed : proceed (dwellLeft s) = dwellLeft s :=
    proceed_stays (by rw [hleft]; exact hjoin) (by rw [hleft, hstate]; decide)
  rw [quietBoundary, reportSequencer_dwellEnd (.inr hstate) hp hlast, htaper, hstate, hproceed,
    reportRun_pausing _ _ (by rw [hleft]; exact hstate), boundaryLeft_frame, pausesAt_frame, hleft]
  refine ⟨⟨rfl, rfl, rfl, rfl, rfl, rfl, rfl, rfl⟩, htaper, rfl, ?_⟩
  simp only [hstate]

end DwellEnd

/-! ## The join (R60, R61) -/

theorem seek_stops {i n : Nat} (hm : ∀ v, s.schedule[i]? ≠ some (.mark v))
    (hr : ∀ j c m, s.schedule[i]? ≠ some (.rep j c m)) : seek (n + 1) i s = (i, s) := by
  unfold seek
  split
  · next v h => exact absurd h (hm v)
  · next j c m h => exact absurd h (hr j c m)
  · rfl

/-- R60: walking to the successor raises MARKs and counts REPEATs only. -/
theorem seek_frame (n i : Nat) (s : State) : (seek n i s).2 =
    { s with schedule := (seek n i s).2.schedule, events := (seek n i s).2.events } := by
  induction n generalizing i s with
  | zero => rfl
  | succ n ih =>
    unfold seek
    split
    · rw [ih]
      rw [raiseEvent_eq]
    · rw [ih]
    · rfl

section Join
variable {p : PlayParams}

theorem join_dwell {d : Nat} (h : s.schedule[s.sequencer.cursor + 1]? = some (.dwell d)) :
    join p s = failJoin p (s.sequencer.cursor + 1) (carryLookahead s) := by
  have hcarry : (carryLookahead s).schedule[s.sequencer.cursor + 1]? = some (.dwell d) := h
  obtain ⟨n, hn⟩ := advanceFuel_eq
  have hseek : seek advanceFuel (s.sequencer.cursor + 1) (carryLookahead s) =
      (s.sequencer.cursor + 1, carryLookahead s) := by
    rw [hn]
    exact seek_stops (by simp [hcarry]) (by simp [hcarry])
  simp only [join, hseek, hcarry]

theorem join_play {q : PlayEntry} (h : s.schedule[s.sequencer.cursor + 1]? = some (.play q)) : join p s =
    if joinCheck q (carryLookahead s) then makeJoin (s.sequencer.cursor + 1) q.seg (carryLookahead s)
    else failJoin p (s.sequencer.cursor + 1) (carryLookahead s) := by
  have hcarry : (carryLookahead s).schedule[s.sequencer.cursor + 1]? = some (.play q) := h
  obtain ⟨n, hn⟩ := advanceFuel_eq
  have hseek : seek advanceFuel (s.sequencer.cursor + 1) (carryLookahead s) =
      (s.sequencer.cursor + 1, carryLookahead s) := by
    rw [hn]
    exact seek_stops (by simp [hcarry]) (by simp [hcarry])
  simp only [join, hseek, hcarry]

/-- R60, R61: the state in which a join has failed at index `j`. -/
def joinRefused (p : PlayParams) (j : Nat) (s : State) : State :=
  { s with
    pipeline := { s.pipeline with params := some (.play { p with joinFailed := true }) }
    sequencer := { s.sequencer with cursor := j, carried := none } }

theorem failJoin_eq (p : PlayParams) (j : Nat) (s : State) : failJoin p j s =
    if s.pipeline.taper = 0 then endEntry { p with joinFailed := true } (joinRefused p j s) else joinRefused p j s := rfl

/-- R60: the state in which a join has been made, its successor's play still to begin. -/
def joinMade (j id : Nat) (s : State) : State :=
  let u := entryLeft .awaiting true s
  { setDescriptor id { descriptor u id with inPlay := true } u with
    sequencer := { u.sequencer with cursor := j, joinPending := true } }

theorem makeJoin_eq (j id : Nat) (s : State) : makeJoin j id s = proceed (joinMade j id s) := rfl

/-! ## The taper counter at the last drive frame -/

theorem endEntry_taper (hl : s.sequencer.lookahead = none) (hp : s.pipeline.params = some (.play p))
    (hz : s.pipeline.taper = 0) (q : PlayParams) : (endEntry q s).pipeline.taper = 0 := by
  have hleft := entryLeft_frame (if q.joinFailed then .awaiting else .spent) false hl hp
  rw [endEntry_eq]
  exact (restsAtZero_proceed (by rw [hleft])).2 (by rw [hleft]; exact hz)

theorem failJoin_taper (hl : s.sequencer.lookahead = none) (j : Nat) :
    (failJoin p j s).pipeline.taper = s.pipeline.taper := by
  rw [failJoin_eq]
  split
  · next hz => rw [endEntry_taper (s := joinRefused p j s) hl rfl hz, hz]
  · rfl

theorem proceed_joined_taper (hj : s.sequencer.joinPending = true) :
    (proceed s).pipeline.taper = s.pipeline.taper := by
  simp only [proceed, hj, if_true]
  split
  · rfl
  · split
    · exact (entryStarted_beginPlay _ _ _ _).taper
    · rfl

theorem makeJoin_taper (hl : s.sequencer.lookahead = none) (hp : s.pipeline.params = some (.play p)) (j id : Nat) :
    (makeJoin j id s).pipeline.taper = s.pipeline.taper := by
  have htaper : (entryLeft .awaiting true s).pipeline.taper = s.pipeline.taper := by
    rw [entryLeft_frame .awaiting true hl hp]
  rw [makeJoin_eq, proceed_joined_taper rfl]
  exact htaper

/-- R80: whatever follows a play's last drive frame, the taper counter stays as it was formed. -/
theorem lastDriveFrame_taper (hp : s.pipeline.params = some (.play p)) :
    (lastDriveFrame p s).pipeline.taper = s.pipeline.taper := by
  have hcarry : (carryLookahead s).sequencer.lookahead = none := rfl
  unfold lastDriveFrame
  split
  · have hseek := seek_frame advanceFuel (s.sequencer.cursor + 1) (carryLookahead s)
    unfold join
    dsimp only
    have hl : (seek advanceFuel (s.sequencer.cursor + 1) (carryLookahead s)).2.sequencer.lookahead = none := by
      rw [hseek]; rfl
    have hpar : (seek advanceFuel (s.sequencer.cursor + 1) (carryLookahead s)).2.pipeline.params =
        some (.play p) := by rw [hseek]; exact hp
    have htaper : (seek advanceFuel (s.sequencer.cursor + 1) (carryLookahead s)).2.pipeline.taper =
        s.pipeline.taper := by rw [hseek]; rfl
    split
    · split
      · rw [makeJoin_taper hl hpar, htaper]
      · rw [failJoin_taper hl, htaper]
    · rw [failJoin_taper hl, htaper]
  · split
    · next hz => rw [endEntry_taper (s := carryLookahead s) hcarry hp hz, hz]
    · rfl

end Join

/-! ## The data a joined successor plays (R37, R60) -/

/-- R60: the data that a successor, a PLAY of segment `id`, would play as the play of segment `playing` ends. -/
def joinData (playing id : Nat) (d : Descriptor) : Option SegData :=
  (if id = playing then waitingData d else none).or (if d.state = .ready then some d.data else none)

theorem successorData_joinData {p : PlayParams} (hp : s.pipeline.params = some (.play p)) (id : Nat) :
    (successorData id s).map Prod.snd = joinData p.seg id (descriptor s id) := by
  have hplay : playingSeg s = some p.seg := playingSeg_eq_some.2 ⟨p, hp, rfl⟩
  have hwait : (if playingSeg s = some id then waitingRepl id s else none) =
      if id = p.seg then waitingData (descriptor s id) else none := by
    rw [hplay, waitingRepl_eq]
    exact if_congr (Option.some_inj.trans eq_comm) rfl rfl
  unfold successorData joinData
  rw [hwait]
  rcases (if id = p.seg then waitingData (descriptor s id) else none) with _ | e
  · by_cases hr : (descriptor s id).state = .ready <;> simp [hr]
  · rfl

theorem joinCheck_iff_joinData {p : PlayParams} {q : PlayEntry} (hp : s.pipeline.params = some (.play p)) :
    joinCheck q s = true ↔ ∃ e, joinData p.seg q.seg (descriptor s q.seg) = some e ∧
      ∀ r, q.range = some r → r.2 < e.frames := by
  have hdata := successorData_joinData hp q.seg
  rcases hs : successorData q.seg s with _ | ⟨repl, e⟩
  · rw [hs] at hdata
    simp [joinCheck, hs, ← hdata]
  · rw [hs] at hdata
    rw [joinCheck_iff hs, ← hdata]
    simp

/-- R37, R38: once the play of segment `playing` has ended, the data a joined successor plays is the descriptor's. -/
theorem joinData_ended {playing id : Nat} {d : Descriptor} {e : SegData} (h : joinData playing id d = some e) :
    (if id = playing then endedDescriptor d else d).data = e := by
  unfold joinData at h
  split
  · next hid =>
    rw [if_pos hid] at h
    rcases hw : waitingData d with _ | w
    · rw [hw, Option.none_or] at h
      rw [endedDescriptor, hw]
      split at h
      · exact Option.some.inj h
      · cases h
    · rw [hw, Option.some_or] at h
      rw [endedDescriptor, hw]
      exact Option.some.inj h
  · next hid =>
    rw [if_neg hid, Option.none_or] at h
    split at h
    · exact Option.some.inj h
    · cases h

theorem endedDescriptor_inPlay (d : Descriptor) : (endedDescriptor d).inPlay = false := by
  unfold endedDescriptor
  split <;> rfl

section Joining
variable {p : PlayParams} {o : OpenSummary} (hy : atEnd p o s y) (hp : s.pipeline.params = some (.play p))
  (hops : (framed s).capture.ops = [])
include hy hp hops

omit hp in
/-- R61: a join that fails at taper counter 0 ends the entry, and the entry start is made at the successor. -/
theorem failJoin_dwell {j d : Nat} (hseg : p.seg < 64) (hjoin : s.sequencer.joinPending = false)
    (hstate : s.run.state = .running) (hz : y.pipeline.taper = 0) (hd : s.schedule[j]? = some (.dwell d)) :
    let t := boundaryLeft (failJoin p j y)
    entersAt s.run j t ∧ t.pipeline.params = some (.dwell d) ∧ (descriptor t p.seg).inPlay = false ∧
      summaryClosed o false s t := by
  let q : PlayParams := { p with joinFailed := true }
  let r := joinRefused p j y
  let u := entryLeft .awaiting false r
  have hrefused : r = joinRefused p j y := rfl
  have hl : r.sequencer.lookahead = none := (atEnd_lookahead hy : y.sequencer.lookahead = none)
  have hpr : r.pipeline.params = some (.play q) := rfl
  have hor : r.summaries.opened = some (accumulated o s) :=
    (atEnd_opened hy : y.summaries.opened = some (accumulated o s))
  have hleft := entryLeft_frame .awaiting false hl hpr
  have hopen : u.capture.closing = false := by
    have hcapture : r.capture.ops = [] := by rw [hrefused, joinRefused, hy]; exact hops
    exact (endPlay_closing false hl hpr).trans (by rw [hcapture]; rfl)
  have hrun : u.run = s.run := by rw [show u = _ from hleft, hrefused, joinRefused, hy]
  have hsched : u.schedule = s.schedule := by rw [show u = _ from hleft, hrefused, joinRefused, hy]
  have hproceed : failJoin p j y = advance advanceFuel j u := by
    have hend : failJoin p j y = proceed u := by rw [failJoin_eq, if_pos hz]; rfl
    have hpend : u.sequencer.joinPending = false := by rw [show u = _ from hleft, hrefused, joinRefused, hy]; exact hjoin
    have hcursor : u.sequencer.cursor = j := by rw [show u = _ from hleft]; rfl
    rw [hend, proceed_awaiting hopen hpend (by rw [hrun]; exact hstate) (by rw [show u = _ from hleft]), hcursor]
  obtain ⟨henters, hpar, hsegs, -⟩ := advance_boundary_dwell (u := u) (k := j) (by rw [hsched]; exact hd)
  have hdesc : (descriptor u p.seg).inPlay = false := by
    have h := descriptor_endPlay false false hl hpr hseg
    exact (congrArg Descriptor.inPlay h).trans (endedDescriptor_inPlay _)
  obtain ⟨m, hm, hord, hab, hjoined, hframes, hcounter⟩ := endPlay_lastSummary false false hl hpr hor
  have hrests := restsAtZero_advance (s := u) advanceFuel j (by rw [show u = _ from hleft])
  rw [hproceed]
  rw [hrun] at henters
  refine ⟨henters, hpar, by rw [descriptor, hsegs]; exact hdesc, m, ?_, hord, hab, hjoined, hframes, ?_⟩
  · rw [boundaryLeft_summaries, hrests.1]
    exact hm
  · rw [hcounter, hrefused, joinRefused, hy]
    rfl

/-- R60: a join made begins its successor's play in the state that the joined entry's end leaves. -/
theorem makeJoin_begins {j : Nat} {q : PlayEntry} (hq : s.schedule[j]? = some (.play q)) :
    makeJoin j q.seg y = beginPlay j q true (joinMade j q.seg y) := by
  have hleft := entryLeft_atEnd .awaiting true hy hp
  have hopen : (joinMade j q.seg y).capture.closing = false :=
    (entryLeft_closing .awaiting true hy hp).trans (by rw [hops]; rfl)
  have hentry : (joinMade j q.seg y).schedule[j]? = some (.play q) := by
    have hsched : (entryLeft .awaiting true y).schedule = s.schedule := by rw [hleft]
    exact (congrArg (·[j]?) hsched).trans hq
  rw [makeJoin_eq, proceed_join hopen rfl hentry]
  rfl

omit hops in
theorem descriptor_joinMade {j id : Nat} (hseg : p.seg < 64) (hid : id < 64) (k : Nat) :
    descriptor (joinMade j id y) k =
      if k = id then { (if id = p.seg then endedDescriptor (descriptor s p.seg) else descriptor s id) with inPlay := true }
      else if k = p.seg then endedDescriptor (descriptor s p.seg) else descriptor s k := by
  have hset : descriptor (joinMade j id y) k = _ := descriptor_setDescriptor (s := entryLeft .awaiting true y)
    { descriptor (entryLeft .awaiting true y) id with inPlay := true } hid k
  rw [hset, descriptor_entryLeft .awaiting true hy hp hseg, descriptor_entryLeft .awaiting true hy hp hseg]

/-- R60, R37: the boundary at which a join is made: the successor plays the data the joined entry's end leaves it. -/
theorem makeJoin_boundary {j i : Nat} {q : PlayEntry} {e : SegData} (kind : FrameKind)
    (hr : s.run.state = .running ∨ s.run.state = .pausing) (hseg : p.seg < 64) (hid : q.seg < 64)
    (hq : s.schedule[j]? = some (.play q)) (he : joinData p.seg q.seg (descriptor s q.seg) = some e) :
    let t := boundaryLeft (reportRun kind s.run.state i (makeJoin j q.seg y))
    entersAt { s.run with state := if s.run.state = .pausing ∧ i = 0 then .paused else s.run.state } j t ∧
      t.pipeline.params = some (.play (playParams j q true e)) ∧
      (descriptor t q.seg).inPlay = true ∧ (descriptor t q.seg).data = e ∧
      (q.seg ≠ p.seg → (descriptor t p.seg).inPlay = false) ∧ summaryClosed o true s t := by
  let w := joinMade j q.seg y
  have hw (k : Nat) := descriptor_joinMade (j := j) hy hp hseg hid k
  have hwdata : (descriptor w q.seg).data = e := by
    have hended : (if q.seg = p.seg then endedDescriptor (descriptor s p.seg) else descriptor s q.seg) =
        if q.seg = p.seg then endedDescriptor (descriptor s q.seg) else descriptor s q.seg := by
      split
      · next h => rw [h]
      · rfl
    rw [hw, if_pos rfl, hended]
    exact joinData_ended he
  have hstart := entryStarted_beginPlay j q true w
  have hrun : (beginPlay j q true w).run = s.run := by
    have hleft : (entryLeft .awaiting true y).run = s.run := by rw [entryLeft_atEnd .awaiting true hy hp]
    exact hstart.run.trans hleft
  have hdesc (id : Nat) : descriptor (beginPlay j q true w) id =
      if id = q.seg then { descriptor w q.seg with inPlay := true } else descriptor w id := by
    rw [descriptor, beginPlay_segments, tget_tset _ _ _ _ hid]
    rfl
  have hmoved := reportRun_run (x := beginPlay j q true w) kind i (by rw [hrun]; exact hr)
  have henters := entersAt_reportRun (i := i) (kind := kind) hstart hr
  rw [hrun] at hmoved
  rw [hmoved] at henters
  have hframe := reportRun_frame kind i (beginPlay j q true w) hr
  have hdescs (id : Nat) :
      descriptor (boundaryLeft (reportRun kind s.run.state i (beginPlay j q true w))) id =
        if id = q.seg then { descriptor w q.seg with inPlay := true } else descriptor w id := by
    rw [descriptor_boundaryLeft, hframe]
    exact hdesc id
  have hparams : (boundaryLeft (reportRun kind s.run.state i (beginPlay j q true w))).pipeline.params =
      some (.play (playParams j q true e)) := by
    rw [boundaryLeft_frame, hframe, ← hwdata]
    exact beginPlay_params j q true w
  have hqueue : (boundaryLeft (reportRun kind s.run.state i (beginPlay j q true w))).summaries.queue =
      (entryLeft .awaiting true y).summaries.queue := by
    rw [boundaryLeft_summaries, hframe, beginPlay_queue]
    rfl
  rw [makeJoin_begins hy hp hops hq]
  refine ⟨henters, hparams, ?_, ?_, fun hne => ?_,
    (summaryClosed_congr hqueue).2 (entryLeft_summaryClosed .awaiting true hy hp)⟩
  · rw [hdescs, if_pos rfl]
  · rw [hdescs, if_pos rfl]
    exact hwdata
  · rw [hdescs, if_neg (Ne.symm hne), hw, if_neg (Ne.symm hne), if_pos rfl, endedDescriptor_inPlay]

end Joining

/-- Settles O32: a quiet boundary comes to the sequencer's report (`exec_frameBoundary_quiet`). After a last drive frame or
a run-out frame that is the entry's end or nothing (`reported_atEnd`); a join in prospect is made or fails by `joinData`;
the advance that follows is read off its first steps (`advance_boundary_end` and what stands by it). -/
theorem playsEndOrJoin : Obligations.PlaysEndOrJoin := by
  unfold Obligations.PlaysEndOrJoin
  refine ⟨fun missFirst p o s hu ha hmiss hp hseg hdue hops hcurrent hclosing hjoin hr hphase hlast hnotFailed ho hqueue =>
    ?_, fun missFirst s hu ha hdue hmiss hphase hjoin hclosing hr => ?_⟩
  · intro c i moved prospect runsOut closed dwells
    have hplay := mayEnd_kind hr hp (.inr hlast)
    have hi : frameTaper (frameKind s) s = i := by rw [frameKind_play hr hp, if_pos (by omega)]
    obtain ⟨hcapture, hquiet⟩ := framed_quiet hplay.1 ho hp hplay.2 fun j r h => by cases hcurrent.symm.trans h.1
    have hnoOps : (framed s).capture.ops = [] := by rw [hcapture]; exact hops
    have hL := lastGiven_frame hr hp ho hlast
    have hreport : quietBoundary s =
        boundaryLeft (reportRun (frameKind s) s.run.state i (lastDriveFrame p (lastGiven p s))) := by
      rw [quietBoundary, reportSequencer_last hr hp ho hlast, hi]
    refine ⟨_, exec_frameBoundary_quiet missFirst hu ha ⟨hops, fun _ _ => hdue⟩ hmiss, ?_, fun hno => ?_,
      fun hjoins => ?_⟩
    · have hformed : (lastGiven p s).pipeline.taper = i := by rw [hL, ← hi]; rfl
      rw [hreport, boundaryLeft_frame, reportRun_frame _ _ _ hr]
      exact (lastDriveFrame_taper (by rw [hL]; exact hp)).trans hformed
    · have he : mayEnd p s := .inr ⟨hlast, hno⟩
      refine ⟨fun hz => ?_, fun hz hstate => ?_⟩
      · obtain ⟨y, hq, hy, -⟩ := play_runsOn hr hp ho he (by rw [hi]; exact hz)
        rw [hq, boundaryLeft_frame, hy]
        exact ⟨hp, hphase, rfl, rfl, rfl, rfl, rfl⟩
      · have hadv := play_ends_running hr hp ho he (hi.trans hz) hseg hjoin hstate hnoOps hquiet
        have hclosed : closed (quietBoundary s) false := (play_ends_closed hr hp ho he (hi.trans hz)).2
        rw [hnotFailed] at hadv
        have hdesc (hk : s.schedule[c + 1]? = none ∨ ∃ d, s.schedule[c + 1]? = some (.dwell d)) :
            (descriptor (quietBoundary s) p.seg).inPlay = false := by
          rw [advancesFrom_descriptor hadv hstate hk hseg, if_pos rfl, endedDescriptor_inPlay]
        obtain ⟨-, hadvEnd, hadvDwell, -⟩ := hadv
        refine ⟨fun d hd => ?_, fun hd => ?_⟩
        · obtain ⟨⟨hrun, hin, hcursor, hpos, -⟩, hpar, -⟩ := hadvDwell d hd
          exact ⟨⟨hpar, hin, hcursor, hpos, hdesc (.inr ⟨d, hd⟩), hclosed⟩, hrun⟩
        · obtain ⟨hrun, hended, -⟩ := hadvEnd hd
          exact ⟨hrun, hended, hdesc (.inl hd), hclosed⟩
    · let y := carryLookahead (lastGiven p s)
      have hy : atEnd p o s y := atEnd_carryLookahead hr hp ho hlast
      have hytaper : y.pipeline.taper = i := by rw [show y = _ from hy, ← hi]; rfl
      have hcursor : (lastGiven p s).sequencer.cursor = c := by rw [hL]
      have hsched : (lastGiven p s).schedule = s.schedule := by rw [hL]
      have hjoined : lastDriveFrame p (lastGiven p s) = join p (lastGiven p s) :=
        if_pos (joinInProspect_iff.2 (by rw [hL]; exact hjoins))
      have hrefused (hz : i ≠ 0) : reportRun (frameKind s) s.run.state i (failJoin p (c + 1) y) =
          joinRefused p (c + 1) y := by
        rw [reportRun_above _ _ hr hz, failJoin_eq, if_neg (by rw [hytaper]; exact hz)]
      have hrunsOut : runsOut (boundaryLeft (joinRefused p (c + 1) y)) { p with joinFailed := true } (c + 1) ∧
          (boundaryLeft (joinRefused p (c + 1) y)).events = s.events := by
        rw [boundaryLeft_frame, joinRefused, hy]
        exact ⟨⟨rfl, hphase, rfl, rfl, rfl, rfl, rfl⟩, hquiet⟩
      rw [hreport, hjoined]
      refine ⟨fun d hd => ?_, fun q hq hid => ?_⟩
      · rw [join_dwell (s := lastGiven p s) (by rw [hsched, hcursor]; exact hd), hcursor]
        refine ⟨fun hz => ?_, fun hz hstate => ?_⟩
        · rw [hrefused hz]
          exact hrunsOut.1
        · obtain ⟨⟨-, hin, hcur, hpos, -⟩, hpar, hdesc, hclosed⟩ :=
            failJoin_dwell (j := c + 1) hy hnoOps hseg hjoin hstate (hytaper.trans hz) hd
          rw [hstate, reportRun_running]
          exact ⟨hpar, hin, hcur, hpos, hdesc, hclosed⟩
      · intro d waiting data fits
        have hdata : data = joinData p.seg q.seg d := by
          have hwaiting : waiting = if q.seg = p.seg then waitingData d else none := by
            rcases hrepl : d.repl with _ | r
            · simp only [waiting, hrepl, waitingData, ite_self]
            · simp only [waiting, hrepl, waitingData]
              by_cases hown : q.seg = p.seg <;> simp [hown]
          rw [joinData, ← hwaiting]
        have hfits : joinCheck q y = true ↔ fits := by
          rw [joinCheck_iff_joinData (atEnd_params hy hp), atEnd_descriptor hy, ← hdata]
        rw [join_play (s := lastGiven p s) (by rw [hsched, hcursor]; exact hq), hcursor]
        refine ⟨fun hno hz => ?_, fun e hok he => ?_⟩
        · rw [if_neg (mt hfits.1 hno), hrefused hz]
          exact hrunsOut
        · obtain ⟨⟨hrun, hin, hcur, hpos, -, hlook⟩, hpar, hplaying, hplays, hother, hclosed⟩ :=
            makeJoin_boundary (i := i) hy hp hnoOps (frameKind s) hr hseg hid hq (hdata.symm.trans he)
          rw [if_pos (hfits.2 hok)]
          exact ⟨hpar.trans (by rw [playParams_eq]), hin, hcur, hpos, hrun, hplaying, hplays, hother, hclosed, hlook⟩
  · intro c counted stands enters advances
    have hadvances {phase : Phase} {k : Nat} {table : Nat → Descriptor} {told t : State}
        (h : advancesFrom phase k table told s t) : advances t phase k table told := by
      obtain ⟨hfrom, hend, hdwell, hmark, hplay⟩ := h
      refine ⟨hfrom, hend, hdwell, hmark, fun q hq hid => ?_⟩
      have h := hplay q hq hid
      rw [playParams_eq] at h
      exact h
    refine ⟨_, exec_frameBoundary_quiet missFirst hu ha hdue hmiss, fun d hp hlast => ⟨fun hstate =>
      hadvances (dwell_ends_running hp hlast hjoin hclosing hstate), dwell_ends_pausing hp hlast hjoin⟩,
      fun p o hp hseg ho hqueue he => ?_⟩
    intro i phase d swapped ended applied closed captures
    have hplay := mayEnd_kind hr hp (he.imp (·.1) (·.1))
    have happlied : applied = { counted with events := endedEvents p.seg counted } := by
      have hswapped : swapped = waitingData (descriptor counted p.seg) := rfl
      rcases hw : waitingData (descriptor counted p.seg) with _ | e
      · rw [endedEvents, hw]
        simp only [applied, hswapped, hw]
      · rw [endedEvents, hw]
        simp only [applied, hswapped, hw]
        exact raiseEvent_eq _ _ _ _
    have hrunOut (hpos : s.sequencer.position = p.length) : i = s.pipeline.taper - 1 := by
      have hi : i = frameTaper (frameKind s) s := rfl
      rw [hi, hplay.2.2 hpos]
      rfl
    by_cases hz : i = 0
    · obtain ⟨htaper, hclosed⟩ := play_ends_closed hr hp ho he hz
      refine ⟨htaper.trans hz.symm, hrunOut, fun h => absurd hz h, fun _ => ⟨hclosed,
        play_ends_pausing hr hp ho he hz hseg hjoin, fun hstate hno => ?_, fun j r hstate hcap hcount hroom =>
        play_ends_captured hr hp ho he hz hseg hstate (framed_issues hplay.1 ho hp hplay.2 hcap hcount hroom)⟩⟩
      obtain ⟨hcapture, hquiet⟩ := framed_quiet hplay.1 ho hp hplay.2 hno
      rw [happlied]
      exact hadvances (play_ends_running hr hp ho he hz hseg hjoin hstate (by rw [hcapture]; exact hdue.1) hquiet)
    · obtain ⟨y, hq, hy, hseq⟩ := play_runsOn hr hp ho he hz
      rw [hq, boundaryLeft_frame]
      exact ⟨by rw [hy]; rfl, hrunOut, fun _ => ⟨by rw [hy], by rw [hy], by rw [hseq], by rw [hy], by rw [hy],
        by rw [hy], accumulated o s, by rw [hy], rfl, rfl⟩, fun h => absurd h hz⟩

end Sys2Proof.Machine
end

section
/-! PROOF. The stages of the setpoint pipeline and the taper counter (R73 to R78, R80 to R84): O50, O51. -/

namespace Sys2Proof.Machine

variable {s : State}

/-! ## Quotients -/

/-- A multiple of the divisor with a remainder below it, rounded down. -/
theorem ediv_add_le {a b c l : Int} (hl : 0 < l) (ha : a ≤ b * l) (hc : c < l) : (a + c) / l ≤ b := by
  have hlt : a + c < (b + 1) * l := by rw [Int.add_mul, Int.one_mul]; omega
  exact Int.lt_add_one_iff.1 (Int.ediv_lt_of_lt_mul hl hlt)

theorem le_ediv_add {a b c l : Int} (hl : 0 < l) (ha : b * l ≤ a) (hc : 0 ≤ c) : b ≤ (a + c) / l :=
  Int.le_ediv_of_mul_le hl (by omega)

/-- A part `k` of `l` of a value, rounded to the nearest, lies between 0 and the value. -/
theorem scaled_between {d k l c : Int} (hk : 0 ≤ k) (hkl : k ≤ l) (hl : 0 < l) (hc : 0 ≤ c) (hcl : c < l) :
    min 0 d ≤ (d * k + c) / l ∧ (d * k + c) / l ≤ max 0 d := by
  rcases Int.le_total 0 d with hd | hd
  · rw [min_eq_left hd, max_eq_right hd]
    exact ⟨le_ediv_add hl (by simpa using Int.mul_nonneg hd hk) hc,
      ediv_add_le hl (Int.mul_le_mul_of_nonneg_left hkl hd) hcl⟩
  · rw [min_eq_right hd, max_eq_left hd]
    exact ⟨le_ediv_add hl (Int.mul_le_mul_of_nonpos_left hd hkl) hc,
      ediv_add_le hl (by simpa using Int.mul_nonpos_of_nonpos_of_nonneg hd hk) hcl⟩

/-- A whole multiple stays whole when the rounding is below the divisor. -/
theorem mul_add_ediv {a c l : Int} (hc : 0 ≤ c) (hcl : c < l) : (a * l + c) / l = a := by
  rw [Int.add_comm, Int.add_mul_ediv_right _ _ (by omega), Int.ediv_eq_zero_of_lt hc hcl, Int.zero_add]

/-! ## Interpolation, gain and taper -/

/-- R73: the interpolated value lies between its two drive samples. -/
theorem interpolate_between {s0 s1 : Int} {k l : Nat} (hk : k < l) :
    min s0 s1 ≤ interpolate s0 s1 k l ∧ interpolate s0 s1 k l ≤ max s0 s1 := by
  have h := scaled_between (d := s1 - s0) (k := k) (l := l) (c := (l / 2 : Nat)) (by omega) (by omega) (by omega)
    (by omega) (by omega)
  unfold interpolate
  omega

/-- R73: at sub-step 0 the interpolated value is the first drive sample. -/
theorem interpolate_zero {s0 s1 : Int} {l : Nat} (hl : 0 < l) : interpolate s0 s1 0 l = s0 := by
  have hround : ((l / 2 : Nat) : Int) / l = 0 := Int.ediv_eq_zero_of_lt (by omega) (by omega)
  simpa [interpolate] using hround

/-- Settles O50: the quotient of the rounding lies between 0 and the difference (`interpolate_between`). -/
theorem interpolationStaysBetweenSamples : Obligations.InterpolationStaysBetweenSamples := by
  unfold Obligations.InterpolationStaysBetweenSamples
  intro s0 s1 k l _ hk v
  obtain ⟨hlow, hhigh⟩ := interpolate_between (s0 := s0) (s1 := s1) hk
  have hstart : k = 0 → v = s0 := fun hz => by rw [← interpolate_zero (s0 := s0) (s1 := s1) (Nat.zero_lt_of_lt hk), ← hz]
  refine ⟨?_, hstart, fun hone => ?_, hlow, hhigh, fun _ _ _ _ => ?_⟩
  · rw [Int.fdiv_eq_ediv_of_nonneg _ (Int.natCast_nonneg l)]
    rfl
  · have hz : k = 0 := by omega
    exact ⟨hz, hstart hz⟩
  · omega

/-- R74: the gain stage of a 16-bit value stays within 18 bits. -/
theorem gainStage_bounds {v : Int} (g : BitVec 16) (hlow : -32768 ≤ v) (hhigh : v ≤ 32767) :
    -131070 ≤ gainStage v g ∧ gainStage v g ≤ 131066 := by
  have hg : (g.toNat : Int) ≤ 65535 := by have := g.isLt; omega
  have hleast : -32768 * (65535 : Int) ≤ v * g.toNat :=
    calc -32768 * (65535 : Int) ≤ -32768 * g.toNat := by omega
      _ ≤ v * g.toNat := Int.mul_le_mul_of_nonneg_right hlow (by omega)
  have hgreatest : v * g.toNat ≤ 32767 * (65535 : Int) :=
    calc v * (g.toNat : Int) ≤ 32767 * g.toNat := Int.mul_le_mul_of_nonneg_right hhigh (by omega)
      _ ≤ 32767 * 65535 := by omega
  unfold gainStage
  omega

/-- R75: the taper stage leaves a value between 0 and itself. -/
theorem taperStage_between (u : Int) {t : Nat} (ht : t ≤ 1024) :
    min 0 u ≤ taperStage u t ∧ taperStage u t ≤ max 0 u :=
  scaled_between (by omega) (by omega) (by omega) (by omega) (by omega)

/-- R75: the taper factor of a counter within 0 and Nt. -/
theorem taperFactor_le {i nt : Nat} (h : i ≤ nt) : taperFactor i nt ≤ 1024 :=
  Nat.div_le_of_le_mul (by rw [Nat.mul_comm nt]; exact Nat.mul_le_mul_left 1024 h)

/-! ## The taper counter -/

theorem risingTaper_le {i nt : Nat} (horizon : Option Nat) (h : i ≤ nt) : risingTaper i nt horizon ≤ nt := by
  unfold risingTaper
  cases horizon <;> simp only <;> omega

/-- R80 to R84: the counter stays within Nt on every frame. -/
theorem frameTaper_le (k : FrameKind) (h : s.pipeline.taper ≤ (general s).nt.toNat) :
    frameTaper k s ≤ (general s).nt.toNat := by
  unfold frameTaper
  cases k <;> simp only
  case play =>
    split
    · omega
    · split
      · split
        · exact h
        · exact risingTaper_le _ h
      · exact h
  all_goals omega

/-- R82: on a play frame in PAUSING the counter declines. -/
theorem frameTaper_pausing (h : s.run.state = .pausing) : frameTaper .play s = s.pipeline.taper - 1 := if_pos h

/-- R80: on a play frame in RUNNING the counter rises within the horizon; the first frame of an entry that no join began
has the counter it finds. -/
theorem frameTaper_running {p : PlayParams} (h : s.run.state = .running) (hp : s.pipeline.params = some (.play p)) :
    frameTaper .play s = if s.sequencer.position = 0 ∧ p.byJoin = false then s.pipeline.taper
      else risingTaper s.pipeline.taper (general s).nt.toNat (horizonOf p s) := by
  simp only [frameTaper, h, hp, reduceCtorEq, if_false]

/-- Settles O51: the stages by their bounds, the counter by its moves on a play frame and `frameTaper_le`. -/
theorem gainAndTaperStayBounded : Obligations.GainAndTaperStayBounded := by
  unfold Obligations.GainAndTaperStayBounded
  refine ⟨fun v g hlow hhigh => ?_, fun i nt hnt hi => ?_, fun u t ht => ?_, fun p s hp => ?_⟩
  · obtain ⟨hleast, hgreatest⟩ := gainStage_bounds g hlow hhigh
    refine ⟨hleast, hgreatest, ?_, ?_⟩
    · rintro rfl
      simp [gainStage]
    · rintro rfl
      exact mul_add_ediv (by decide) (by decide)
  · refine ⟨taperFactor_le hi, by simp [taperFactor], Nat.mul_div_cancel _ hnt⟩
  · obtain ⟨hlow, hhigh⟩ := taperStage_between u ht
    exact ⟨hlow, hhigh, by simp [taperStage], mul_add_ediv (by decide) (by decide)⟩
  · refine ⟨frameTaper_pausing, fun hr hz hj => ?_, fun hr hn => ?_, fun k => frameTaper_le k⟩
    · rw [frameTaper_running hr hp, if_pos ⟨hz, hj⟩]
    · have hrise : ¬ (s.sequencer.position = 0 ∧ p.byJoin = false) := by
        rintro ⟨hz, hj⟩
        rcases hn with hz' | hj'
        · exact hz' hz
        · rw [hj] at hj'; cases hj'
      rw [frameTaper_running hr hp, if_neg hrise]
      unfold horizonOf
      split <;> rfl

end Sys2Proof.Machine
end

section
/-! PROOF. What leaves the setpoints, the taper counter and the device mode alone, below the commands (R67, R70, R80, R85,
R169): every operation but the forming of a frame keeps them, and a freeze makes the counter 0. -/

namespace Sys2Proof.Machine

variable {s t u : State}

/-- R67, R169: the parts of the state that the law of the setpoints speaks of. -/
structure Drive where
  life : Life
  mode : DeviceMode
  active : Option Image
  setpoints : Nat → Option Int
  taper : Nat

/-- Those parts as they stand. -/
def driving (s : State) : Drive :=
  { life := s.life, mode := s.config.mode, active := s.config.active
    setpoints := fun c => (tget s.pipeline.channels c).previous, taper := s.pipeline.taper }

/-- The parts with the taper counter at 0, as a freeze leaves them (R85). -/
def Drive.stilled (d : Drive) : Drive := { d with taper := 0 }

/-- From `s` to `t` every previous setpoint stands, the mode and the active image too, and the taper counter stands or
has become 0. -/
def sparesDrive (s t : State) : Prop := driving t = driving s ∨ driving t = (driving s).stilled

theorem sparesDrive_refl : sparesDrive s s := .inl rfl

theorem sparesDrive.of_driving (h : sparesDrive s t) (e : driving u = driving t) : sparesDrive s u := by
  simpa only [sparesDrive, e] using h

theorem sparesDrive.trans (h : sparesDrive s t) (h' : sparesDrive t u) : sparesDrive s u := by
  rcases h' with e | e
  · exact h.of_driving e
  · rcases h with e' | e'
    · exact .inr (e.trans (by rw [e']))
    · exact .inr (e.trans (by rw [e']; rfl))

theorem sparesDrive.setpoint (h : sparesDrive s t) (c : Nat) :
    (tget t.pipeline.channels c).previous = (tget s.pipeline.channels c).previous := by
  have hsame : (driving t).setpoints = (driving s).setpoints := by rcases h with e | e <;> rw [e]; rfl
  exact congrFun hsame c

theorem sparesDrive.config (h : sparesDrive s t) :
    t.life = s.life ∧ t.config.mode = s.config.mode ∧ t.config.active = s.config.active := by
  have hlife : (driving t).life = (driving s).life := by rcases h with e | e <;> rw [e]; rfl
  have hmode : (driving t).mode = (driving s).mode := by rcases h with e | e <;> rw [e]; rfl
  have hactive : (driving t).active = (driving s).active := by rcases h with e | e <;> rw [e]; rfl
  exact ⟨hlife, hmode, hactive⟩

theorem sparesDrive.channelRec (h : sparesDrive s t) (c : Nat) : channelRec t c = channelRec s c := by
  obtain ⟨-, -, hactive⟩ := h.config
  simp only [Machine.channelRec, hactive]

theorem sparesDrive.taper_le (h : sparesDrive s t) : t.pipeline.taper ≤ s.pipeline.taper := by
  have hle : (driving t).taper ≤ (driving s).taper := by
    rcases h with e | e <;> rw [e]
    exact Nat.zero_le _
  exact hle

/-- A table of channels whose previous setpoints stand has the same setpoints. -/
theorem previous_tmap {f : Nat → DriveChannel → DriveChannel} (hf : ∀ c ch, (f c ch).previous = ch.previous)
    (v : Vector DriveChannel 16) (c : Nat) : (tget (tmap f v) c).previous = (tget v c).previous := by
  by_cases hc : c < 16
  · rw [tget_tmap _ _ hc, hf]
  · rw [tget_out _ (Nat.not_lt.1 hc), tget_out _ (Nat.not_lt.1 hc)]

/-! ## Events, replies, pages, segments -/

@[simp] theorem driving_raiseEvent (k : EventKind) (a v : Nat) : driving (raiseEvent k a v s) = driving s := by
  simp [driving]
@[simp] theorem driving_answer (st : Status) (b : ReplyBody) : driving (answer st b s) = driving s := by simp [driving]
@[simp] theorem driving_setJob (j : LinkJob) : driving (setJob j s) = driving s := by simp [driving]
@[simp] theorem driving_settle : driving (settle s) = driving s := by simp [driving]
@[simp] theorem driving_releasePages (ps : List Nat) : driving (releasePages ps s) = driving s := by simp [driving]
@[simp] theorem driving_setDescriptor (id : Nat) (d : Descriptor) : driving (setDescriptor id d s) = driving s := rfl
@[simp] theorem driving_dropTarget (v : Target) : driving (dropTarget v s) = driving s := by simp [driving]
@[simp] theorem driving_withdrawReads (q : ReadPurpose) : driving (withdrawReads q s) = driving s := rfl
@[simp] theorem driving_voidLookahead : driving (voidLookahead s) = driving s := rfl
@[simp] theorem driving_installLookahead : driving (installLookahead s) = driving s := rfl
@[simp] theorem driving_carryLookahead : driving (carryLookahead s) = driving s := rfl
@[simp] theorem driving_redoLookahead : driving (redoLookahead s) = driving s := by
  unfold redoLookahead; split <;> simp
@[simp] theorem driving_segChanged (id : Nat) : driving (segChanged id s) = driving s := by
  unfold segChanged; split <;> simp
@[simp] theorem driving_carriedAtSwap (id : Nat) : driving (carriedAtSwap id s) = driving s := rfl
@[simp] theorem driving_dropCarried (id : Nat) (r : Bool) : driving (dropCarried id r s) = driving s := rfl
@[simp] theorem driving_swapIn (id : Nat) : driving (swapIn id s) = driving s := by unfold swapIn; split <;> simp
@[simp] theorem driving_endSegPlay (id : Nat) : driving (endSegPlay id s) = driving s := by
  simp only [endSegPlay]; split <;> simp
@[simp] theorem driving_addDoubleErrors (id k : Nat) : driving (addDoubleErrors id k s) = driving s := rfl
@[simp] theorem driving_markDamaged (id o : Nat) : driving (markDamaged id o s) = driving s := by
  unfold markDamaged; split <;> simp
@[simp] theorem driving_removeReplacement (id : Nat) : driving (removeReplacement id s) = driving s := by
  unfold removeReplacement; split <;> simp
@[simp] theorem driving_dropReplacement (id : Nat) : driving (dropReplacement id s) = driving s := by
  unfold dropReplacement; split <;> simp
@[simp] theorem driving_emptyDescriptor (id : Nat) : driving (emptyDescriptor id s) = driving s := by
  simp [emptyDescriptor]
@[simp] theorem driving_rejectTarget (v : Target) (m : Bool) : driving (rejectTarget v m s) = driving s := by
  unfold rejectTarget; split <;> simp
@[simp] theorem driving_readyTarget (v : Target) : driving (readyTarget v s) = driving s := by
  simp only [readyTarget]
  split
  · split
    · simp
    · split <;> simp
  · simp

/-! ## Evidence -/

/-- R86: the counts return to 0; the setpoints stand. -/
@[simp] theorem driving_zeroCounts : driving (zeroCounts s) = driving s := by
  simp [driving, zeroCounts, previous_tmap]
@[simp] theorem driving_openSummary (e g : Nat) : driving (openSummary e g s) = driving s := rfl
@[simp] theorem driving_accumulate : driving (accumulate s) = driving s := by rw [accumulate_eq]; rfl
@[simp] theorem driving_countMemoryErrors (cs : List Nat) : driving (countMemoryErrors cs s) = driving s := by
  unfold countMemoryErrors; split <;> rfl
@[simp] theorem driving_queueSummary (m : Summary) : driving (queueSummary m s) = driving s := by
  simp only [queueSummary, driving_raiseEvent]; split <;> rfl
@[simp] theorem driving_closeSummary (a j : Bool) : driving (closeSummary a j s) = driving s := by
  unfold closeSummary
  split
  · simp
  · rw [driving_queueSummary, driving_zeroCounts]; rfl
@[simp] theorem driving_openCapture (e g : Nat) : driving (openCapture e g s) = driving s := by
  simp only [openCapture]
  split
  · simp
  · split
    · simp
    · split
      · simp
      · next h => obtain ⟨rest, -, rfl⟩ := allocateOne_some h; rfl
@[simp] theorem driving_reportCapture (i o : Nat) : driving (reportCapture i o s) = driving s := by
  unfold reportCapture
  split
  · rfl
  · split
    · rfl
    · exact driving_raiseEvent _ _ _
@[simp] theorem driving_captureFrame : driving (captureFrame s) = driving s := by rw [captureFrame_eq]; rfl
@[simp] theorem driving_closeRecord (e : Bool) : driving (closeRecord e s) = driving s := by rw [closeRecord_eq]; rfl
@[simp] theorem driving_closeCapture (a : Bool) : driving (closeCapture a s) = driving s := by rw [closeCapture_eq]; rfl
@[simp] theorem driving_countFrame : driving (countFrame s) = driving s := by
  unfold countFrame
  split
  · rfl
  · split <;> rfl
@[simp] theorem driving_endPlay (a j : Bool) : driving (endPlay a j s) = driving s := by
  simp only [endPlay]
  split
  · rw [driving_closeCapture]
    exact (driving_closeSummary a j).trans (by simp)
  · rfl

/-! ## Faults -/

@[simp] theorem driving_endJoinWait : driving (endJoinWait s) = driving s := by
  unfold endJoinWait
  split
  · split <;> simp
  · rfl
@[simp] theorem driving_abortEntry : driving (abortEntry s) = driving s :=
  (driving_endPlay true false).trans (driving_endJoinWait.trans driving_voidLookahead)
@[simp] theorem driving_endSource (k : Nat) : driving (endSource k s) = driving s := by
  simp only [endSource, driving_raiseEvent]; split <;> rfl
@[simp] theorem driving_leaveSet (k : Nat) : driving (leaveSet k s) = driving s := rfl
@[simp] theorem driving_endWait : driving (endWait s) = driving s := by rw [endWait_frame]; rfl
@[simp] theorem driving_enterParking : driving (enterParking s) = driving s :=
  (driving_endWait (s := abortEntry { s with run.state := .parking })).trans driving_abortEntry
@[simp] theorem driving_enterUnloading : driving (enterUnloading s) = driving s :=
  (driving_endWait (s := abortEntry { s with run.state := .unloading })).trans driving_abortEntry
@[simp] theorem driving_endStoppedDelay : driving (endStoppedDelay s) = driving s :=
  (driving_raiseEvent _ _ _).trans rfl
@[simp] theorem driving_pauseJoined : driving (pauseJoined s) = driving s := by
  unfold pauseJoined
  split
  · split <;> rfl
  · rfl
@[simp] theorem driving_joinSet (k : Nat) : driving (joinSet k s) = driving s := driving_pauseJoined
@[simp] theorem driving_raiseEnded (k n : Nat) : driving (raiseEnded k n s) = driving s := by
  unfold raiseEnded; split <;> simp

/-- R105: the action STOP leaves the taper counter to the stop taper. -/
@[simp] theorem driving_stopAction : driving (stopAction s) = driving s := by
  unfold stopAction
  split
  case h_7 | h_8 => rfl
  case h_9 =>
    split
    · split
      · simp
      · rfl
    · rfl
  all_goals exact driving_enterUnloading

/-- R85: a freeze makes the taper counter 0 and leaves the setpoints. -/
theorem driving_freeze : driving (freeze s) = (driving s).stilled := by
  have hwait : driving (endWait (abortEntry (pressureFall { s with run.state := .frozen, run.unload := .idle }))) =
      driving s := (driving_endWait.trans driving_abortEntry).trans rfl
  rw [← hwait]
  simp [freeze, driving, Drive.stilled, freezePipeline, previous_tmap]

theorem sparesDrive_handAction (a : Option FaultClass) (h : sparesDrive s t) : sparesDrive s (handAction a t) := by
  unfold handAction
  split
  · exact h.trans (.inr driving_freeze)
  · exact h.of_driving driving_stopAction
  · exact h

theorem sparesDrive_formAction (h : sparesDrive s t) : sparesDrive s (formAction t) := by
  unfold formAction
  split
  · exact h
  · exact sparesDrive_handAction _ (h.of_driving rfl)

theorem sparesDrive_raise (k n : Nat) (h : sparesDrive s t) : sparesDrive s (raise k n t) := by
  simp only [raise]
  split
  · exact h
  · refine sparesDrive.of_driving (sparesDrive_formAction ?_) rfl
    have hraised (v : Nat) (e : FaultEntry) : sparesDrive s (raiseEvent .faultRaised k v (setEntry k e t)) :=
      h.of_driving (driving_raiseEvent _ _ _)
    split
    · exact (hraised _ _).of_driving (driving_joinSet k)
    · exact hraised _ _

/-! ## The sequencer -/

@[simp] theorem driving_callReads : driving (callReads s) = driving s := by rw [callReads_eq]; rfl
@[simp] theorem driving_stand (p : Phase) (c : Nat) : driving (stand p c s) = driving s := rfl
@[simp] theorem driving_leaveEntry (p : Phase) : driving (leaveEntry p s) = driving s := rfl

@[simp] theorem driving_beginPlay (i : Nat) (p : PlayEntry) (b : Bool) : driving (beginPlay i p b s) = driving s := by
  have hopen (u : State) : driving (enterEntry i u) = driving u := rfl
  simp only [beginPlay, driving_installLookahead, hopen]
  split
  · rw [driving_openCapture, driving_openSummary, driving_zeroCounts]; rfl
  · rw [driving_openSummary, driving_zeroCounts]; rfl

@[simp] theorem driving_beginDwell (i d : Nat) : driving (beginDwell i d s) = driving s := rfl

@[simp] theorem driving_endSchedule : driving (endSchedule s) = driving s := by
  have hended (n : Nat) : driving (raiseEvent .scheduleEnded n 0 (stand .ended n s)) = driving s :=
    driving_raiseEvent _ _ _
  simp only [endSchedule]
  split
  · exact Eq.trans rfl (hended _)
  · exact hended _

@[simp] theorem driving_skipEntry (i g : Nat) : driving (skipEntry i g s) = driving s := by
  simp only [skipEntry, driving_raiseEvent, driving_raiseEnded]; rfl

@[simp] theorem driving_seek (fuel i : Nat) : driving (seek fuel i s).2 = driving s := by
  induction fuel generalizing i s with
  | zero => rfl
  | succ n ih =>
    unfold seek
    split
    · simp [ih]
    · rw [ih]; rfl
    · rfl

theorem sparesDrive_advance (fuel i : Nat) (h : sparesDrive s t) : sparesDrive s (advance fuel i t) := by
  induction fuel generalizing i t with
  | zero => exact h
  | succ n ih =>
    unfold advance
    split
    · exact h.of_driving driving_endSchedule
    · exact ih _ (h.of_driving (driving_raiseEvent _ _ _))
    · exact ih _ (h.of_driving rfl)
    · exact h.of_driving (driving_beginDwell _ _)
    · split
      · exact h.of_driving (driving_beginPlay _ _ _)
      · split
        · exact ih _ (h.of_driving (driving_skipEntry _ _))
        · exact sparesDrive_raise _ _ (h.of_driving (driving_stand _ _))

theorem sparesDrive_proceed (h : sparesDrive s t) : sparesDrive s (proceed t) := by
  unfold proceed
  split
  · exact h
  · split
    · split
      · exact h.of_driving (driving_beginPlay _ _ _)
      · exact h
    · split
      · split
        · exact sparesDrive_advance _ _ h
        · exact sparesDrive_advance _ _ h
        · exact h
      · exact h

theorem sparesDrive_enterRunning (h : sparesDrive s t) : sparesDrive s (enterRunning t) :=
  sparesDrive_proceed (h.of_driving (driving_callReads.trans rfl))

theorem sparesDrive_pauseEmptied (h : sparesDrive s t) : sparesDrive s (pauseEmptied t) := by
  have hrun (v : Nat) : sparesDrive s
      (enterRunning (raiseEvent .runResumed t.sequencer.cursor v { t with run.state := .running })) :=
    sparesDrive_enterRunning (h.of_driving ((driving_raiseEvent _ _ _).trans rfl))
  unfold pauseEmptied
  split
  · split
    · exact hrun 1
    · exact hrun 0
    · exact h
  · exact h

theorem sparesDrive_faultEnd (k : Nat) (h : sparesDrive s t) : sparesDrive s (faultEnd k t) := by
  have hend : sparesDrive s (leaveSet k (endSource k t)) := h.of_driving (by simp)
  simp only [faultEnd]
  split
  · refine sparesDrive.of_driving (sparesDrive_formAction ?_) rfl
    split
    · exact sparesDrive_pauseEmptied hend
    · exact hend
  · exact h

theorem sparesDrive_recheckMissing (id : Nat) (h : sparesDrive s t) : sparesDrive s (recheckMissing id t) := by
  unfold recheckMissing
  split
  · split
    · split
      · exact sparesDrive_faultEnd 35 h
      · exact h
    · exact h
  · exact h

theorem sparesDrive_endEntry (p : PlayParams) (h : sparesDrive s t) : sparesDrive s (endEntry p t) :=
  sparesDrive_proceed (h.of_driving ((driving_leaveEntry _).trans (driving_endPlay false false)))

theorem sparesDrive_makeJoin (j id : Nat) (h : sparesDrive s t) : sparesDrive s (makeJoin j id t) :=
  sparesDrive_proceed (h.of_driving (Eq.trans rfl (driving_endPlay false true)))

theorem sparesDrive_failJoin (p : PlayParams) (j : Nat) (h : sparesDrive s t) : sparesDrive s (failJoin p j t) := by
  simp only [failJoin]
  split
  · exact sparesDrive_endEntry _ (h.of_driving rfl)
  · exact h.of_driving rfl

theorem sparesDrive_join (p : PlayParams) (h : sparesDrive s t) : sparesDrive s (join p t) := by
  have hseek : sparesDrive s (seek advanceFuel (t.sequencer.cursor + 1) (carryLookahead t)).2 :=
    h.of_driving (by simp)
  simp only [join]
  split
  · split
    · exact sparesDrive_makeJoin _ _ hseek
    · exact sparesDrive_failJoin _ _ hseek
  · exact sparesDrive_failJoin _ _ hseek

theorem sparesDrive_lastDriveFrame (p : PlayParams) (h : sparesDrive s t) : sparesDrive s (lastDriveFrame p t) := by
  unfold lastDriveFrame
  split
  · exact sparesDrive_join p h
  · split
    · exact sparesDrive_endEntry p (h.of_driving driving_carryLookahead)
    · exact h.of_driving driving_voidLookahead

theorem sparesDrive_endDwell (h : sparesDrive s t) : sparesDrive s (endDwell t) :=
  sparesDrive_proceed (h.of_driving rfl)

/-! ## Completions -/

theorem sparesDrive_substitute (p : PlayParams) (i : Nat) (h : sparesDrive s t) : sparesDrive s (substitute p i t) := by
  have hmark (k : Nat) (cs : List Nat) {u : State} (hu : driving u = driving t) :
      sparesDrive s (markDamaged p.seg 2 (countMemoryErrors cs (addDoubleErrors p.seg k u))) :=
    h.of_driving (by simp [hu])
  simp only [substitute]
  split
  · exact hmark _ _ rfl
  · exact sparesDrive_raise _ _ (hmark _ _ rfl)

theorem sparesDrive_playRead (i : Nat) (o : ReadOutcome) (v : List Sample) (h : sparesDrive s t) :
    sparesDrive s (playRead i o v t) := by
  unfold playRead
  split
  · simp only
    split
    · exact sparesDrive_substitute _ _ (h.of_driving rfl)
    · exact h.of_driving rfl
  · exact h

@[simp] theorem driving_setPrefetch (q : Prefetch) : driving (setPrefetch q s) = driving s := by
  unfold setPrefetch; split <;> rfl

@[simp] theorem driving_prefetchRead (i : Nat) (o : ReadOutcome) (v : List Sample) :
    driving (prefetchRead i o v s) = driving s := by
  unfold prefetchRead
  split
  · simp only
    split
    · split <;> simp
    · simp
  · rfl

theorem sparesDrive_verifyRead (o : ReadOutcome) (v : List Sample) (h : sparesDrive s t) :
    sparesDrive s (verifyRead o v t) := by
  unfold verifyRead
  split
  · exact h
  · split
    · exact sparesDrive_recheckMissing _ (h.of_driving (driving_rejectTarget _ _))
    · simp only
      split
      · split
        · exact sparesDrive_recheckMissing _ (h.of_driving (driving_readyTarget _))
        · exact sparesDrive_recheckMissing _ (h.of_driving (driving_rejectTarget _ _))
      · exact h.of_driving rfl

@[simp] theorem driving_captureReadDone (i : Nat) (o : ReadOutcome) (v : List Sample) :
    driving (captureReadDone i o v s) = driving s := by
  have hfinish (j : CaptureJob) (u : State) : driving (finishCaptureRead j u) = driving u := by
    unfold finishCaptureRead; split <;> simp
  unfold captureReadDone
  split
  · rw [hfinish]
    split
    · exact driving_reportCapture _ _
    · rfl
  · rfl

theorem sparesDrive_deliverRead (i : Nat) (q : ReadPurpose) (o : ReadOutcome) (v : List Sample) (h : sparesDrive s t) :
    sparesDrive s (deliverRead i q o v t) := by
  cases q with
  | play => exact sparesDrive_playRead i o v h
  | prefetch => exact h.of_driving (driving_prefetchRead i o v)
  | verify => exact sparesDrive_verifyRead o v h
  | captureRead => exact h.of_driving (driving_captureReadDone i o v)

theorem sparesDrive_captureWritten (lost : Bool) (h : sparesDrive s t) : sparesDrive s (captureWritten lost t) := by
  unfold captureWritten
  split
  · exact h
  · next op rest _ =>
    have hrest {u : State} (hu : sparesDrive s u) : sparesDrive s
        (if rest.isEmpty then
          if (countFrame u).capture.closing then proceed (closeRecord false (countFrame u)) else countFrame u
        else u) := by
      split
      · split
        · exact sparesDrive_proceed (hu.of_driving (by simp))
        · exact hu.of_driving driving_countFrame
      · exact hu
    simp only
    refine hrest ?_
    split
    · exact h.of_driving ((driving_reportCapture _ _).trans rfl)
    · exact h.of_driving rfl

@[simp] theorem driving_segDataWritten (lost : Bool) : driving (segDataWritten lost s) = driving s := by
  unfold segDataWritten
  split
  · split
    · simp
    · split <;> simp
  · rfl

theorem sparesDrive_deliverWrite (r : Requestor) (lost : Bool) (h : sparesDrive s t) :
    sparesDrive s (deliverWrite r lost t) := by
  cases r with
  | capture => exact sparesDrive_captureWritten lost h
  | link => exact h.of_driving (driving_segDataWritten lost)
  | playback => exact h
  | scrub => exact h

@[simp] theorem driving_reportPage (p : Nat) : driving (reportPage p s) = driving s := by
  unfold reportPage; split <;> simp
@[simp] theorem driving_moveSweep (p w : Nat) : driving (moveSweep p w s) = driving s := by
  unfold moveSweep; split <;> rfl

theorem sparesDrive_completeGranted (found : ReadOutcome) (h : sparesDrive s t) :
    sparesDrive s (completeGranted found t) := by
  unfold completeGranted
  split
  · exact h
  · split
    · simp only [completeRead]
      split
      · exact sparesDrive_deliverRead _ _ _ _ (h.of_driving rfl)
      · exact h.of_driving rfl
    · simp only [completeWrite]
      split <;> exact sparesDrive_deliverWrite _ _ (h.of_driving rfl)
    · simp only [completeScrub]
      split
      · exact h.of_driving ((driving_reportPage _).trans ((driving_moveSweep _ _).trans rfl))
      · exact h.of_driving ((driving_moveSweep _ _).trans rfl)

theorem sparesDrive_drain (fuel : Nat) (h : sparesDrive s t) : sparesDrive s (drain fuel t) := by
  induction fuel generalizing t with
  | zero => exact h
  | succ n ih =>
    unfold drain
    split
    · have hdone := sparesDrive_completeGranted .clean (h.of_driving driving_settle)
      exact ih (hdone.of_driving driving_settle)
    · exact h

end Sys2Proof.Machine
end

section
/-! PROOF. The frame boundary (R68, R70, R77, R78): the setpoints that a frame forms, and that nothing else of a boundary
moves them: O52. -/

namespace Sys2Proof.Machine

variable {s t u : State}

/-! ## The clamp and the slew limit -/

/-- R77: the clamp stage keeps a value within the limits. -/
theorem clampStage_within {r : ChannelRec} (x : Int) (h : r.lo.toInt ≤ r.hi.toInt) :
    r.lo.toInt ≤ clampStage r x ∧ clampStage r x ≤ r.hi.toInt := by
  unfold clampStage
  split
  · exact ⟨h, le_rfl⟩
  · split <;> omega

/-- R78: the slew stage moves the previous setpoint by no more than the slew limit. -/
theorem slewStage_within (r : ChannelRec) (y x : Int) : (slewStage r y x - y).natAbs ≤ r.slew.toNat := by
  simp only [slewStage]
  split
  · omega
  · split <;> omega

/-- R78: the slew stage moves the previous setpoint toward the clamped value and not beyond it. -/
theorem slewStage_between (r : ChannelRec) (y x : Int) : min y x ≤ slewStage r y x ∧ slewStage r y x ≤ max y x := by
  simp only [slewStage]
  split
  · omega
  · split <;> omega

/-! ## The setpoints of a frame -/

/-- R70, R77, R78: the setpoint that a frame of kind `k` gives channel `c` after the setpoint `y`: the same on a held
frame, otherwise the target clamped and slewed. -/
def formedSetpoint (s : State) (k : FrameKind) (i c : Nat) (y : Int) : Int :=
  if k = .held then y else slewStage (channelRec s c) y (clampStage (channelRec s c) (targetOf s k i c))

theorem formChannel_disabled {k : FrameKind} {i c : Nat} {ch : DriveChannel} (h : enabled s c = false) :
    formChannel s k i c ch = ch := by simp [formChannel, h]

/-- R70: the first frame of a stay gives an enabled channel its park value. -/
theorem formChannel_first {k : FrameKind} {i c : Nat} {ch : DriveChannel} (h : enabled s c = true)
    (hn : ch.previous = none) : (formChannel s k i c ch).previous = some (channelRec s c).park.toInt := by
  simp [formChannel, h, hn]

theorem formChannel_next {k : FrameKind} {i c : Nat} {ch : DriveChannel} {y : Int} (h : enabled s c = true)
    (hy : ch.previous = some y) : (formChannel s k i c ch).previous = some (formedSetpoint s k i c y) := by
  simp only [formChannel, h, hy, formedSetpoint, Bool.not_true, Bool.false_eq_true, if_false]
  split
  · exact hy
  · split <;> rfl

theorem formFrame_channel {c : Nat} (hc : c < 16) : tget (formFrame s).pipeline.channels c =
    formChannel s (frameKind s) (frameTaper (frameKind s) s) c (tget s.pipeline.channels c) := tget_tmap _ _ hc

theorem formedSetpoint_slew (s : State) (k : FrameKind) (i c : Nat) (y : Int) :
    (formedSetpoint s k i c y - y).natAbs ≤ (channelRec s c).slew.toNat := by
  unfold formedSetpoint
  split
  · omega
  · exact slewStage_within _ _ _

/-- R77: from a setpoint within the limits the next is within them. -/
theorem formedSetpoint_within {k : FrameKind} {i c : Nat} {y : Int}
    (hlow : (channelRec s c).lo.toInt ≤ y) (hhigh : y ≤ (channelRec s c).hi.toInt) :
    (channelRec s c).lo.toInt ≤ formedSetpoint s k i c y ∧ formedSetpoint s k i c y ≤ (channelRec s c).hi.toInt := by
  unfold formedSetpoint
  split
  · exact ⟨hlow, hhigh⟩
  · obtain ⟨hclampLow, hclampHigh⟩ := clampStage_within (targetOf s k i c) (hlow.trans hhigh)
    obtain ⟨hslewLow, hslewHigh⟩ := slewStage_between (channelRec s c) y (clampStage (channelRec s c) (targetOf s k i c))
    omega

/-! ## Misses -/

theorem sparesDrive_applyVerdict (k : Nat) (v : Verdict) (h : sparesDrive s t) : sparesDrive s (applyVerdict k v t) := by
  cases v with
  | none => exact h
  | trips => exact sparesDrive_raise _ _ (h.of_driving rfl)
  | untrips => exact sparesDrive_faultEnd k h

theorem sparesDrive_applyVerdicts (v : Nat → Verdict) (ks : List Nat) (h : sparesDrive s t) :
    sparesDrive s (ks.foldl (fun u k => applyVerdict k (v k) u) t) := by
  induction ks generalizing t with
  | nil => exact h
  | cons k ks ih => exact ih (sparesDrive_applyVerdict k (v k) h)

theorem sparesDrive_deliver (h : sparesDrive s t) : sparesDrive s (deliver t) :=
  sparesDrive_applyVerdicts _ _ (h.of_driving rfl)

theorem sparesDrive_rigLinkCheck (w : Window) (h : sparesDrive s t) : sparesDrive s (rigLinkCheck w t) := by
  unfold rigLinkCheck
  split
  · exact sparesDrive_raise _ _ h
  · exact h

theorem sparesDrive_missOf (w : Option Window) (h : sparesDrive s t) : sparesDrive s (missOf w t) := by
  cases w with
  | none => exact h
  | some w => exact sparesDrive_rigLinkCheck w (sparesDrive_deliver (h.of_driving rfl))

/-! ## The reports -/

@[simp] theorem driving_reportEvidence (k : FrameKind) : driving (reportEvidence k s) = driving s := by
  rw [reportEvidence_eq]; rfl

theorem sparesDrive_reportSequencer (k : FrameKind) (h : sparesDrive s t) : sparesDrive s (reportSequencer k t) := by
  unfold reportSequencer
  split
  · simp only
    split
    · exact sparesDrive_lastDriveFrame _ (h.of_driving rfl)
    · exact h.of_driving rfl
  · split
    · exact sparesDrive_endEntry _ h
    · exact h
  · simp only
    split
    · exact sparesDrive_endDwell (h.of_driving rfl)
    · exact h.of_driving rfl
  · exact h

@[simp] theorem driving_endUnloadDelay : driving (endUnloadDelay s) = driving s := (driving_raiseEvent _ _ _).trans rfl

@[simp] theorem driving_enterStopped : driving (enterStopped s) = driving s := rfl

@[simp] theorem driving_parkArrival : driving (parkArrival s) = driving s := by
  unfold parkArrival
  split
  · simp
  · split
    · split
      · split
        · simp
        · rfl
      · simp
    · rfl
  · rfl

theorem sparesDrive_reportRun (k : FrameKind) (was : RunState) (i : Nat) (h : sparesDrive s t) :
    sparesDrive s (reportRun k was i t) := by
  have hpark : sparesDrive s (if k = .park ∧ allAt ChannelRec.park t then parkArrival t else t) := by
    split
    · exact h.of_driving driving_parkArrival
    · exact h
  unfold reportRun
  split
  · split
    · split
      · exact sparesDrive_enterRunning h
      · exact h.of_driving rfl
    · exact h
  · split
    · exact h.of_driving rfl
    · exact h
  · exact hpark
  · exact hpark
  · exact h

@[simp] theorem driving_latchSnapshot : driving (latchSnapshot s) = driving s := by rw [latchSnapshot_eq]; rfl

/-! ## The boundary -/

/-- R68, R71: after the frame is formed its sending and its reports leave the setpoints alone. -/
theorem sparesDrive_giveFrame_active (ha : s.config.mode = .active) : sparesDrive (formFrame s) (giveFrame s) := by
  rw [giveFrame_active ha]
  refine sparesDrive_reportRun _ _ _ (sparesDrive_reportSequencer _ (sparesDrive_refl.of_driving ?_))
  rw [driving_reportEvidence, driving_latchSnapshot]
  rfl

/-- R68: outside ACTIVE a boundary forms no setpoint. -/
theorem driving_giveFrame_inactive (ha : s.config.mode ≠ .active) : driving (giveFrame s) = driving s := by
  simp only [giveFrame, isActive, ha, decide_false, Bool.false_eq_true, if_false, driving_latchSnapshot]
  rfl

/-- R68: a boundary gives its frame on a state that differs from the one before it by nothing that bears on the setpoints
but a taper counter become 0, and so does the state after it from the one in which the frame was given. -/
theorem boundary_gives_frame (missFirst : Bool) (s : State) :
    ∃ u, sparesDrive s u ∧ sparesDrive (giveFrame u) (boundary missFirst s) := by
  have hopen : sparesDrive s (openWindow (tick (drain drainFuel s))) :=
    (sparesDrive_drain drainFuel sparesDrive_refl).of_driving rfl
  have hend {v w : State} (h : sparesDrive v w) : sparesDrive v (settle (callReads w)) :=
    h.of_driving (driving_settle.trans driving_callReads)
  cases missFirst
  · exact ⟨_, hopen, hend (sparesDrive_missOf _ sparesDrive_refl)⟩
  · exact ⟨_, sparesDrive_drain _ (sparesDrive_missOf _ hopen), hend sparesDrive_refl⟩

/-! ## Consecutive setpoints -/

/-- R114: a device that is up gives a boundary. -/
theorem exec_frameBoundary (missFirst : Bool) (hu : s.life = .up) :
    exec (.frameBoundary missFirst) s = .next (boundary missFirst s) := if_pos (decide_eq_true hu)

/-- Settles O52: the boundary's setpoint is the one that its frame forms (`boundary_gives_frame`), and the frame follows the
setpoint before it by the slew stage (`formedSetpoint_slew`). -/
theorem consecutiveSetpointsWithinSlew : Obligations.ConsecutiveSetpointsWithinSlew := by
  unfold Obligations.ConsecutiveSetpointsWithinSlew
  intro missFirst c s hu ha hc hen
  obtain ⟨u, hbefore, hafter⟩ := boundary_gives_frame missFirst s
  obtain ⟨-, hmode, -⟩ := hbefore.config
  have hformed := (sparesDrive_giveFrame_active (hmode.trans ha)).trans hafter
  have hrec := hbefore.channelRec c
  have henabled : enabled u c = true := by simp [enabled, hc, hrec, hen]
  have hprev := hbefore.setpoint c
  rw [exec_frameBoundary missFirst hu, ← hrec, ← hprev]
  rcases hp : (tget u.pipeline.channels c).previous with _ | y
  · refine ⟨_, _, rfl, ?_, fun _ => rfl, nofun⟩
    rw [hformed.setpoint, formFrame_channel hc, formChannel_first henabled hp]
  · refine ⟨_, formedSetpoint u (frameKind u) (frameTaper (frameKind u) u) c y, rfl, ?_, nofun, ?_⟩
    · rw [hformed.setpoint, formFrame_channel hc, formChannel_next henabled hp]
    · rintro _ ⟨⟩
      exact formedSetpoint_slew u _ _ c y

end Sys2Proof.Machine
end

section
/-! PROOF. The law of the setpoints (R77, R80) over the frame, the requests, the configuration and the resets: O57. -/

namespace Sys2Proof.Machine

variable {s t : State}

/-! ## The law, by the active image -/

theorem setpointLaw_none (h : s.config.active = none) : setpointLaw s ↔
    s.config.mode ≠ .active ∧ s.pipeline.taper = 0 ∧ ∀ c, c < 16 → (tget s.pipeline.channels c).previous = none := by
  simp only [setpointLaw, h]

theorem setpointLaw_some {g : Image} (h : s.config.active = some g) : setpointLaw s ↔
    s.config.mode = .active ∧ s.life = .up ∧ s.pipeline.taper ≤ g.general.nt.toNat ∧
      ∀ c, c < 16 → limitsLawful (tget g.channels c) = true ∧
        ∀ y, (tget s.pipeline.channels c).previous = some y →
          (tget g.channels c).lo.toInt ≤ y ∧ y ≤ (tget g.channels c).hi.toInt := by
  simp only [setpointLaw, h]

theorem limitsLawful_iff {r : ChannelRec} : limitsLawful r = true ↔
    r.lo.toInt ≤ r.mean.toInt ∧ r.mean.toInt ≤ r.hi.toInt ∧ r.lo.toInt ≤ r.park.toInt ∧
      r.park.toInt ≤ r.hi.toInt := by
  simp only [limitsLawful, Bool.and_eq_true, decide_eq_true_eq, and_assoc]

/-- Outside ACTIVE a lawful state has no active image. -/
theorem setpointLaw.active_none (h : setpointLaw s) (hm : s.config.mode ≠ .active) : s.config.active = none := by
  rcases hg : s.config.active with _ | g
  · rfl
  · obtain ⟨hactive, -⟩ := (setpointLaw_some hg).1 h
    exact absurd hactive hm

/-- A lawful device that is not up has no active image. -/
theorem setpointLaw.down (h : setpointLaw s) (hl : s.life ≠ .up) : s.config.active = none := by
  rcases hg : s.config.active with _ | g
  · rfl
  · obtain ⟨-, hup, -⟩ := (setpointLaw_some hg).1 h
    exact absurd hup hl

/-- What spares the setpoints and the mode keeps the law. -/
theorem setpointLaw.of_spares (h : setpointLaw s) (e : sparesDrive s t) : setpointLaw t := by
  obtain ⟨hlife, hmode, hactive⟩ := e.config
  have htaper := e.taper_le
  rcases hg : s.config.active with _ | g
  · obtain ⟨hm, hz, hp⟩ := (setpointLaw_none hg).1 h
    refine (setpointLaw_none (hactive.trans hg)).2 ⟨by rw [hmode]; exact hm, by omega, fun c hc => ?_⟩
    rw [e.setpoint, hp c hc]
  · obtain ⟨hm, hu, hi, hp⟩ := (setpointLaw_some hg).1 h
    refine (setpointLaw_some (hactive.trans hg)).2 ⟨hmode.trans hm, hlife.trans hu, htaper.trans hi, fun c hc => ?_⟩
    rw [e.setpoint]
    exact hp c hc

theorem setpointLaw.of_driving (h : setpointLaw s) (e : driving t = driving s) : setpointLaw t := h.of_spares (.inl e)

/-- Without an active image the mode may change between those that are not ACTIVE, and the device may come up or go. -/
theorem setpointLaw.outside (h : setpointLaw s) (hs : s.config.active = none) (ht : t.config.active = none)
    (hm : t.config.mode ≠ .active) (hp : t.pipeline = s.pipeline) : setpointLaw t := by
  obtain ⟨-, hz, hprev⟩ := (setpointLaw_none hs).1 h
  exact (setpointLaw_none ht).2 ⟨hm, by rw [hp]; exact hz, by rw [hp]; exact hprev⟩

/-- R67: the pipeline after a reset, or after the device has left ACTIVE, is lawful. -/
theorem setpointLaw_atReset (ht : t.config.active = none) (hm : t.config.mode ≠ .active)
    (hp : t.pipeline = .atReset) : setpointLaw t := by
  refine (setpointLaw_none ht).2 ⟨hm, by rw [hp]; rfl, fun c hc => ?_⟩
  rw [hp, Pipeline.atReset, tget_replicate _ hc]
  rfl

/-! ## The frame -/

/-- R77: a frame leaves every setpoint within its channel's limits: a first one is the park value, and a later one follows
a lawful one. -/
theorem formFrame_setpoint_within {c : Nat} {y : Int} (hc : c < 16) (hlim : limitsLawful (channelRec s c) = true)
    (hprev : ∀ x, (tget s.pipeline.channels c).previous = some x →
      (channelRec s c).lo.toInt ≤ x ∧ x ≤ (channelRec s c).hi.toInt)
    (hy : (tget (formFrame s).pipeline.channels c).previous = some y) :
    (channelRec s c).lo.toInt ≤ y ∧ y ≤ (channelRec s c).hi.toInt := by
  rw [formFrame_channel hc] at hy
  rcases hen : enabled s c
  · rw [formChannel_disabled hen] at hy
    exact hprev y hy
  · rcases hp : (tget s.pipeline.channels c).previous with _ | x
    · rw [formChannel_first hen hp, Option.some.injEq] at hy
      obtain ⟨-, -, hlow, hhigh⟩ := limitsLawful_iff.1 hlim
      rw [← hy]
      exact ⟨hlow, hhigh⟩
    · rw [formChannel_next hen hp, Option.some.injEq] at hy
      obtain ⟨hlow, hhigh⟩ := hprev x hp
      rw [← hy]
      exact formedSetpoint_within hlow hhigh

theorem setpointLaw_formFrame (h : setpointLaw s) (ha : s.config.mode = .active) : setpointLaw (formFrame s) := by
  rcases hg : s.config.active with _ | g
  · obtain ⟨hm, -⟩ := (setpointLaw_none hg).1 h
    exact absurd ha hm
  · obtain ⟨hm, hu, hi, hp⟩ := (setpointLaw_some hg).1 h
    have hgeneral : general s = g.general := by simp only [general, hg]
    have hrec (c : Nat) : channelRec s c = tget g.channels c := by simp only [channelRec, hg]
    have htaper := frameTaper_le (frameKind s) (hgeneral ▸ hi)
    rw [hgeneral] at htaper
    refine (setpointLaw_some (s := formFrame s) hg).2 ⟨hm, hu, htaper, fun c hc => ?_⟩
    obtain ⟨hlim, hprev⟩ := hp c hc
    rw [← hrec c] at hlim hprev ⊢
    exact ⟨hlim, fun y => formFrame_setpoint_within hc hlim hprev⟩

theorem setpointLaw_giveFrame (h : setpointLaw s) : setpointLaw (giveFrame s) := by
  by_cases ha : s.config.mode = .active
  · exact (setpointLaw_formFrame h ha).of_spares (sparesDrive_giveFrame_active ha)
  · exact h.of_driving (driving_giveFrame_inactive ha)

theorem setpointLaw_boundary (missFirst : Bool) (h : setpointLaw s) : setpointLaw (boundary missFirst s) := by
  obtain ⟨u, hbefore, hafter⟩ := boundary_gives_frame missFirst s
  exact (setpointLaw_giveFrame (h.of_spares hbefore)).of_spares hafter

/-! ## Responses and the heartbeat -/

theorem sparesDrive_takeBytes (bytes : List Byte) (low : Option Nat) (h : sparesDrive s t) :
    sparesDrive s (takeBytes bytes low t) := by
  have hservo {u : State} (hu : sparesDrive s u) : sparesDrive s (servoCheck u) := by
    unfold servoCheck
    split
    · split
      · exact sparesDrive_raise _ _ hu
      · exact hu
    · exact hu
  unfold takeBytes
  split
  · exact h
  · split
    · exact h
    · simp only
      split
      · exact hservo (sparesDrive_deliver (h.of_driving rfl))
      · exact h.of_driving rfl

theorem sparesDrive_heartbeatError (h : sparesDrive s t) : sparesDrive s (heartbeatError t) := by
  have hcount (n : Nat) : sparesDrive s { t with supervisor.loop := n } := h.of_driving rfl
  simp only [heartbeatError]
  generalize (if t.supervisor.loop < (general t).loopLimit.toNat then t.supervisor.loop + 1 else t.supervisor.loop) = n
  split
  · exact sparesDrive_raise _ _ (hcount n)
  · exact hcount n

/-! ## Requests -/

section Requests
variable {f : State → State}

theorem sparesDrive_onRequest (kind tag : Byte) (body : List Byte) (hf : ∀ u, sparesDrive s u → sparesDrive s (f u))
    (h : sparesDrive s t) : sparesDrive s (onRequest kind tag body f t) := by
  unfold onRequest
  split
  · split
    · exact h.of_driving rfl
    · split
      · exact h.of_driving (by rw [answerBusy_eq]; rfl)
      · exact hf _ (h.of_driving rfl)
  · exact h

theorem sparesDrive_withLength (n : Nat) (body : List Byte) (hf : ∀ u, sparesDrive s u → sparesDrive s (f u)) (u : State)
    (h : sparesDrive s u) : sparesDrive s (withLength n body f u) := by
  unfold withLength
  split
  · exact hf u h
  · exact h.of_driving (driving_answer _ _)

@[simp] theorem driving_runReply (st : Status) : driving (runReply st s) = driving s := driving_answer _ _

theorem sparesDrive_onRun (n : Nat) (body : List Byte) (hf : ∀ u, sparesDrive s u → sparesDrive s (f u)) (u : State)
    (h : sparesDrive s u) : sparesDrive s (onRun n body f u) := by
  unfold onRun
  split
  · exact h.of_driving (driving_runReply _)
  · split
    · exact h.of_driving (driving_runReply _)
    · exact hf u h

theorem sparesDrive_onSegment {g : Nat → State → State} (fits : Bool) (body : List Byte)
    (hg : ∀ id u, sparesDrive s u → sparesDrive s (g id u)) (u : State) (h : sparesDrive s u) :
    sparesDrive s (onSegment fits body g u) := by
  unfold onSegment
  split
  · exact h.of_driving (driving_answer _ _)
  · split
    · exact h.of_driving (driving_answer _ _)
    · exact hg _ u h

/-- What leaves the parts alone spares them. -/
theorem spares_of_driving (hf : ∀ u, driving (f u) = driving u) (u : State) (h : sparesDrive s u) : sparesDrive s (f u) :=
  h.of_driving (hf u)

end Requests

/-! ## Segment and capture requests -/

theorem driving_allocateBlock {n : Nat} {pages : List Nat} (h : allocateBlock n s = some (pages, t)) :
    driving t = driving s := by
  obtain ⟨-, -, rfl⟩ := allocateBlock_some h
  rfl

theorem driving_segOpenEffect (body : List Byte) : driving (segOpenEffect body s) = driving s := by
  have hplain (a : SegOpenArgs) : driving (openPlain a s) = driving s := by
    unfold openPlain
    split
    · simp
    · split
      · simp
      · split
        · simp
        · next ha => rw [driving_answer, driving_setDescriptor, driving_allocateBlock ha]
  have hrepl (a : SegOpenArgs) : driving (openReplacement a s) = driving s := by
    simp only [openReplacement]
    split
    · simp
    · split
      · simp
      · split
        · simp
        · split
          · simp
          · next ha => rw [driving_answer, driving_setDescriptor, driving_allocateBlock ha]
  simp only [segOpenEffect, onSegment]
  split
  · simp
  · split
    · simp
    · split
      · exact hrepl _
      · exact hplain _

theorem driving_segDataEffect (body : List Byte) (id : Nat) : driving (segDataEffect body id s) = driving s := by
  simp only [segDataEffect]
  split
  · simp
  · split <;> simp

theorem driving_segCloseEffect (body : List Byte) (id : Nat) : driving (segCloseEffect body id s) = driving s := by
  have hset (crc : BitVec 32) : driving (setVerifying id crc s) = driving s := by
    simp only [setVerifying]
    split <;> rfl
  simp only [segCloseEffect]
  split
  · simp
  · rw [driving_answer]
    exact hset _

theorem sparesDrive_segAbandonEffect (id : Nat) (h : sparesDrive s t) : sparesDrive s (segAbandonEffect id t) := by
  simp only [segAbandonEffect]
  split
  · refine sparesDrive_recheckMissing id (h.of_driving ?_)
    split <;> simp
  · split
    · exact sparesDrive_recheckMissing id (h.of_driving (by simp))
    · exact sparesDrive_recheckMissing id (h.of_driving (by simp))
    all_goals exact h.of_driving (driving_answer _ _)

theorem sparesDrive_segFreeEffect (id : Nat) (h : sparesDrive s t) : sparesDrive s (segFreeEffect id t) := by
  have hfreed : sparesDrive s (recheckMissing id (answer .ok .empty
      (emptyDescriptor id (removeReplacement id (dropTarget { seg := id, repl := true } t))))) :=
    sparesDrive_recheckMissing id (h.of_driving (by simp))
  unfold segFreeEffect
  split
  · exact h.of_driving (driving_answer _ _)
  · split
    case h_4 | h_5 => exact hfreed
    all_goals exact h.of_driving (driving_answer _ _)

theorem driving_captureReadEffect (id o n : Nat) : driving (captureReadEffect id o n s) = driving s := by
  unfold captureReadEffect
  repeat' split
  all_goals simp

theorem driving_captureFreeEffect (id : Nat) : driving (captureFreeEffect id s) = driving s := by
  have hwithdraw : driving (withdrawWrites id s) = driving s := by unfold withdrawWrites; split <;> rfl
  have hfree (r : CaptureRecord) : driving (freeRecord id r s) = driving s := by
    have hreleased : driving (releasePages r.pages (setSlot id none (withdrawWrites id s))) = driving s :=
      (driving_releasePages _).trans hwithdraw
    simp only [freeRecord]
    split
    · exact hreleased
    · exact hreleased
  unfold captureFreeEffect
  repeat' split
  all_goals simp [hfree]

/-! ## Run, schedule, fault and evidence requests -/

theorem driving_runStartEffect (i : Nat) : driving (runStartEffect i s) = driving s := by
  have hstart : driving (startRun i s) = driving s := (driving_raiseEvent _ _ _).trans rfl
  unfold runStartEffect
  repeat' split
  all_goals simp [hstart]

theorem driving_runPauseEffect : driving (runPauseEffect s) = driving s := by
  have hjoin : driving (joinHost s) = driving s := by
    unfold joinHost
    split
    · rfl
    · exact (driving_pauseJoined.trans (driving_raiseEvent _ _ _)).trans rfl
  unfold runPauseEffect
  split <;> simp [hjoin]

theorem sparesDrive_leaveHost (h : sparesDrive s t) : sparesDrive s (leaveHost t) := by
  unfold leaveHost
  split
  · exact sparesDrive_pauseEmptied (h.of_driving rfl)
  · exact h

theorem driving_runStopEffect : driving (runStopEffect s) = driving s := by
  unfold runStopEffect
  split <;> simp

theorem driving_runUnloadEffect : driving (runUnloadEffect s) = driving s := by
  unfold runUnloadEffect
  split
  case h_7 => split <;> simp
  all_goals simp

theorem driving_pressureOnEffect : driving (pressureOnEffect s) = driving s := by
  unfold pressureOnEffect
  repeat' split
  all_goals exact driving_runReply _

theorem driving_pressureOffEffect : driving (pressureOffEffect s) = driving s := by
  unfold pressureOffEffect
  repeat' split
  all_goals exact driving_runReply _

theorem driving_holdOutEffect (c : Nat) : driving (holdOutEffect c s) = driving s := by
  have hadd : driving (addHoldOut c s) = driving s := by unfold addHoldOut; split <;> rfl
  unfold holdOutEffect
  repeat' split
  all_goals simp [hadd]

theorem driving_restoreEffect (c : Nat) : driving (restoreEffect c s) = driving s := by
  have hdrop : driving (dropHoldOut c s) = driving s := by unfold dropHoldOut; split <;> rfl
  unfold restoreEffect
  repeat' split
  all_goals simp [hdrop]

theorem driving_appendEntries (es : List Entry) : driving (appendEntries es s) = driving s := by
  unfold appendEntries
  split
  · simp
  · rw [driving_answer]
    unfold redoAtEnd
    split
    · exact driving_redoLookahead.trans rfl
    · rfl

theorem driving_truncateEffect (k : Nat) : driving (truncateEffect k s) = driving s := by
  unfold truncateEffect
  split
  · simp
  · split
    · simp
    · rw [driving_answer]
      unfold redoReaching
      split
      · split
        · exact driving_redoLookahead.trans rfl
        · rfl
      · rfl

theorem driving_clearEffect : driving (clearEffect s) = driving s := by
  unfold clearEffect
  split
  · simp
  · exact driving_answer _ _

theorem driving_schedReadEffect (a n : Nat) : driving (schedReadEffect a n s) = driving s := by
  unfold schedReadEffect
  repeat' split
  all_goals simp

theorem driving_setFaultLine : driving (setFaultLine s) = driving s := rfl

theorem driving_endSources (ks : List Nat) : driving (endSources ks s) = driving s := by
  have hfold : driving (ks.foldl (fun t k => endSource k t) s) = driving s := by
    induction ks generalizing s with
    | nil => rfl
    | cons k ks ih => exact ih.trans (driving_endSource k)
  simp only [endSources]
  split
  · exact hfold
  · exact hfold

theorem sparesDrive_clearFaultsEffect (u : State) (h : sparesDrive s u) : sparesDrive s (clearFaultsEffect u) := by
  have hclear : sparesDrive s (clearSources u) := by
    have hend : sparesDrive s (endSources (endedSources u) u) := h.of_driving (driving_endSources _)
    unfold clearSources
    refine sparesDrive.of_driving (sparesDrive_formAction ?_) driving_setFaultLine
    exact hend.of_driving rfl
  have hrespond (b : Bool) {v : State} (hv : sparesDrive s v) : sparesDrive s (respondToClearing b v) := by
    unfold respondToClearing
    split
    · split
      · exact hv
      · exact hv.of_driving (driving_raiseEvent _ _ _)
    · split
      · exact sparesDrive_pauseEmptied hv
      · exact hv
  simp only [clearFaultsEffect]
  split
  · exact h.of_driving (driving_answer _ _)
  · exact (hrespond _ hclear).of_driving (driving_answer _ _)

theorem driving_summaryReadEffect : driving (summaryReadEffect s) = driving s := by
  unfold summaryReadEffect
  split
  · simp
  · exact driving_answer _ _

theorem sparesDrive_judgeBeat (u : State) (h : sparesDrive s u) : sparesDrive s (judgeBeat u) := by
  unfold judgeBeat
  split
  · split
    · exact h.of_driving (driving_answer _ _)
    · exact (sparesDrive_heartbeatError (t := beginPeriod u) (h.of_driving rfl)).of_driving (driving_answer _ _)
  · exact h.of_driving (driving_answer _ _)

/-! ## Configuration requests -/

@[simp] theorem driving_configReply (st : Status) (x : ConfigExtra) : driving (configReply st x s) = driving s :=
  driving_answer _ _

/-- R169: a configuration request keeps the law where what it does in an up device keeps it. -/
theorem setpointLaw_onConfig {f : State → State} (kind tag : Byte) (body : List Byte)
    (hf : ∀ u, u.life = .up → setpointLaw u → setpointLaw (f u)) (h : setpointLaw s) :
    setpointLaw (onRequest kind tag body (onConfig f) s) := by
  have hage (u : State) : driving (ageTimer u) = driving u := by unfold ageTimer; split <;> rfl
  unfold onRequest
  split
  · next hu =>
    split
    · exact h.of_driving rfl
    · split
      · exact h.of_driving (by rw [answerBusy_eq]; rfl)
      · have htaken : driving (ageTimer (takeInHand kind tag s)) = driving s := (hage _).trans rfl
        have hlife : (ageTimer (takeInHand kind tag s)).life = .up :=
          (congrArg Drive.life htaken).trans (of_decide_eq_true hu)
        simp only [onConfig]
        split
        · exact (h.of_driving htaken).of_driving (driving_configReply _ _)
        · exact hf _ hlife (h.of_driving htaken)
  · exact h

theorem setpointLaw_enterConfig (h : setpointLaw s) (hm : s.config.mode ≠ .active) : setpointLaw (enterConfig s) :=
  have hnone := h.active_none hm
  h.outside hnone hnone nofun rfl

/-- R67, R174: leaving ACTIVE returns the pipeline to its reset state. -/
theorem setpointLaw_leaveActive (s : State) : setpointLaw (leaveActive s) := setpointLaw_atReset rfl nofun rfl

theorem setpointLaw_configWriteEffect (sel : Selector) (body : List Byte) (h : setpointLaw s) :
    setpointLaw (configWriteEffect sel body s) := by
  have hwrite {u : State} (hu : setpointLaw u) : setpointLaw (configReply .ok .nothing (writeRecord sel body u)) :=
    hu.of_driving ((driving_configReply _ _).trans rfl)
  unfold configWriteEffect
  split
  · next hm => exact hwrite (setpointLaw_enterConfig h (by rw [hm]; decide))
  · exact hwrite h
  · exact hwrite h
  · split
    · exact h.of_driving (driving_configReply _ _)
    · exact hwrite (setpointLaw_leaveActive s)

theorem driving_configReadEffect (sel : Selector) (body : List Byte) :
    driving (configReadEffect sel body s) = driving s := by
  simp only [configReadEffect]
  split
  · simp
  · split
    · split <;> simp
    · simp

/-- R177: a channel record of which no condition is broken has its mean and park values within its limits. -/
theorem limitsLawful_of_firstBroken_none {c : Nat} {r : ChannelRec} (h : firstBroken 1 c (channelChecks r) = none) :
    limitsLawful r = true := by
  simp only [firstBroken, Option.map_eq_none_iff, List.find?_eq_none, channelChecks, List.forall_mem_cons,
    Bool.not_eq_true, Bool.not_eq_false', Bool.and_eq_true, decide_eq_true_eq] at h
  obtain ⟨-, -, ⟨hloMean, hmeanHi⟩, ⟨hloPark, hparkHi⟩, -⟩ := h
  exact limitsLawful_iff.2 ⟨hloMean, hmeanHi, hloPark, hparkHi⟩

/-- R177: a commit admits only such channel records. -/
theorem limitsLawful_of_commitFailure {g : Image} (h : commitFailure g = none) {c : Nat} (hc : c < 16) :
    limitsLawful (tget g.channels c) = true := by
  simp only [commitFailure, Option.or_eq_none_iff, List.findSome?_eq_none_iff] at h
  obtain ⟨-, hchannels, -, -⟩ := h
  exact limitsLawful_of_firstBroken_none (hchannels c (List.mem_range.2 hc))

/-- R67, R178: a good commit finds no setpoint and the taper counter 0, and its image's limits are lawful. -/
theorem setpointLaw_enterActive (hu : s.life = .up) (h : setpointLaw s) (hm : s.config.mode ≠ .active)
    (hg : commitFailure s.config.pending = none) : setpointLaw (enterActive s) := by
  obtain ⟨-, hz, hprev⟩ := (setpointLaw_none (h.active_none hm)).1 h
  simp only [enterActive]
  refine setpointLaw.of_driving (setpointLaw.of_spares ?_ (sparesDrive_handAction _ sparesDrive_refl)) rfl
  refine (setpointLaw_some rfl).2 ⟨rfl, hu, hz.trans_le (Nat.zero_le _), fun c hc =>
    ⟨limitsLawful_of_commitFailure hg hc, fun y hy => ?_⟩⟩
  exact nomatch (hprev c hc).symm.trans hy

theorem setpointLaw_commitEffect (crc : BitVec 16) (hu : s.life = .up) (h : setpointLaw s)
    (hm : s.config.mode ≠ .active) : setpointLaw (commitEffect crc s) := by
  simp only [commitEffect]
  split
  · exact h.of_driving (driving_configReply _ _)
  · split
    · exact h.of_driving (driving_configReply _ _)
    · next hg =>
      have hentered := (setpointLaw_enterActive hu h hm hg).of_driving (driving_configReply .ok .nothing)
      unfold permitAtEntry
      split
      · exact hentered.of_spares (sparesDrive_raise _ _ sparesDrive_refl)
      · exact hentered

/-! ## Resets -/

/-- R67, R166: every reset leaves the device outside ACTIVE and the pipeline in its reset state. -/
theorem setpointLaw_warmReset (cause : ResetCause) {life : Life} {line : Level} :
    setpointLaw { warmReset cause s with resetN := line, life := life } := by
  have hreset : (warmReset cause s).config.active = none ∧ (warmReset cause s).config.mode = .idle ∧
      (warmReset cause s).pipeline = .atReset := by
    unfold warmReset
    split <;> exact ⟨rfl, rfl, rfl⟩
  obtain ⟨hactive, hmode, hpipeline⟩ := hreset
  exact setpointLaw_atReset hactive (by rw [hmode]; decide) hpipeline

/-! ## The commands -/

/-- A meaning's answer keeps the law of the setpoints. -/
def keepsSetpoints (r : Result) : Prop := ∀ t, r = .next t → setpointLaw t

theorem keepsSetpoints_next (h : setpointLaw s) : keepsSetpoints (.next s) := fun _ he => by cases he; exact h

theorem keepsSetpoints_spared (h : setpointLaw s) (e : sparesDrive s t) : keepsSetpoints (.next t) :=
  keepsSetpoints_next (h.of_spares e)

theorem keepsSetpoints_settled (h : setpointLaw s) (e : sparesDrive s t) : keepsSetpoints (.next (settle t)) :=
  keepsSetpoints_spared h (e.of_driving driving_settle)

section Commands
variable {kind tag : Byte} {body : List Byte} {n : Nat} {f : State → State}

/-- A request whose length is checked first and whose effect leaves the parts alone. -/
theorem keepsSetpoints_withLength (hf : ∀ u, driving (f u) = driving u) (h : setpointLaw s) :
    keepsSetpoints (.next (onRequest kind tag body (withLength n body f) s)) :=
  keepsSetpoints_spared h
    (sparesDrive_onRequest _ _ _ (sparesDrive_withLength _ _ (spares_of_driving hf)) sparesDrive_refl)

/-- A request whose length is checked first, with the arbiter's work after it. -/
theorem keepsSetpoints_withLength_settled (hf : ∀ u, sparesDrive s u → sparesDrive s (f u)) (h : setpointLaw s) :
    keepsSetpoints (.next (settle (onRequest kind tag body (withLength n body f) s))) :=
  keepsSetpoints_settled h (sparesDrive_onRequest _ _ _ (sparesDrive_withLength _ _ hf) sparesDrive_refl)

/-- A run, pressure or hold-out request that leaves the parts alone. -/
theorem keepsSetpoints_onRun (hf : ∀ u, driving (f u) = driving u) (h : setpointLaw s) :
    keepsSetpoints (.next (onRequest kind tag body (onRun n body f) s)) :=
  keepsSetpoints_spared h (sparesDrive_onRequest _ _ _ (sparesDrive_onRun _ _ (spares_of_driving hf)) sparesDrive_refl)

/-- A run request, with the arbiter's work after it. -/
theorem keepsSetpoints_onRun_settled (hf : ∀ u, sparesDrive s u → sparesDrive s (f u)) (h : setpointLaw s) :
    keepsSetpoints (.next (settle (onRequest kind tag body (onRun n body f) s))) :=
  keepsSetpoints_settled h (sparesDrive_onRequest _ _ _ (sparesDrive_onRun _ _ hf) sparesDrive_refl)

/-- A segment request. -/
theorem keepsSetpoints_onSegment {fits : Bool} {g : Nat → State → State}
    (hg : ∀ id u, sparesDrive s u → sparesDrive s (g id u)) (h : setpointLaw s) :
    keepsSetpoints (.next (settle (onRequest kind tag body (onSegment fits body g) s))) :=
  keepsSetpoints_settled h (sparesDrive_onRequest _ _ _ (sparesDrive_onSegment _ _ hg) sparesDrive_refl)

/-- A configuration request whose effect keeps the law. -/
theorem keepsSetpoints_onConfig (hf : ∀ u, u.life = .up → setpointLaw u → setpointLaw (f u)) (h : setpointLaw s) :
    keepsSetpoints (.next (onRequest kind tag body (onConfig f) s)) :=
  keepsSetpoints_next (setpointLaw_onConfig _ _ _ hf h)

end Commands

/-- The moments of resets and start-up. -/
theorem keepsSetpoints_execResetNLow (h : setpointLaw s) : keepsSetpoints (execResetNLow s) := by
  unfold execResetNLow
  split
  · exact keepsSetpoints_next h
  · exact keepsSetpoints_spared h (.inl rfl)
  · exact keepsSetpoints_next (setpointLaw_warmReset .line)

theorem keepsSetpoints_execResetNHigh (h : setpointLaw s) : keepsSetpoints (execResetNHigh s) := by
  unfold execResetNHigh
  split
  · next k hl =>
    have hnone := h.down (by rw [hl]; nofun)
    obtain ⟨hmode, -⟩ := (setpointLaw_none hnone).1 h
    exact keepsSetpoints_next (h.outside hnone hnone hmode rfl)
  · exact keepsSetpoints_spared h (.inl rfl)

theorem keepsSetpoints_execStartUpEnd (h : setpointLaw s) : keepsSetpoints (execStartUpEnd s) := by
  unfold execStartUpEnd
  split
  · next k hl =>
    have hup : setpointLaw { s with life := .up, config := startConfig s.config } :=
      h.outside (h.down (by rw [hl]; nofun)) rfl nofun rfl
    exact keepsSetpoints_settled hup sparesDrive_refl
  · exact keepsSetpoints_next h

theorem keepsSetpoints_execSupplyLoss (h : setpointLaw s) : keepsSetpoints (execSupplyLoss s) := by
  unfold execSupplyLoss
  split
  · exact keepsSetpoints_next h
  · exact keepsSetpoints_next (setpointLaw_atReset rfl nofun rfl)

theorem keepsSetpoints_execReplySent (h : setpointLaw s) : keepsSetpoints (execReplySent s) := by
  unfold execReplySent
  split
  · split
    · exact keepsSetpoints_next (setpointLaw_warmReset .request)
    · refine keepsSetpoints_spared h (.inl ?_)
      unfold replyLeaves
      split <;> rfl
  · exact keepsSetpoints_next h

/-- The PERMIT input's and the supervisor's moments. -/
theorem keepsSetpoints_execPermitFilterExpiry (h : setpointLaw s) : keepsSetpoints (execPermitFilterExpiry s) := by
  unfold execPermitFilterExpiry
  split
  · simp only
    split
    · exact keepsSetpoints_settled h (sparesDrive_raise _ _ (.inl rfl))
    · exact keepsSetpoints_spared h (.inl rfl)
  · exact keepsSetpoints_next h

theorem keepsSetpoints_execHeartbeatPeriodExpiry (h : setpointLaw s) :
    keepsSetpoints (execHeartbeatPeriodExpiry s) := by
  unfold execHeartbeatPeriodExpiry
  split
  · exact keepsSetpoints_settled h (sparesDrive_heartbeatError (t := beginPeriod s) (.inl rfl))
  · exact keepsSetpoints_next h

theorem keepsSetpoints_execConfigSaveEnd (back : List Byte) (h : setpointLaw s) :
    keepsSetpoints (execConfigSaveEnd back s) := by
  unfold execConfigSaveEnd
  split
  · exact keepsSetpoints_next h
  · split <;> exact keepsSetpoints_spared h (.inl ((driving_raiseEvent _ _ _).trans rfl))

/-- R170: the configuration timer runs out in CONFIG, where there is no setpoint. -/
theorem keepsSetpoints_execConfigTimerExpiry (h : setpointLaw s) : keepsSetpoints (execConfigTimerExpiry s) := by
  unfold execConfigTimerExpiry
  split
  · next hrunning =>
    obtain ⟨hconfig, -⟩ := hrunning
    have hnone := h.active_none (by rw [hconfig]; decide)
    have hlocked : setpointLaw { s with config.mode := .locked, config.timer := none } :=
      h.outside hnone hnone nofun rfl
    exact keepsSetpoints_spared hlocked (.inl (driving_raiseEvent _ _ _))
  · exact keepsSetpoints_next h

/-- The run controller's timers. -/
theorem keepsSetpoints_timers (h : setpointLaw s) : keepsSetpoints (execHeartbeatWindowOpen s) ∧
    keepsSetpoints (execReadyGraceExpiry s) ∧ keepsSetpoints (execUnloadDelayExpiry s) ∧
    keepsSetpoints (execStoppedUnloadDelayExpiry s) := by
  unfold execHeartbeatWindowOpen execReadyGraceExpiry execUnloadDelayExpiry execStoppedUnloadDelayExpiry
  refine ⟨?_, ?_, ?_, ?_⟩ <;> split
  case refine_1.isTrue | refine_2.isTrue => exact keepsSetpoints_spared h (.inl rfl)
  case refine_3.isTrue => exact keepsSetpoints_spared h (.inl driving_endUnloadDelay)
  case refine_4.isTrue => exact keepsSetpoints_spared h (.inl driving_endStoppedDelay)
  all_goals exact keepsSetpoints_next h

/-- The arbiter's completions. -/
theorem keepsSetpoints_completions (found : ReadOutcome) (h : setpointLaw s) :
    keepsSetpoints (execMemoryRead found s) ∧ keepsSetpoints (execWholeWordWrite s) ∧
    keepsSetpoints (execPartialWordWrite found s) ∧ keepsSetpoints (execScrub found s) := by
  have hin (o : ReadOutcome) (op : MemOp) : keepsSetpoints (completeInside o op s) := by
    unfold completeInside
    split
    · exact keepsSetpoints_settled h (sparesDrive_completeGranted o sparesDrive_refl)
    · exact fun _ he => nomatch he
  have hidle : keepsSetpoints (.next s) := keepsSetpoints_next h
  refine ⟨?_, ?_, ?_, ?_⟩
  · unfold execMemoryRead
    split
    · exact hin _ _
    · exact hidle
  · unfold execWholeWordWrite
    split
    · split
      · exact hin _ _
      · exact hidle
    · exact hidle
  · unfold execPartialWordWrite
    split
    · split
      · exact hidle
      · exact hin _ _
    · exact hidle
  · unfold execScrub
    split
    · exact hin _ _
    · exact hidle

/-- The framing of the control link. -/
theorem keepsSetpoints_framing (kind tag : Byte) (bytes : List Byte) (low : Option Nat) (h : setpointLaw s) :
    keepsSetpoints (execFrameMarker s) ∧ keepsSetpoints (execRequestFrameDiscarded s bytes low) ∧
    keepsSetpoints (execControlByteGap s) ∧ keepsSetpoints (execUnknownRequest kind tag bytes s) ∧
    keepsSetpoints (execBusyRequest kind tag s) := by
  have hidle : keepsSetpoints (.next s) := keepsSetpoints_next h
  refine ⟨?_, ?_, ?_, ?_, ?_⟩
  · unfold execFrameMarker
    split
    · exact keepsSetpoints_spared h (.inl rfl)
    · exact hidle
  · unfold execRequestFrameDiscarded
    split
    · refine keepsSetpoints_spared h (.inl ?_)
      simp only [takeFrameBytes]
      split
      · rfl
      · split <;> rfl
    · exact hidle
  · unfold execControlByteGap
    split
    · exact keepsSetpoints_spared h (.inl rfl)
    · exact hidle
  · unfold execUnknownRequest
    split
    · exact hidle
    · exact keepsSetpoints_spared h
        (sparesDrive_onRequest _ _ _ (spares_of_driving fun _ => driving_answer _ _) sparesDrive_refl)
  · unfold execBusyRequest
    split
    · exact keepsSetpoints_spared h (.inl (by rw [answerBusy_eq]; rfl))
    · exact hidle

/-- Every command's meaning keeps the law of the setpoints. -/
theorem keepsSetpoints_exec (c : Instr) (h : setpointLaw s) : keepsSetpoints (exec c s) := by
  cases c with
  | powerOn => exact keepsSetpoints_next (setpointLaw_atReset rfl nofun rfl)
  | resetNLow => exact keepsSetpoints_execResetNLow h
  | resetNHigh => exact keepsSetpoints_execResetNHigh h
  | startUpEnd => exact keepsSetpoints_execStartUpEnd h
  | frameBoundary m =>
    rw [exec, execFrameBoundary]
    split
    · exact keepsSetpoints_next (setpointLaw_boundary m h)
    · exact keepsSetpoints_next h
  | responseFrame b low =>
    rw [exec, execResponseFrame]
    split
    · exact keepsSetpoints_settled h (sparesDrive_takeBytes b low sparesDrive_refl)
    · exact keepsSetpoints_next h
  | permitLineChange => exact keepsSetpoints_spared h (.inl rfl)
  | permitFilterExpiry => exact keepsSetpoints_execPermitFilterExpiry h
  | heartbeatWindowOpen => exact (keepsSetpoints_timers h).1
  | heartbeatPeriodExpiry => exact keepsSetpoints_execHeartbeatPeriodExpiry h
  | readyGraceExpiry => exact (keepsSetpoints_timers h).2.1
  | unloadDelayExpiry => exact (keepsSetpoints_timers h).2.2.1
  | stoppedUnloadDelayExpiry => exact (keepsSetpoints_timers h).2.2.2
  | configTimerExpiry => exact keepsSetpoints_execConfigTimerExpiry h
  | configSaveEnd r => exact keepsSetpoints_execConfigSaveEnd r h
  | memoryRead o => exact (keepsSetpoints_completions o h).1
  | wholeWordWrite => exact (keepsSetpoints_completions .clean h).2.1
  | partialWordWrite o => exact (keepsSetpoints_completions o h).2.2.1
  | scrub o => exact (keepsSetpoints_completions o h).2.2.2
  | requestFrameDiscarded b low => exact (keepsSetpoints_framing 0 0 b low h).2.1
  | controlByteGap => exact (keepsSetpoints_framing 0 0 [] none h).2.2.1
  | unknownRequest k t b => exact (keepsSetpoints_framing k t b none h).2.2.2.1
  | busyRequest k t => exact (keepsSetpoints_framing k t [] none h).2.2.2.2
  | replySent => exact keepsSetpoints_execReplySent h
  | identify t b => exact keepsSetpoints_withLength (fun _ => driving_answer _ _) h
  | status t b => exact keepsSetpoints_withLength (fun _ => driving_setJob _) h
  | eventsRead t b =>
    refine keepsSetpoints_withLength (fun u => ?_) h
    simp only
    split
    · simp
    · split
      · simp
      · exact (driving_answer _ _).trans rfl
  | reset t b => exact keepsSetpoints_withLength (fun _ => by simp) h
  | configWrite t b =>
    refine keepsSetpoints_onConfig (fun u _ hu => ?_) h
    split
    · exact hu.of_driving (driving_configReply _ _)
    · split
      · exact hu.of_driving (driving_configReply _ _)
      · exact setpointLaw_configWriteEffect _ _ hu
  | configRead t b =>
    refine keepsSetpoints_onConfig (fun u _ hu => hu.of_driving ?_) h
    split
    · simp
    · split
      · simp
      · exact driving_configReadEffect _ _
  | configCommit t b =>
    refine keepsSetpoints_onConfig (fun u hlife hu => ?_) h
    split
    · exact hu.of_driving (driving_configReply _ _)
    · split
      · exact hu.of_driving (driving_configReply _ _)
      · next hm =>
        exact setpointLaw_commitEffect _ hlife (setpointLaw_enterConfig hu (by rw [hm]; decide)) nofun
      · next hm => exact setpointLaw_commitEffect _ hlife hu (by rw [hm]; decide)
      · next hm => exact setpointLaw_commitEffect _ hlife hu (by rw [hm]; decide)
  | configSave t b =>
    refine keepsSetpoints_onConfig (fun u _ hu => hu.of_driving ?_) h
    split
    · simp
    · split
      · split
        · simp
        · exact (driving_configReply _ _).trans rfl
      · simp
  | segOpen t b =>
    exact keepsSetpoints_settled h
      (sparesDrive_onRequest _ _ _ (spares_of_driving fun _ => driving_segOpenEffect b) sparesDrive_refl)
  | segOpenReplace t b =>
    exact keepsSetpoints_settled h
      (sparesDrive_onRequest _ _ _ (spares_of_driving fun _ => driving_segOpenEffect b) sparesDrive_refl)
  | segData t b => exact keepsSetpoints_onSegment (fun id => spares_of_driving fun _ => driving_segDataEffect b id) h
  | segClose t b => exact keepsSetpoints_onSegment (fun id => spares_of_driving fun _ => driving_segCloseEffect b id) h
  | segAbandon t b => exact keepsSetpoints_onSegment (fun id _ hu => sparesDrive_segAbandonEffect id hu) h
  | segFree t b => exact keepsSetpoints_onSegment (fun id _ hu => sparesDrive_segFreeEffect id hu) h
  | segQuery t b =>
    exact keepsSetpoints_spared h (sparesDrive_onRequest _ _ _
      (sparesDrive_onSegment _ _ fun _ => spares_of_driving fun _ => driving_answer _ _) sparesDrive_refl)
  | schedAppend t b =>
    refine keepsSetpoints_settled h (sparesDrive_onRequest _ _ _ (spares_of_driving fun u => ?_) sparesDrive_refl)
    split
    · simp
    · split
      · simp
      · exact driving_appendEntries _
  | schedTruncate t b =>
    exact keepsSetpoints_withLength_settled (spares_of_driving fun _ => driving_truncateEffect _) h
  | schedClear t b => exact keepsSetpoints_withLength (fun _ => driving_clearEffect) h
  | schedRead t b => exact keepsSetpoints_withLength (fun _ => driving_schedReadEffect _ _) h
  | runStart t b => exact keepsSetpoints_onRun (fun _ => driving_runStartEffect _) h
  | runPause t b => exact keepsSetpoints_onRun_settled (spares_of_driving fun _ => driving_runPauseEffect) h
  | runResume t b =>
    exact keepsSetpoints_onRun_settled (fun _ hu => (sparesDrive_leaveHost hu).of_driving (driving_runReply _)) h
  | runStop t b => exact keepsSetpoints_onRun_settled (spares_of_driving fun _ => driving_runStopEffect) h
  | runUnload t b => exact keepsSetpoints_onRun_settled (spares_of_driving fun _ => driving_runUnloadEffect) h
  | pressureOn t b => exact keepsSetpoints_onRun (fun _ => driving_pressureOnEffect) h
  | pressureOff t b => exact keepsSetpoints_onRun (fun _ => driving_pressureOffEffect) h
  | holdOut t b => exact keepsSetpoints_onRun (fun _ => driving_holdOutEffect _) h
  | restore t b => exact keepsSetpoints_onRun (fun _ => driving_restoreEffect _) h
  | clearFaults t b => exact keepsSetpoints_withLength_settled sparesDrive_clearFaultsEffect h
  | faultsRead t b => exact keepsSetpoints_withLength (fun _ => driving_answer _ _) h
  | captureList t b => exact keepsSetpoints_withLength (fun _ => driving_answer _ _) h
  | captureRead t b =>
    exact keepsSetpoints_withLength_settled (spares_of_driving fun _ => driving_captureReadEffect _ _ _) h
  | captureFree t b => exact keepsSetpoints_withLength_settled (spares_of_driving fun _ => driving_captureFreeEffect _) h
  | summaryRead t b => exact keepsSetpoints_withLength (fun _ => driving_summaryReadEffect) h
  | heartbeat t b => exact keepsSetpoints_withLength_settled sparesDrive_judgeBeat h
  | frameMarker => exact (keepsSetpoints_framing 0 0 [] none h).1
  | supplyLoss => exact keepsSetpoints_execSupplyLoss h

/-- Settles O57: a frame keeps the law (`setpointLaw_formFrame`), a commit makes it (`setpointLaw_enterActive`), and every
other command spares the setpoints or returns the pipeline to its reset state. -/
theorem setpointsStayWithinLimits : Obligations.SetpointsStayWithinLimits := by
  unfold Obligations.SetpointsStayWithinLimits
  exact fun c _ t h he => keepsSetpoints_exec c h t he

end Sys2Proof.Machine
end

section
/-! PROOF. The frame boundary that waits for more memory operations than the model's drain completes (R12, R68, R151): O49. -/

namespace Sys2Proof.Machine

/-! ## A capture frame of more writes than a drain completes -/

/-- A whole-word write of zeros to word 0, which leaves the cleared store as it is. -/
def zeroWrite : MemOp := .write 0 [(0, 0), (1, 0), (2, 0), (3, 0)]

/-- The factory image with drive channel 0 enabled: mean 0, slew limit 64. -/
def oneChannelImage : Image :=
  { factoryImage with channels := tset factoryImage.channels 0 { factoryChannel with enabled := 1 } }

/-- A RUNNING device that waits for a capture close with `n` writes of the capture frame in hand, the first of them
granted. The entry it then comes to is a PLAY of an EMPTY segment, and SEGMENT_MISSING is of class TRIP. Channel 0's
previous setpoint is 40. -/
def awaitingWrites (n : Nat) : State :=
  { State.reset with
    pool := []
    config := { ConfigStore.atReset with mode := .active, active := some oneChannelImage }
    pipeline := { Pipeline.atReset with
      channels := tset Pipeline.atReset.channels 0 { DriveChannel.atReset with previous := some 40 } }
    run := { RunControl.atReset with state := .running }
    schedule := [.play { seg := 0, gain := 0, range := none, edge := .tapered, capture := false }]
    sequencer := { Sequencer.atReset with phase := .awaiting }
    faults := { FaultTable.atReset with
      entries := tset FaultTable.atReset.entries 35 { FaultEntry.atReset 35 with cls := .trip } }
    capture := { CaptureUnit.atPowerOn with ops := List.replicate n zeroWrite, closing := true }
    arbiter := { Arbiter.free with
      granted := some { requestor := .capture, op := zeroWrite, live := true }, scrub := some (.scrub 0 0) } }

theorem settle_awaitingWrites (n : Nat) : settle (awaitingWrites (n + 1)) = awaitingWrites (n + 1) := rfl

/-- A write that is not the last completes, and the next is granted. -/
theorem completeGranted_awaitingWrites (n : Nat) :
    settle (completeGranted .clean (awaitingWrites (n + 2))) = awaitingWrites (n + 1) := rfl

/-- R151: each step of a drain completes one write. -/
theorem drain_awaitingWrites (fuel n : Nat) : drain fuel (awaitingWrites (fuel + n + 1)) = awaitingWrites (n + 1) := by
  induction fuel with
  | zero => rw [Nat.zero_add, drain]
  | succ fuel ih =>
    have hlen : fuel + 1 + n + 1 = (fuel + n) + 2 := by omega
    have howes : owesBoundary (awaitingWrites ((fuel + n) + 2)) = true := rfl
    rw [hlen, drain, if_pos howes, settle_awaitingWrites, completeGranted_awaitingWrites, ih]

/-- The first drain of a boundary leaves one of 257 writes in hand. -/
theorem drainFuel_awaitingWrites : drain drainFuel (awaitingWrites 257) = awaitingWrites 1 := drain_awaitingWrites 256 0

/-- The frame of the state so left is a mean frame: channel 0 moves from 40 to 0. -/
theorem formFrame_awaitingWrites : (tget (formFrame (awaitingWrites 1)).pipeline.channels 0).previous = some 0 := by
  decide +kernel

/-- The boundary that takes its misses first drains again. The last write ends the wait, the missing segment freezes the
run, and the frame given is a held frame: channel 0 stands at 40. -/
theorem boundary_awaitingWrites : (tget (boundary true (awaitingWrites 257)).pipeline.channels 0).previous = some 40 := by
  simp only [boundary, drainFuel_awaitingWrites, if_true]
  decide +kernel

/-- Refutes O49: where the miss comes first the boundary drains twice, and a state with more operations in hand than one
drain completes (`drainFuel` is 256) has its frame formed after the second drain, not, as the statement has it for a
boundary that closes no missed window, after the first. (A capture frame has at most 32 values; the statement does not assume that no
more writes than those of one are in hand.) -/
theorem not_frameFormsSetpoints : ¬ Obligations.FrameFormsSetpoints := by
  unfold Obligations.FrameFormsSetpoints
  rintro ⟨hboundary, -⟩
  obtain ⟨t, hexec, -, hready, -⟩ := hboundary true (awaitingWrites 257) rfl rfl
  have ht : boundary true (awaitingWrites 257) = t := Host.Outcome.next.inj ((exec_frameBoundary true rfl).symm.trans hexec)
  have hformed := hready (.inr fun _ hw => nomatch hw) 0 (by decide)
  rw [drainFuel_awaitingWrites, formFrame_awaitingWrites, ← ht, boundary_awaitingWrites] at hformed
  exact absurd hformed (by decide)

end Sys2Proof.Machine
end

section
/-! PROOF. What keeps the laws of the pressure line and of FROZEN below the commands (R104, R106, R107, R138): the parts
of the state these laws speak of, what leaves them alone, and how a fault, a stop and a freeze move them. -/

namespace Sys2Proof.Machine

variable {s t u : State}

/-! ## What the laws speak of -/

/-- R107, R133, R138, R166: the parts that only the resets, the configuration, PERMIT and the fault table move. -/
structure Charge where
  life : Life
  mode : DeviceMode
  permit : Level
  entries : Vector FaultEntry 38
  action : Option FaultClass

/-- R106: the parts that FROZEN holds still. -/
structure Stance where
  state : RunState
  pressure : Level
  grace : Grace
  unload : UnloadTimer
  taper : Nat
  params : Option EntryParams
  phase : Phase
  join : Bool

def charge (s : State) : Charge :=
  { life := s.life, mode := s.config.mode, permit := s.permit.filtered, entries := s.faults.entries
    action := s.faults.action }

def stance (s : State) : Stance :=
  { state := s.run.state, pressure := s.run.pressure, grace := s.run.grace, unload := s.run.unload
    taper := s.pipeline.taper, params := s.pipeline.params, phase := s.sequencer.phase, join := s.sequencer.joinPending }

def watched (s : State) : Charge × Stance := (charge s, stance s)

theorem charge_of_watched (h : watched t = watched s) : charge t = charge s := congrArg Prod.fst h

theorem run_of_watched (h : watched t = watched s) :
    t.run.state = s.run.state ∧ t.run.pressure = s.run.pressure ∧ t.pipeline.params = s.pipeline.params :=
  ⟨congrArg (fun w => w.2.state) h, congrArg (fun w => w.2.pressure) h, congrArg (fun w => w.2.params) h⟩

/-- R138: a fault of class TRIP is held exactly while the active sources form the action TRIP. -/
theorem effectiveAction_trip_iff : effectiveAction s.faults.entries = some .trip ↔ tripHeld s = true := by
  have hrank (c : FaultClass) : actionRank (some c) ≤ 3 ↔ c ≠ .trip := by cases c <;> decide
  have hle : actionRank (effectiveAction s.faults.entries) ≤ 3 ↔ effectiveAction s.faults.entries ≠ some .trip := by
    rcases effectiveAction s.faults.entries with _ | c
    · simp [actionRank]
    · simpa using hrank c
  rw [← not_iff_not, ← ne_eq, ← hle, actionRank_effectiveAction_le, tripHeld, List.any_eq_true]
  simp only [mem_table, hrank]
  simp

theorem tripHeld_iff : tripHeld s = true ↔ ∃ k, k < 38 ∧ (source s k).active = true ∧ (source s k).cls = .trip := by
  simp only [tripHeld, List.any_eq_true, Bool.and_eq_true, decide_eq_true_eq, mem_table, source]
  exact ⟨fun ⟨_, ⟨k, hk, rfl⟩, h⟩ => ⟨k, hk, h⟩, fun ⟨k, hk, h⟩ => ⟨_, ⟨k, hk, rfl⟩, h⟩⟩

/-- R106: how the device stands while the run is FROZEN. -/
def standsFrozen (s : State) : Prop :=
  s.config.mode = .active ∧ s.run.pressure = .low ∧ s.run.grace = .idle ∧ s.run.unload = .idle ∧
    s.pipeline.taper = 0 ∧ s.sequencer.phase = .idle ∧ s.sequencer.joinPending = false ∧ s.pipeline.params = none

theorem standsFrozen.low (h : standsFrozen s) : s.run.pressure = .low := by
  obtain ⟨-, hlow, -⟩ := h
  exact hlow

/-- R106: a FROZEN run stands as R106 says. -/
def frozenSound (s : State) : Prop := s.run.state = .frozen → standsFrozen s

/-- R138: a fault of class TRIP that is held has formed the effective action. -/
def tripSeen (s : State) : Prop := tripHeld s = true → s.faults.action = some .trip

/-- What stands against a FROZEN run, if the run stands as R106 says. -/
def Unfrozen (s : State) : Prop := frozenSound s → s.run.state ≠ .frozen

theorem unfrozen_of_state (h : s.run.state ≠ .frozen) : Unfrozen s := fun _ => h

theorem unfrozen_of_params (h : s.pipeline.params ≠ none) : Unfrozen s := fun hf hs => by
  obtain ⟨-, -, -, -, -, -, -, hparams⟩ := hf hs
  exact h hparams

theorem unfrozen_of_join (h : s.sequencer.joinPending = true) : Unfrozen s := fun hf hs => by
  obtain ⟨-, -, -, -, -, -, hjoin, -⟩ := hf hs
  exact Bool.false_ne_true (hjoin.symm.trans h)

/-- From `s` to `t` the laws of the pressure line and of FROZEN are kept: the mode, PERMIT and the classes stand, the line
does not rise, a TRIP newly held freezes the run, and a FROZEN run stays so. -/
structure Follows (s t : State) : Prop where
  life : t.life = s.life
  mode : t.config.mode = s.config.mode
  permit : t.permit.filtered = s.permit.filtered
  classes : ∀ k, (source t k).cls = (source s k).cls
  seen : tripSeen s → tripSeen t
  pressed : tripSeen s → (s.run.pressure = .high → s.faults.action ≠ some .trip) → t.run.pressure = .high →
    s.run.pressure = .high ∧ t.faults.action ≠ some .trip
  sound : tripSeen s → frozenSound s → frozenSound t
  stays : tripSeen s → frozenSound s → s.run.state = .frozen → t.run.state = .frozen
  tripped : tripSeen s → frozenSound s → (s.faults.action = some .trip → s.run.state = .frozen) →
    t.faults.action = some .trip → t.run.state = .frozen

theorem Follows.trans (h : Follows s t) (h' : Follows t u) : Follows s u where
  life := h'.life.trans h.life
  mode := h'.mode.trans h.mode
  permit := h'.permit.trans h.permit
  classes k := (h'.classes k).trans (h.classes k)
  seen hs := h'.seen (h.seen hs)
  pressed hs hp hu := by
    obtain ⟨ht, hact⟩ := h'.pressed (h.seen hs) (fun ht => (h.pressed hs hp ht).2) hu
    exact ⟨(h.pressed hs hp ht).1, hact⟩
  sound hs hf := h'.sound (h.seen hs) (h.sound hs hf)
  stays hs hf hz := h'.stays (h.seen hs) (h.sound hs hf) (h.stays hs hf hz)
  tripped hs hf ht := h'.tripped (h.seen hs) (h.sound hs hf) (h.tripped hs hf ht)

theorem tripHeld_congr (h : t.faults.entries = s.faults.entries) : tripHeld t = tripHeld s := by
  rw [tripHeld, h, tripHeld]

theorem charge_faults (h : charge t = charge s) :
    t.faults.entries = s.faults.entries ∧ t.faults.action = s.faults.action :=
  ⟨congrArg Charge.entries h, congrArg Charge.action h⟩

/-- What leaves the charge alone, does not raise the pressure, does not freeze the run and leaves a FROZEN run as it
stands keeps the laws. -/
theorem Follows.of_charge (hc : charge t = charge s)
    (hp : t.run.pressure = s.run.pressure ∨ t.run.pressure = .low) (hz : t.run.state = .frozen → s.run.state = .frozen)
    (hf : frozenSound s → s.run.state = .frozen → t.run.state = .frozen ∧ standsFrozen t) : Follows s t := by
  obtain ⟨hentries, haction⟩ := charge_faults hc
  constructor
  case life => exact congrArg Charge.life hc
  case mode => exact congrArg Charge.mode hc
  case permit => exact congrArg Charge.permit hc
  case classes => intro k; rw [source, hentries, source]
  case seen => intro hs; rw [tripSeen, tripHeld_congr hentries, haction]; exact hs
  case pressed =>
    intro _ hlaw ht
    rcases hp with e | e <;> rw [e] at ht
    · exact ⟨ht, by rw [haction]; exact hlaw ht⟩
    · cases ht
  case sound => exact fun _ hs ht => (hf hs (hz ht)).2
  case stays => exact fun _ hs h => (hf hs h).1
  case tripped => exact fun _ hs hlaw ht => (hf hs (hlaw (haction ▸ ht))).1

/-- So does, where no FROZEN run is found, whatever else it does. -/
theorem Follows.of_unfrozen (hu : Unfrozen s) (hc : charge t = charge s)
    (hp : t.run.pressure = s.run.pressure ∨ t.run.pressure = .low) (hz : t.run.state = .frozen → s.run.state = .frozen) :
    Follows s t := .of_charge hc hp hz fun hs h => absurd h (hu hs)

theorem standsFrozen_congr (hmode : t.config.mode = s.config.mode) (h : stance t = stance s) (hs : standsFrozen s) :
    standsFrozen t := by
  obtain ⟨ha, hrest⟩ := hs
  have hall (w : Stance → Prop) (hw : w (stance s)) : w (stance t) := h ▸ hw
  exact ⟨hmode.trans ha, hall (fun w => w.pressure = .low ∧ w.grace = .idle ∧ w.unload = .idle ∧ w.taper = 0 ∧
    w.phase = .idle ∧ w.join = false ∧ w.params = none) hrest⟩

/-- What leaves the watched parts alone keeps the laws. -/
theorem Follows.of_watched (h : watched t = watched s) : Follows s t := by
  obtain ⟨hstate, hpressure, -⟩ := run_of_watched h
  exact .of_charge (charge_of_watched h) (.inl hpressure) (fun ht => hstate ▸ ht)
    fun hs hz => ⟨hstate.trans hz, standsFrozen_congr (congrArg (fun w => w.1.mode) h) (congrArg Prod.snd h) (hs hz)⟩

theorem Follows.refl (s : State) : Follows s s := .of_watched rfl

theorem Follows.after (h : Follows t u) (e : watched t = watched s) : Follows s u := (Follows.of_watched e).trans h

theorem Follows.of_eq (h : Follows s t) (e : watched u = watched t) : Follows s u := h.trans (.of_watched e)

/-! ## Events, replies, pages, segments -/

@[simp] theorem watched_raiseEvent (k : EventKind) (a v : Nat) : watched (raiseEvent k a v s) = watched s := by
  simp [watched, charge, stance]
@[simp] theorem watched_answer (st : Status) (b : ReplyBody) : watched (answer st b s) = watched s := by
  simp [watched, charge, stance]
@[simp] theorem watched_setJob (j : LinkJob) : watched (setJob j s) = watched s := by simp [watched, charge, stance]
@[simp] theorem watched_settle : watched (settle s) = watched s := by simp [watched, charge, stance]
@[simp] theorem watched_releasePages (ps : List Nat) : watched (releasePages ps s) = watched s := by
  simp [watched, charge, stance]
@[simp] theorem watched_setDescriptor (id : Nat) (d : Descriptor) : watched (setDescriptor id d s) = watched s := rfl
@[simp] theorem watched_dropTarget (v : Target) : watched (dropTarget v s) = watched s := by
  simp [watched, charge, stance]
@[simp] theorem watched_withdrawReads (q : ReadPurpose) : watched (withdrawReads q s) = watched s := rfl
@[simp] theorem watched_voidLookahead : watched (voidLookahead s) = watched s := rfl
@[simp] theorem watched_installLookahead : watched (installLookahead s) = watched s := rfl
@[simp] theorem watched_carryLookahead : watched (carryLookahead s) = watched s := rfl
@[simp] theorem watched_redoLookahead : watched (redoLookahead s) = watched s := by
  unfold redoLookahead; split <;> simp
@[simp] theorem watched_segChanged (id : Nat) : watched (segChanged id s) = watched s := by
  unfold segChanged; split <;> simp
@[simp] theorem watched_carriedAtSwap (id : Nat) : watched (carriedAtSwap id s) = watched s := rfl
@[simp] theorem watched_dropCarried (id : Nat) (r : Bool) : watched (dropCarried id r s) = watched s := rfl
@[simp] theorem watched_swapIn (id : Nat) : watched (swapIn id s) = watched s := by unfold swapIn; split <;> simp
@[simp] theorem watched_endSegPlay (id : Nat) : watched (endSegPlay id s) = watched s := by
  simp only [endSegPlay]; split <;> simp
@[simp] theorem watched_addDoubleErrors (id k : Nat) : watched (addDoubleErrors id k s) = watched s := rfl
@[simp] theorem watched_markDamaged (id o : Nat) : watched (markDamaged id o s) = watched s := by
  unfold markDamaged; split <;> simp
@[simp] theorem watched_removeReplacement (id : Nat) : watched (removeReplacement id s) = watched s := by
  unfold removeReplacement; split <;> simp
@[simp] theorem watched_dropReplacement (id : Nat) : watched (dropReplacement id s) = watched s := by
  unfold dropReplacement; split <;> simp
@[simp] theorem watched_emptyDescriptor (id : Nat) : watched (emptyDescriptor id s) = watched s := by
  simp [emptyDescriptor]
@[simp] theorem watched_rejectTarget (v : Target) (m : Bool) : watched (rejectTarget v m s) = watched s := by
  unfold rejectTarget; split <;> simp
@[simp] theorem watched_readyTarget (v : Target) : watched (readyTarget v s) = watched s := by
  simp only [readyTarget]
  split
  · split
    · simp
    · split <;> simp
  · simp

/-! ## Evidence -/

@[simp] theorem watched_accumulate : watched (accumulate s) = watched s := by rw [accumulate_eq]; rfl
@[simp] theorem watched_countMemoryErrors (cs : List Nat) : watched (countMemoryErrors cs s) = watched s := by
  unfold countMemoryErrors; split <;> rfl
@[simp] theorem watched_closeSummary (a j : Bool) : watched (closeSummary a j s) = watched s := by
  rw [closeSummary_eq]; rfl
@[simp] theorem watched_reportCapture (i o : Nat) : watched (reportCapture i o s) = watched s := by
  unfold reportCapture
  split
  · rfl
  · split
    · rfl
    · exact watched_raiseEvent _ _ _
@[simp] theorem watched_closeRecord (e : Bool) : watched (closeRecord e s) = watched s := by rw [closeRecord_eq]; rfl
@[simp] theorem watched_closeCapture (a : Bool) : watched (closeCapture a s) = watched s := by rw [closeCapture_eq]; rfl
@[simp] theorem watched_countFrame : watched (countFrame s) = watched s := by
  unfold countFrame
  split
  · rfl
  · split <;> rfl

/-- The charge, the run state and the pressure line stand. -/
def holdsRun (s t : State) : Prop :=
  charge t = charge s ∧ t.run.state = s.run.state ∧ t.run.pressure = s.run.pressure

theorem holdsRun.trans (h : holdsRun s t) (h' : holdsRun t u) : holdsRun s u := by
  obtain ⟨hc, hs, hp⟩ := h
  obtain ⟨hc', hs', hp'⟩ := h'
  exact ⟨hc'.trans hc, hs'.trans hs, hp'.trans hp⟩

theorem holdsRun_of_watched (h : watched t = watched s) : holdsRun s t :=
  have ⟨hstate, hpressure, _⟩ := run_of_watched h
  ⟨charge_of_watched h, hstate, hpressure⟩

theorem Follows.of_holdsRun (hu : Unfrozen s) (h : holdsRun s t) : Follows s t :=
  have ⟨hc, hs, hp⟩ := h
  .of_unfrozen hu hc (.inl hp) fun ht => hs ▸ ht

theorem holdsRun_endPlay (a j : Bool) : holdsRun s (endPlay a j s) := by
  by_cases hp : ∃ p, s.pipeline.params = some (.play p)
  · obtain ⟨p, hp⟩ := hp
    have hsum : watched (summarized p a j s) = watched s := by simp [summarized]
    rw [endPlay_play a j hp]
    exact (holdsRun_of_watched hsum).trans
      (holdsRun.trans (t := withoutPlay (summarized p a j s)) ⟨rfl, rfl, rfl⟩
        (holdsRun_of_watched (watched_closeCapture a)))
  · rw [endPlay_noPlay a j fun p h => hp ⟨p, h⟩]
    exact ⟨rfl, rfl, rfl⟩

theorem holdsRun_beginPlay (i : Nat) (p : PlayEntry) (b : Bool) : holdsRun s (beginPlay i p b s) := by
  rw [beginPlay_eq, playCaptured_frame]
  exact ⟨rfl, rfl, rfl⟩

/-! ## The fault table eases (R135, R136, R138) -/

/-- R133, R138: classes stand, no TRIP is newly held, and the action is the one that stood or the one the active sources
form. -/
structure TripsEase (s t : State) : Prop where
  classes : ∀ k, (source t k).cls = (source s k).cls
  held : tripHeld t = true → tripHeld s = true
  action : t.faults.action = s.faults.action ∨ t.faults.action = effectiveAction t.faults.entries

/-- R138: where the TRIPs held had formed the action, they still have. -/
theorem TripsEase.seen (h : TripsEase s t) (hs : tripSeen s) : tripSeen t := fun ht => by
  rcases h.action with e | e
  · exact e.trans (hs (h.held ht))
  · exact e.trans (effectiveAction_trip_iff.2 ht)

theorem TripsEase.action_trip (h : TripsEase s t) (hs : tripSeen s) (ht : t.faults.action = some .trip) :
    s.faults.action = some .trip := by
  rcases h.action with e | e
  · exact e.symm.trans ht
  · exact hs (h.held (effectiveAction_trip_iff.1 (e.symm.trans ht)))

/-- A source's entry replaced by one of its class, active only where that makes no new TRIP. -/
theorem tripsEase_tset {k : Nat} {e : FaultEntry} (he : t.faults.entries = tset s.faults.entries k e)
    (hcls : e.cls = (source s k).cls) (hact : e.active = true → e.cls = .trip → (source s k).active = true)
    (ha : t.faults.action = s.faults.action ∨ t.faults.action = effectiveAction t.faults.entries) : TripsEase s t := by
  by_cases hk : k < 38
  · have hget (j : Nat) : source t j = if j = k then e else source s j := by
      rw [source, he, tget_tset _ _ _ _ hk, source]
    refine ⟨fun j => ?_, fun ht => ?_, ha⟩
    · rw [hget]
      split
      · next h => rw [h, hcls]
      · rfl
    · obtain ⟨j, hj, hactive, htrip⟩ := tripHeld_iff.1 ht
      rw [hget] at hactive htrip
      refine tripHeld_iff.2 ⟨j, hj, ?_⟩
      split at hactive
      · next h =>
        rw [if_pos h] at htrip
        exact h ▸ ⟨hact hactive htrip, hcls ▸ htrip⟩
      · next h =>
        rw [if_neg h] at htrip
        exact ⟨hactive, htrip⟩
  · have hentries : t.faults.entries = s.faults.entries := he.trans (tset_out _ _ (Nat.not_lt.1 hk))
    exact ⟨fun j => by rw [source, hentries, source], fun ht => by rwa [tripHeld_congr hentries] at ht, ha⟩

/-- What eases the faults and leaves the rest alone keeps the laws. -/
theorem Follows.of_ease (h : TripsEase s t) (ho : outer t = outer s) (hst : stance t = stance s) : Follows s t := by
  obtain ⟨hlife, -, -, -, -, -, hconfig, hpermit, -⟩ := outer_parts ho
  have hstate : t.run.state = s.run.state := congrArg Stance.state hst
  have hpressure : t.run.pressure = s.run.pressure := congrArg Stance.pressure hst
  constructor
  case life => exact hlife
  case mode => rw [hconfig]
  case permit => rw [hpermit]
  case classes => exact h.classes
  case seen => exact h.seen
  case pressed =>
    rw [hpressure]
    exact fun hs hlaw ht => ⟨ht, fun hact => hlaw ht (h.action_trip hs hact)⟩
  case sound => exact fun _ hs ht => standsFrozen_congr (by rw [hconfig]) hst (hs (hstate ▸ ht))
  case stays => exact fun _ _ hs => hstate.trans hs
  case tripped => exact fun hs _ hlaw ht => hstate.trans (hlaw (h.action_trip hs ht))

theorem stance_endSource (k : Nat) (s : State) : stance (endSource k s) = stance s := by
  simp only [endSource]
  rw [raiseEvent_eq]
  split <;> rfl

/-- R134, R136: a source ends. -/
theorem follows_endSource (k : Nat) (s : State) : Follows s (endSource k s) :=
  .of_ease (tripsEase_tset (k := k) (e := { source s k with active := false, subject := 0 })
    (by rw [endSource_faults]) rfl nofun (.inl (by rw [endSource_faults]))) (outer_endSource k) (stance_endSource k s)

theorem follows_setAction (s : State) : Follows s (setAction s) :=
  .of_ease ⟨fun _ => rfl, id, .inr rfl⟩ rfl rfl

theorem tripsEase_endWait (s : State) : TripsEase s (endWait s) := by
  unfold endWait
  split
  · have hended : (setFaultLine (setAction (leaveSet 35 (endSource 35 s)))).faults.entries =
        tset s.faults.entries 35 { source s 35 with active := false, subject := 0 } := by
      rw [setFaultLine, setAction, leaveSet, endSource_faults]
    exact tripsEase_tset hended rfl nofun (.inr rfl)
  · exact ⟨fun _ => rfl, id, .inl rfl⟩

/-! ## A stop and a freeze (R101, R102, R104, R105) -/

/-- R101, R102: a stop out of a state that is not FROZEN. -/
theorem follows_stopInto {state : RunState} (hs : s.run.state ≠ .frozen) (hstate : state ≠ .frozen) :
    Follows s (stopInto state s) := by
  have hset : Follows s { s with run := { s.run with state := state } } :=
    .of_unfrozen (unfrozen_of_state hs) rfl (.inl rfl) fun h => absurd h hstate
  obtain ⟨hframe, -⟩ := aborted_abortEntry { s with run := { s.run with state := state } }
  have habort : Follows { s with run := { s.run with state := state } }
      (abortEntry { s with run := { s.run with state := state } }) :=
    .of_holdsRun (unfrozen_of_state hstate) (by rw [hframe]; exact ⟨rfl, rfl, rfl⟩)
  have hwait := Follows.of_ease (tripsEase_endWait (abortEntry { s with run := { s.run with state := state } }))
    outer_endWait (by rw [endWait_frame]; rfl)
  exact ((hset.trans habort).trans hwait).of_eq rfl

theorem follows_enterUnloading (hs : s.run.state ≠ .frozen) : Follows s (enterUnloading s) :=
  follows_stopInto hs nofun

/-- R105: the unload delay of STOPPED ends with the pressure low. -/
theorem follows_endStoppedDelay (hz : Unfrozen s) : Follows s (endStoppedDelay s) :=
  (Follows.of_unfrozen (t := { pressureFall s with run.unload := .idle }) hz rfl (.inr rfl) id).of_eq
    (watched_raiseEvent _ _ _)

/-- R105: the action STOP leaves FROZEN alone. -/
theorem follows_stopAction (s : State) : Follows s (stopAction s) := by
  unfold stopAction
  split
  case h_7 | h_8 => exact .refl s
  case h_9 hstopped =>
    have hz : Unfrozen s := unfrozen_of_state (by rw [hstopped]; nofun)
    split
    · split
      · exact follows_endStoppedDelay hz
      · exact .of_unfrozen hz rfl (.inl rfl) id
    · exact .refl s
  all_goals next hs => exact follows_enterUnloading (by rw [hs]; nofun)

/-- R104: how a freeze leaves the run, the pipeline and the sequencer. -/
theorem stance_freeze (s : State) : stance (freeze s) =
    { state := .frozen, pressure := .low, grace := .idle, unload := .idle, taper := 0, params := none, phase := .idle
      join := false } := by
  obtain ⟨hframe, -, hseq, hpipe, -⟩ := aborted_abortEntry
    (pressureFall { s with run := { s.run with state := .frozen, unload := .idle } })
  have hrun := congrArg State.run hframe
  have hfreeze : freeze s = freezePipeline (endWait (abortEntry
    (pressureFall { s with run := { s.run with state := .frozen, unload := .idle } }))) := rfl
  rw [hfreeze, endWait_frame]
  simp only [stance, freezePipeline]
  rw [hrun, hseq, hpipe]
  rfl

theorem tripsEase_freeze (s : State) : TripsEase s (freeze s) := by
  obtain ⟨x, hx⟩ : ∃ x, pressureFall { s with run := { s.run with state := .frozen, unload := .idle } } = x := ⟨_, rfl⟩
  have hfreeze : freeze s = freezePipeline (endWait (abortEntry x)) := by rw [← hx]; rfl
  obtain ⟨hframe, -⟩ := aborted_abortEntry x
  have hfaults : (abortEntry x).faults = s.faults := by rw [hframe, ← hx]; rfl
  have hwait := tripsEase_endWait (abortEntry x)
  have hentries := congrArg FaultTable.entries hfaults
  rw [hfreeze]
  constructor
  case classes => intro k; exact (hwait.classes k).trans (by rw [source, hfaults, source])
  case held => exact fun h => by rw [← tripHeld_congr hentries]; exact hwait.held h
  case action => exact hfaults ▸ hwait.action

theorem standsFrozen_freeze (ha : s.config.mode = .active) :
    (freeze s).run.state = .frozen ∧ standsFrozen (freeze s) := by
  obtain ⟨-, -, -, -, -, -, hconfig, -⟩ := outer_parts (outer_freeze (s := s))
  have hst := stance_freeze s
  simp only [stance, Stance.mk.injEq] at hst
  obtain ⟨hstate, hp, hg, hunload, htaper, hparams, hphase, hj⟩ := hst
  exact ⟨hstate, (congrArg ConfigStore.mode hconfig).trans ha, hp, hg, hunload, htaper, hphase, hj, hparams⟩

/-! ## The effective action (R138) -/

/-- R138: the action formed again, where no fault has been newly raised, freezes no run. -/
theorem follows_formAction (s : State) : Follows s (formAction s) := by
  unfold formAction
  split
  · exact .refl s
  · next hnew =>
    have hset := follows_setAction s
    rcases hact : effectiveAction s.faults.entries with _ | c
    · exact hset
    · cases c with
      | note => exact hset
      | pause => exact hset
      | stop => exact hset.trans (follows_stopAction _)
      | trip =>
        have hunseen : ¬ tripSeen s := fun hs => hnew (hact.trans (hs (effectiveAction_trip_iff.1 hact)).symm)
        have hease := tripsEase_freeze (setAction s)
        have ho : outer (freeze (setAction s)) = outer s := (outer_freeze (s := setAction s)).trans outer_setAction
        obtain ⟨hlife, -, -, -, -, -, hconfig, hpermit, -⟩ := outer_parts ho
        exact ⟨hlife, congrArg ConfigStore.mode hconfig, congrArg Permit.filtered hpermit, hease.classes,
          fun hs => absurd hs hunseen, fun hs => absurd hs hunseen, fun hs => absurd hs hunseen,
          fun hs => absurd hs hunseen, fun hs => absurd hs hunseen⟩

/-! ## A raise (R134) -/

/-- R92, R95: a pause reason joins. -/
theorem follows_pauseJoined (s : State) : Follows s (pauseJoined s) := by
  unfold pauseJoined
  split
  · next hr =>
    have hz : Unfrozen s := unfrozen_of_state (by rw [hr]; nofun)
    split <;> exact .of_unfrozen hz rfl (.inl rfl) nofun
  · exact .refl s

/-- R134: a source's entry once it is raised with `n`. -/
def raisedEntry (k n : Nat) (s : State) : FaultEntry := { source s k with active := true, subject := BitVec.ofNat 16 n }

/-- R134: a source is active and reported; nothing has been done about it yet. -/
def raised (k n : Nat) (s : State) : State :=
  raiseEvent .faultRaised k (faultValue (raisedEntry k n s)) (setEntry k (raisedEntry k n s) s)

theorem raised_faults (k n : Nat) (s : State) :
    (raised k n s).faults = { s.faults with entries := tset s.faults.entries k (raisedEntry k n s) } := by
  rw [raised, raiseEvent_faults]; rfl

/-- R134: a source of another class than TRIP is raised. -/
theorem follows_raised (k n : Nat) (hc : (source s k).cls ≠ .trip) : Follows s (raised k n s) :=
  .of_ease (tripsEase_tset (k := k) (e := raisedEntry k n s) (by rw [raised_faults]) rfl
    (fun _ ht => absurd ht hc) (.inl (by rw [raised_faults])))
    (by rw [raised, outer_raiseEvent, outer_setEntry]) (by rw [raised, raiseEvent_eq]; rfl)

/-- R104, R134: in ACTIVE a source of class TRIP is raised: the run is FROZEN. -/
theorem follows_raised_trip {k : Nat} (n : Nat) (ha : s.config.mode = .active) (hk : k < 38)
    (hc : (source s k).cls = .trip) : Follows s (formAction (raised k n s)) := by
  have hfaults := raised_faults k n s
  have hget (j : Nat) : source (raised k n s) j = if j = k then raisedEntry k n s else source s j := by
    rw [source, hfaults, tget_tset _ _ _ _ hk, source]
  have hclasses (j : Nat) : (source (raised k n s) j).cls = (source s j).cls := by
    rw [hget]
    split
    · next h => rw [h]; rfl
    · rfl
  have hheld : tripHeld (raised k n s) = true :=
    tripHeld_iff.2 ⟨k, hk, by rw [hget, if_pos rfl]; rfl, by rw [hget, if_pos rfl]; exact hc⟩
  have haction : (raised k n s).faults.action = s.faults.action := by rw [hfaults]
  have hrun : (raised k n s).run = s.run := by rw [raised, raiseEvent_run]; rfl
  have hstance : stance (raised k n s) = stance s := by rw [raised, raiseEvent_eq]; rfl
  have hmode : (raised k n s).config.mode = .active := by rw [raised, raiseEvent_config]; exact ha
  have ho : outer (formAction (raised k n s)) = outer s := by
    rw [outer_formAction, raised, outer_raiseEvent, outer_setEntry]
  obtain ⟨hlife, -, -, -, -, -, hconfig, hpermit, -⟩ := outer_parts ho
  have heff := effectiveAction_trip_iff.2 hheld
  have hform := follows_formAction (raised k n s)
  by_cases hs : s.faults.action = some .trip
  · have hsame : formAction (raised k n s) = raised k n s := formAction_same (by rw [heff, haction, hs])
    rw [hsame] at ho hlife hconfig hpermit ⊢
    refine ⟨hlife, by rw [hconfig], by rw [hpermit], hclasses, fun _ _ => haction.trans hs, ?_, ?_, ?_, ?_⟩
    · rw [hrun]
      exact fun _ hlaw hp => absurd hs (hlaw hp)
    · exact fun _ hf ht => standsFrozen_congr (hmode.trans ha.symm) hstance (hf (by rwa [hrun] at ht))
    · rw [hrun]; exact fun _ _ h => h
    · rw [hrun]; exact fun _ _ hlaw _ => hlaw hs
  · have hfreeze : formAction (raised k n s) = freeze (setAction (raised k n s)) :=
      formAction_hands heff (by rw [haction]; exact fun h => hs h.symm)
    obtain ⟨hstate, hstands⟩ := standsFrozen_freeze (s := setAction (raised k n s)) hmode
    have hease := tripsEase_freeze (setAction (raised k n s))
    rw [hfreeze] at ho hlife hconfig hpermit ⊢
    refine ⟨hlife, by rw [hconfig], by rw [hpermit], fun j => (hease.classes j).trans (hclasses j),
      fun _ => hease.seen fun _ => heff, fun _ _ hp => ?_, fun _ _ _ => hstands, fun _ _ _ => hstate,
      fun _ _ _ _ => hstate⟩
    cases hstands.low.symm.trans hp

/-- R134: a raise keeps the laws. -/
theorem follows_raise {k : Nat} (n : Nat) (hk : k < 38) (s : State) : Follows s (raise k n s) := by
  have hraise : raise k n s = if !isActive s || (source s k).active then s
      else setFaultLine (formAction (if (source s k).cls = .pause then joinSet k (raised k n s) else raised k n s)) := rfl
  rw [hraise]
  split
  · exact .refl s
  · next h =>
    simp only [Bool.or_eq_true, Bool.not_eq_true', not_or, isActive, decide_eq_false_iff_not, not_not] at h
    refine Follows.of_eq (t := formAction (if (source s k).cls = .pause then joinSet k (raised k n s) else raised k n s))
      ?_ rfl
    by_cases hc : (source s k).cls = .trip
    · rw [if_neg (by rw [hc]; decide)]
      exact follows_raised_trip n h.1 hk hc
    · refine Follows.trans ?_ (follows_formAction _)
      have hr := follows_raised k n hc
      split
      · exact (hr.of_eq (u := { raised k n s with run.sources := insertNum k (raised k n s).run.sources }) rfl).trans
          (follows_pauseJoined _)
      · exact hr

theorem watched_raiseEnded (k n : Nat) : watched (raiseEnded k n s) = watched s := by
  unfold raiseEnded; split <;> simp

end Sys2Proof.Machine
end

section
/-! PROOF. The laws of the pressure line and of FROZEN over the sequencer, the arbiter's completions and the frame
boundary (R104, R106, R107). -/

namespace Sys2Proof.Machine

variable {s t u : State}

/-! ## The sequencer -/

@[simp] theorem watched_callReads : watched (callReads s) = watched s := by rw [callReads_eq]; rfl

@[simp] theorem watched_seek (fuel i : Nat) : watched (seek fuel i s).2 = watched s := by
  induction fuel generalizing i s with
  | zero => rfl
  | succ n ih =>
    unfold seek
    split
    · simp [ih]
    · rw [ih]; rfl
    · rfl

theorem watched_skipEntry (i g : Nat) : watched (skipEntry i g s) = watched s := by
  simp only [skipEntry, watched_raiseEvent, watched_raiseEnded]; rfl

/-- R62: the schedule's end puts a RUNNING run in HOLDING. -/
theorem follows_endSchedule (h : s.run.state = .running) : Follows s (endSchedule s) := by
  have hz : Unfrozen s := unfrozen_of_state (by rw [h]; nofun)
  have hended : Follows s (raiseEvent .scheduleEnded s.schedule.length 0 (stand .ended s.schedule.length s)) :=
    (Follows.of_holdsRun (t := stand .ended s.schedule.length s) hz ⟨rfl, rfl, rfl⟩).of_eq (watched_raiseEvent _ _ _)
  simp only [endSchedule]
  split
  · next hr => exact hended.trans (.of_unfrozen (unfrozen_of_state (by rw [hr]; nofun)) rfl (.inl rfl) nofun)
  · exact hended

/-- R53 to R58: the sequencer of a RUNNING run moves on. -/
theorem follows_advance (fuel i : Nat) (h : s.run.state = .running) : Follows s (advance fuel i s) := by
  have hz {u : State} (hu : u.run.state = .running) : Unfrozen u := unfrozen_of_state (by rw [hu]; nofun)
  have hwatched {u v : State} (hu : u.run.state = .running) (e : watched v = watched u) : v.run.state = .running :=
    (run_of_watched e).1.trans hu
  induction fuel generalizing i s with
  | zero => exact .refl s
  | succ n ih =>
    unfold advance
    split
    · exact follows_endSchedule h
    · next tag _ =>
      have e : watched (raiseEvent .mark tag.toNat i s) = watched s := watched_raiseEvent _ _ _
      exact (Follows.of_watched e).trans (ih _ (hwatched h e))
    · next j c m _ =>
      exact (ih (s := { s with schedule := (passRepeat i j c m s.schedule).2 }) _ h).after rfl
    · exact .of_holdsRun (hz h) ⟨rfl, rfl, rfl⟩
    · split
      · exact .of_holdsRun (hz h) (holdsRun_beginPlay _ _ _)
      · split
        · exact (Follows.of_watched (watched_skipEntry _ _)).trans (ih _ (hwatched h (watched_skipEntry _ _)))
        · exact (Follows.of_holdsRun (t := stand .awaiting i s) (hz h) ⟨rfl, rfl, rfl⟩).trans
            (follows_raise _ (by decide) _)

theorem follows_proceed (s : State) : Follows s (proceed s) := by
  unfold proceed
  split
  · exact .refl s
  · split
    · next hj =>
      split
      · exact .of_holdsRun (unfrozen_of_join hj) (holdsRun_beginPlay _ _ _)
      · exact .refl s
    · split
      · next hr =>
        split
        · exact follows_advance _ _ hr
        · exact follows_advance _ _ hr
        · exact .refl s
      · exact .refl s

/-- R91, R95: a run that is not FROZEN becomes RUNNING. -/
theorem follows_enterRunning (h : s.run.state ≠ .frozen) : Follows s (enterRunning s) := by
  have hset : Follows s { s with run.state := .running } := .of_unfrozen (unfrozen_of_state h) rfl (.inl rfl) nofun
  exact (hset.of_eq (u := callReads { s with run.state := .running }) watched_callReads).trans (follows_proceed _)

/-- R92, R95: an emptied pause-reason set lets a PAUSING or PAUSED run go on. -/
theorem follows_pauseEmptied (s : State) : Follows s (pauseEmptied s) := by
  have hresumes (v : Nat) (h : s.run.state ≠ .frozen) :
      Follows s (enterRunning (raiseEvent .runResumed s.sequencer.cursor v { s with run.state := .running })) := by
    have hset : Follows s { s with run.state := .running } := .of_unfrozen (unfrozen_of_state h) rfl (.inl rfl) nofun
    refine (hset.of_eq (watched_raiseEvent .runResumed _ v)).trans (follows_enterRunning ?_)
    rw [raiseEvent_run]
    nofun
  unfold pauseEmptied
  split
  · split
    · next hr => exact hresumes 1 (by rw [hr]; nofun)
    · next hr => exact hresumes 0 (by rw [hr]; nofun)
    · exact .refl s
  · exact .refl s

/-- R136: a fault's end. -/
theorem follows_faultEnd (k : Nat) (s : State) : Follows s (faultEnd k s) := by
  have hend : Follows s (leaveSet k (endSource k s)) := (follows_endSource k s).of_eq rfl
  simp only [faultEnd]
  split
  · split
    · exact ((hend.trans (follows_pauseEmptied _)).trans (follows_formAction _)).of_eq rfl
    · exact (hend.trans (follows_formAction _)).of_eq rfl
  · exact .refl s

theorem follows_recheckMissing (id : Nat) (s : State) : Follows s (recheckMissing id s) := by
  unfold recheckMissing
  split
  · split
    · split
      · exact follows_faultEnd 35 s
      · exact .refl s
    · exact .refl s
  · exact .refl s

/-- R59: an entry in force ends. -/
theorem follows_endEntry (p : PlayParams) (h : s.pipeline.params ≠ none) : Follows s (endEntry p s) := by
  have hleft : holdsRun s (leaveEntry (if p.joinFailed then .awaiting else .spent) (endPlay false false s)) :=
    (holdsRun_endPlay false false).trans ⟨rfl, rfl, rfl⟩
  exact (Follows.of_holdsRun (unfrozen_of_params h) hleft).trans (follows_proceed _)

theorem follows_makeJoin (j id : Nat) (h : s.pipeline.params ≠ none) : Follows s (makeJoin j id s) := by
  refine (Follows.of_holdsRun (unfrozen_of_params h) ?_).trans (follows_proceed _)
  exact (holdsRun_endPlay false true).trans ⟨rfl, rfl, rfl⟩

theorem follows_failJoin (p : PlayParams) (j : Nat) (h : s.pipeline.params ≠ none) : Follows s (failJoin p j s) := by
  have hset : Follows s { s with
      pipeline.params := some (.play { p with joinFailed := true }), sequencer.cursor := j, sequencer.carried := none } :=
    .of_holdsRun (unfrozen_of_params h) ⟨rfl, rfl, rfl⟩
  simp only [failJoin]
  split
  · exact hset.trans (follows_endEntry _ nofun)
  · exact hset

theorem follows_join (p : PlayParams) (h : s.pipeline.params ≠ none) : Follows s (join p s) := by
  have e : watched (seek advanceFuel (s.sequencer.cursor + 1) (carryLookahead s)).2 = watched s := by simp
  have hseek := Follows.of_watched e
  have hparams : (seek advanceFuel (s.sequencer.cursor + 1) (carryLookahead s)).2.pipeline.params ≠ none := by
    obtain ⟨-, -, hsame⟩ := run_of_watched e
    rwa [hsame]
  simp only [join]
  split
  · split
    · exact hseek.trans (follows_makeJoin _ _ hparams)
    · exact hseek.trans (follows_failJoin _ _ hparams)
  · exact hseek.trans (follows_failJoin _ _ hparams)

theorem follows_lastDriveFrame (p : PlayParams) (h : s.pipeline.params ≠ none) : Follows s (lastDriveFrame p s) := by
  unfold lastDriveFrame
  split
  · exact follows_join p h
  · split
    · exact (Follows.of_watched watched_carryLookahead).trans (follows_endEntry p h)
    · exact .of_watched watched_voidLookahead

theorem follows_endDwell (h : s.pipeline.params ≠ none) : Follows s (endDwell s) := by
  refine (Follows.of_holdsRun (unfrozen_of_params h) ?_).trans (follows_proceed _)
  exact ⟨rfl, rfl, rfl⟩

/-! ## Completions -/

theorem follows_substitute (p : PlayParams) (i : Nat) (h : s.pipeline.params ≠ none) : Follows s (substitute p i s) := by
  have hmark (k : Nat) (cs : List Nat) {u : State} (hu : holdsRun s u) :
      Follows s (markDamaged p.seg 2 (countMemoryErrors cs (addDoubleErrors p.seg k u))) :=
    (Follows.of_holdsRun (unfrozen_of_params h) hu).of_eq (by simp)
  simp only [substitute]
  split
  · exact hmark _ _ ⟨rfl, rfl, rfl⟩
  · refine Follows.trans (hmark _ _ ?_) (follows_raise _ (by decide) _)
    exact ⟨rfl, rfl, rfl⟩

theorem follows_playRead (i : Nat) (o : ReadOutcome) (v : List Sample) (s : State) : Follows s (playRead i o v s) := by
  unfold playRead
  split
  · next hp =>
    simp only
    split
    · exact (follows_substitute _ _ (by rw [hp]; nofun)).after rfl
    · exact .of_watched rfl
  · exact .refl s

@[simp] theorem watched_setPrefetch (q : Prefetch) : watched (setPrefetch q s) = watched s := by
  unfold setPrefetch; split <;> rfl

theorem watched_prefetchRead (i : Nat) (o : ReadOutcome) (v : List Sample) :
    watched (prefetchRead i o v s) = watched s := by
  unfold prefetchRead
  split
  · simp only
    split
    · split <;> simp
    · simp
  · rfl

theorem follows_verifyRead (o : ReadOutcome) (v : List Sample) (s : State) : Follows s (verifyRead o v s) := by
  have hjudged (id : Nat) {u : State} (e : watched u = watched s) : Follows s (recheckMissing id u) :=
    (Follows.of_watched e).trans (follows_recheckMissing id u)
  unfold verifyRead
  split
  · exact .refl s
  · split
    · exact hjudged _ (watched_rejectTarget _ _)
    · simp only
      split
      · split
        · exact hjudged _ (watched_readyTarget _)
        · exact hjudged _ (watched_rejectTarget _ _)
      · exact .of_watched rfl

theorem watched_captureReadDone (i : Nat) (o : ReadOutcome) (v : List Sample) :
    watched (captureReadDone i o v s) = watched s := by
  have hfinish (j : CaptureJob) (u : State) : watched (finishCaptureRead j u) = watched u := by
    unfold finishCaptureRead; split <;> simp
  unfold captureReadDone
  split
  · rw [hfinish]
    split
    · exact watched_reportCapture _ _
    · rfl
  · rfl

theorem follows_deliverRead (i : Nat) (q : ReadPurpose) (o : ReadOutcome) (v : List Sample) (s : State) :
    Follows s (deliverRead i q o v s) := by
  cases q with
  | play => exact follows_playRead i o v s
  | prefetch => exact .of_watched (watched_prefetchRead i o v)
  | verify => exact follows_verifyRead o v s
  | captureRead => exact .of_watched (watched_captureReadDone i o v)

/-- R153: the last write of a frame to the capture store. -/
theorem follows_captureWritten (lost : Bool) (s : State) : Follows s (captureWritten lost s) := by
  unfold captureWritten
  split
  · exact .refl s
  · next op rest _ =>
    have hrest {u : State} (e : watched u = watched s) : Follows s
        (if rest.isEmpty then
          if (countFrame u).capture.closing then proceed (closeRecord false (countFrame u)) else countFrame u
        else u) := by
      split
      · split
        · exact (Follows.of_watched (t := closeRecord false (countFrame u)) (by simp [e])).trans (follows_proceed _)
        · exact .of_watched (watched_countFrame.trans e)
      · exact .of_watched e
    simp only
    refine hrest ?_
    split
    · exact (watched_reportCapture _ _).trans rfl
    · rfl

theorem watched_segDataWritten (lost : Bool) : watched (segDataWritten lost s) = watched s := by
  unfold segDataWritten
  split
  · split
    · simp
    · split <;> simp
  · rfl

theorem follows_deliverWrite (r : Requestor) (lost : Bool) (s : State) : Follows s (deliverWrite r lost s) := by
  cases r with
  | capture => exact follows_captureWritten lost s
  | link => exact .of_watched (watched_segDataWritten lost)
  | playback => exact .refl s
  | scrub => exact .refl s

theorem watched_reportPage (p : Nat) : watched (reportPage p s) = watched s := by
  unfold reportPage; split <;> simp
theorem watched_moveSweep (p w : Nat) : watched (moveSweep p w s) = watched s := by
  unfold moveSweep; split <;> rfl

/-- R14, R20: the granted operation ends. -/
theorem follows_completeGranted (found : ReadOutcome) (s : State) : Follows s (completeGranted found s) := by
  unfold completeGranted
  split
  · exact .refl s
  · split
    · simp only [completeRead]
      split
      · exact (follows_deliverRead _ _ _ _ _).after rfl
      · exact .of_watched rfl
    · simp only [completeWrite]
      split <;> exact (follows_deliverWrite _ _ _).after rfl
    · simp only [completeScrub]
      split
      · exact .of_watched ((watched_reportPage _).trans ((watched_moveSweep _ _).trans rfl))
      · exact .of_watched ((watched_moveSweep _ _).trans rfl)

theorem follows_drain (fuel : Nat) (s : State) : Follows s (drain fuel s) := by
  induction fuel generalizing s with
  | zero => exact .refl s
  | succ n ih =>
    unfold drain
    split
    · have hdone := (Follows.of_watched watched_settle).trans (follows_completeGranted .clean (settle s))
      exact (hdone.of_eq watched_settle).trans (ih _)
    · exact .refl s

/-! ## Misses and responses -/

theorem follows_applyVerdict {k : Nat} (v : Verdict) (hk : k < 38) (s : State) : Follows s (applyVerdict k v s) := by
  cases v with
  | none => exact .refl s
  | trips => exact (follows_raise _ hk _).after rfl
  | untrips => exact follows_faultEnd k s

theorem follows_applyVerdicts (v : Nat → Verdict) {ks : List Nat} (hks : ∀ k ∈ ks, k < 38) (s : State) :
    Follows s (ks.foldl (fun u k => applyVerdict k (v k) u) s) := by
  induction ks generalizing s with
  | nil => exact .refl s
  | cons k ks ih =>
    rw [List.forall_mem_cons] at hks
    exact (follows_applyVerdict (v k) hks.1 s).trans (ih hks.2 _)

theorem follows_deliver (s : State) : Follows s (deliver s) := by
  refine Follows.after (follows_applyVerdicts _ (fun k hk => ?_) _) rfl
  exact (List.mem_range.1 hk).trans (by decide)

theorem follows_rigLinkCheck (w : Window) (s : State) : Follows s (rigLinkCheck w s) := by
  unfold rigLinkCheck
  split
  · exact follows_raise _ (by decide) s
  · exact .refl s

theorem follows_missOf (w : Option Window) (s : State) : Follows s (missOf w s) := by
  cases w with
  | none => exact .refl s
  | some w => exact ((follows_deliver _).trans (follows_rigLinkCheck w _)).after rfl

theorem follows_servoCheck (s : State) : Follows s (servoCheck s) := by
  unfold servoCheck
  split
  · split
    · exact follows_raise _ (by decide) s
    · exact .refl s
  · exact .refl s

theorem follows_takeBytes (bytes : List Byte) (low : Option Nat) (s : State) : Follows s (takeBytes bytes low s) := by
  unfold takeBytes
  split
  · exact .refl s
  · split
    · exact .refl s
    · simp only
      split
      · exact ((follows_deliver _).trans (follows_servoCheck _)).after rfl
      · exact .of_watched rfl

theorem follows_heartbeatError (s : State) : Follows s (heartbeatError s) := by
  simp only [heartbeatError]
  generalize (if s.supervisor.loop < (general s).loopLimit.toNat then s.supervisor.loop + 1 else s.supervisor.loop) = n
  have hcount : Follows s { s with supervisor.loop := n } := .of_watched rfl
  split
  · exact hcount.trans (follows_raise _ (by decide) _)
  · exact hcount

/-! ## The boundary -/

/-- R71, R106: a frame leaves a FROZEN run as it stands: it is held, and its taper counter stays. -/
theorem follows_formFrame (s : State) : Follows s (formFrame s) :=
  .of_charge rfl (.inl rfl) id fun hs h => by
    have hkind : frameKind s = .held := by rw [frameKind, h]
    obtain ⟨ha, hp, hg, hu, htaper, hrest⟩ := hs h
    refine ⟨h, ha, hp, hg, hu, ?_, hrest⟩
    exact (congrArg (frameTaper · s) hkind).trans htaper

theorem watched_reportEvidence (k : FrameKind) : watched (reportEvidence k s) = watched s := by
  rw [reportEvidence_eq]; rfl

theorem follows_reportSequencer (k : FrameKind) (s : State) : Follows s (reportSequencer k s) := by
  unfold reportSequencer
  split
  · next hp =>
    simp only
    split
    · exact (follows_lastDriveFrame _ (by rw [hp]; nofun)).after rfl
    · exact .of_watched rfl
  · next hp =>
    split
    · exact follows_endEntry _ (by rw [hp]; nofun)
    · exact .refl s
  · next hp =>
    simp only
    split
    · exact (follows_endDwell (by rw [hp]; nofun)).after rfl
    · exact .of_watched rfl
  · exact .refl s

/-- R102, R110: the unload delay of UNLOADING ends in STOPPED, with the pressure low. -/
theorem follows_endUnloadDelay (hz : Unfrozen s) : Follows s (endUnloadDelay s) :=
  (Follows.of_unfrozen (t := { enterStopped (pressureFall s) with run.unload := .idle }) hz rfl (.inr rfl)
    nofun).of_eq (watched_raiseEvent _ _ _)

theorem follows_enterStopped (h : s.run.state ≠ .frozen) : Follows s (enterStopped s) :=
  .of_unfrozen (unfrozen_of_state h) rfl (.inl rfl) nofun

theorem follows_parkArrival (s : State) : Follows s (parkArrival s) := by
  unfold parkArrival
  split
  · next hr => exact (follows_enterStopped (by rw [hr]; nofun)).of_eq (watched_raiseEvent _ _ _)
  · next hr =>
    have hz : s.run.state ≠ .frozen := by rw [hr]; nofun
    split
    · split
      · split
        · exact follows_endUnloadDelay (unfrozen_of_state hz)
        · exact .of_unfrozen (unfrozen_of_state hz) rfl (.inl rfl) id
      · exact (follows_enterStopped hz).of_eq (watched_raiseEvent _ _ _)
    · exact .refl s
  · exact .refl s

theorem follows_enterPaused (h : s.run.state ≠ .frozen) : Follows s (enterPaused s) :=
  .of_unfrozen (unfrozen_of_state h) rfl (.inl rfl) nofun

theorem follows_reportRun (k : FrameKind) (was : RunState) (i : Nat) (s : State) : Follows s (reportRun k was i s) := by
  have hpark : Follows s (if k = .park ∧ allAt ChannelRec.park s then parkArrival s else s) := by
    split
    · exact follows_parkArrival s
    · exact .refl s
  unfold reportRun
  split
  · split
    · next h =>
      have hz : s.run.state ≠ .frozen := by rw [h.1]; nofun
      split
      · exact follows_enterRunning hz
      · exact follows_enterPaused hz
    · exact .refl s
  · split
    · next h => exact follows_enterPaused (by rw [h.1]; nofun)
    · exact .refl s
  · exact hpark
  · exact hpark
  · exact .refl s

@[simp] theorem watched_latchSnapshot : watched (latchSnapshot s) = watched s := by rw [latchSnapshot_eq]; rfl

theorem follows_giveFrame (s : State) : Follows s (giveFrame s) := by
  by_cases ha : s.config.mode = .active
  · rw [giveFrame_active ha]
    refine Follows.trans (Follows.trans ?_ (follows_reportSequencer _ _)) (follows_reportRun _ _ _ _)
    refine (follows_formFrame s).of_eq ?_
    rw [watched_reportEvidence, watched_latchSnapshot]
    rfl
  · refine .of_watched ?_
    simp only [giveFrame, isActive, ha, decide_false, Bool.false_eq_true, if_false, watched_latchSnapshot]
    rfl

/-- R68: a boundary, in both orders of the frame and the miss. -/
theorem follows_boundary (missFirst : Bool) (s : State) : Follows s (boundary missFirst s) := by
  have hopen : Follows s (openWindow (tick (drain drainFuel s))) := (follows_drain drainFuel s).of_eq rfl
  have hend {v w : State} (h : Follows v w) : Follows v (settle (callReads w)) :=
    h.of_eq (watched_settle.trans watched_callReads)
  cases missFirst
  · exact hend ((hopen.trans (follows_giveFrame _)).trans (follows_missOf _ _))
  · exact hend (((hopen.trans (follows_missOf _ _)).trans (follows_drain _ _)).trans (follows_giveFrame _))

end Sys2Proof.Machine
end

section
/-! PROOF. The laws of the pressure line and of FROZEN over every command (R104, R106, R107): O55, O60. -/

namespace Sys2Proof.Machine

variable {s t u : State}

/-! ## Requests -/

section Requests
variable {f : State → State}

theorem follows_onRequest (kind tag : Byte) (body : List Byte) (hf : ∀ u, Follows u (f u)) (s : State) :
    Follows s (onRequest kind tag body f s) := by
  unfold onRequest
  split
  · split
    · exact .of_watched rfl
    · split
      · exact .of_watched (by rw [answerBusy_eq]; rfl)
      · exact (hf _).after rfl
  · exact .refl s

theorem follows_withLength (n : Nat) (body : List Byte) (hf : ∀ u, Follows u (f u)) (s : State) :
    Follows s (withLength n body f s) := by
  unfold withLength
  split
  · exact hf s
  · exact .of_watched (watched_answer _ _)

@[simp] theorem watched_runReply (st : Status) : watched (runReply st s) = watched s := watched_answer _ _

theorem follows_onRun (n : Nat) (body : List Byte) (hf : ∀ u, Follows u (f u)) (s : State) :
    Follows s (onRun n body f s) := by
  unfold onRun
  split
  · exact .of_watched (watched_runReply _)
  · split
    · exact .of_watched (watched_runReply _)
    · exact hf s

theorem follows_onSegment {g : Nat → State → State} (fits : Bool) (body : List Byte) (hg : ∀ id u, Follows u (g id u))
    (s : State) : Follows s (onSegment fits body g s) := by
  unfold onSegment
  split
  · exact .of_watched (watched_answer _ _)
  · split
    · exact .of_watched (watched_answer _ _)
    · exact hg _ s

@[simp] theorem watched_configReply (st : Status) (x : ConfigExtra) : watched (configReply st x s) = watched s :=
  watched_answer _ _

@[simp] theorem watched_ageTimer : watched (ageTimer s) = watched s := by unfold ageTimer; split <;> rfl

end Requests

/-! ## Segment and capture requests -/

theorem watched_allocateBlock {n : Nat} {pages : List Nat} (h : allocateBlock n s = some (pages, t)) :
    watched t = watched s := by
  obtain ⟨-, -, rfl⟩ := allocateBlock_some h
  rfl

theorem watched_openPlain (a : SegOpenArgs) : watched (openPlain a s) = watched s := by
  unfold openPlain
  split
  · simp
  · split
    · simp
    · split
      · simp
      · next ha => rw [watched_answer, watched_setDescriptor, watched_allocateBlock ha]

theorem watched_openReplacement (a : SegOpenArgs) : watched (openReplacement a s) = watched s := by
  simp only [openReplacement]
  split
  · simp
  · split
    · simp
    · split
      · simp
      · split
        · simp
        · next ha => rw [watched_answer, watched_setDescriptor, watched_allocateBlock ha]

theorem watched_segOpenEffect (body : List Byte) : watched (segOpenEffect body s) = watched s := by
  simp only [segOpenEffect, onSegment]
  split
  · simp
  · split
    · simp
    · split
      · exact watched_openReplacement _
      · exact watched_openPlain _

theorem watched_segDataEffect (body : List Byte) (id : Nat) : watched (segDataEffect body id s) = watched s := by
  simp only [segDataEffect]
  split
  · simp
  · split <;> simp

theorem watched_segCloseEffect (body : List Byte) (id : Nat) : watched (segCloseEffect body id s) = watched s := by
  have hset (crc : BitVec 32) : watched (setVerifying id crc s) = watched s := by
    simp only [setVerifying]
    split <;> rfl
  simp only [segCloseEffect]
  split
  · simp
  · rw [watched_answer]
    exact hset _

theorem follows_segAbandonEffect (id : Nat) (s : State) : Follows s (segAbandonEffect id s) := by
  simp only [segAbandonEffect]
  split
  · refine (follows_recheckMissing id _).after ?_
    split <;> simp
  · split
    · exact (follows_recheckMissing id _).after (by simp)
    · exact (follows_recheckMissing id _).after (by simp)
    all_goals exact .of_watched (watched_answer _ _)

theorem follows_segFreeEffect (id : Nat) (s : State) : Follows s (segFreeEffect id s) := by
  have hfreed : Follows s (recheckMissing id (answer .ok .empty
      (emptyDescriptor id (removeReplacement id (dropTarget { seg := id, repl := true } s))))) :=
    (follows_recheckMissing id _).after (by simp)
  unfold segFreeEffect
  split
  · exact .of_watched (watched_answer _ _)
  · split
    case h_4 | h_5 => exact hfreed
    all_goals exact .of_watched (watched_answer _ _)

theorem watched_captureReadEffect (id o n : Nat) : watched (captureReadEffect id o n s) = watched s := by
  unfold captureReadEffect
  repeat' split
  all_goals simp

theorem watched_freeRecord (id : Nat) (r : CaptureRecord) : watched (freeRecord id r s) = watched s := by
  have hwithdraw : watched (withdrawWrites id s) = watched s := by unfold withdrawWrites; split <;> rfl
  have hreleased : watched (releasePages r.pages (setSlot id none (withdrawWrites id s))) = watched s :=
    (watched_releasePages _).trans hwithdraw
  simp only [freeRecord]
  split
  · exact hreleased
  · exact hreleased

theorem watched_captureFreeEffect (id : Nat) : watched (captureFreeEffect id s) = watched s := by
  unfold captureFreeEffect
  repeat' split
  all_goals simp [watched_freeRecord]

/-! ## Schedule and evidence requests -/

theorem watched_appendEntries (es : List Entry) : watched (appendEntries es s) = watched s := by
  unfold appendEntries
  split
  · simp
  · rw [watched_answer]
    unfold redoAtEnd
    split
    · exact watched_redoLookahead.trans rfl
    · rfl

theorem watched_truncateEffect (k : Nat) : watched (truncateEffect k s) = watched s := by
  unfold truncateEffect
  split
  · simp
  · split
    · simp
    · rw [watched_answer]
      unfold redoReaching
      split
      · split
        · exact watched_redoLookahead.trans rfl
        · rfl
      · rfl

/-- R50: SCHED_CLEAR leaves the sequencer in IDLE, where it stands in FROZEN. -/
theorem follows_clearEffect (s : State) : Follows s (clearEffect s) := by
  unfold clearEffect
  split
  · exact .of_watched (watched_answer _ _)
  · refine Follows.of_eq (.of_charge ?_ ?_ ?_ fun hs h => ?_) (watched_answer _ _)
    · rfl
    · exact .inl rfl
    · exact id
    · obtain ⟨ha, hp, hg, hu, htaper, -, hrest⟩ := hs h
      exact ⟨h, ha, hp, hg, hu, htaper, rfl, hrest⟩

theorem watched_schedReadEffect (a n : Nat) : watched (schedReadEffect a n s) = watched s := by
  unfold schedReadEffect
  repeat' split
  all_goals simp

theorem watched_summaryReadEffect : watched (summaryReadEffect s) = watched s := by
  unfold summaryReadEffect
  split
  · simp
  · exact watched_answer _ _

theorem watched_configReadEffect (sel : Selector) (body : List Byte) :
    watched (configReadEffect sel body s) = watched s := by
  simp only [configReadEffect]
  split
  · simp
  · split
    · split <;> simp
    · simp

theorem follows_judgeBeat (s : State) : Follows s (judgeBeat s) := by
  unfold judgeBeat
  split
  · split
    · exact .of_watched (watched_answer _ _)
    · exact ((follows_heartbeatError (beginPeriod s)).of_eq (watched_answer _ _)).after rfl
  · exact .of_watched (watched_answer _ _)

/-! ## Run, pressure and hold-out requests -/

/-- R90: a run starts out of STOPPED. -/
theorem follows_runStartEffect (i : Nat) (s : State) : Follows s (runStartEffect i s) := by
  have hreply (st : Status) : Follows s (runReply st s) := .of_watched (watched_runReply st)
  have hstart (h : s.run.state = .stopped) : Follows s (runReply .ok (startRun i s)) := by
    refine Follows.of_eq (Follows.of_unfrozen (unfrozen_of_state (by rw [h]; nofun)) ?_ ?_ ?_)
      ((watched_runReply .ok).trans (watched_raiseEvent .runStarted i 0))
    case refine_1 => rfl
    case refine_2 => exact .inl rfl
    case refine_3 => exact nofun
  unfold runStartEffect
  split
  · exact hreply _
  · next h =>
    repeat' split
    case isFalse.isFalse => exact hstart (not_not.1 h)
    all_goals exact hreply _

/-- R93: HOST joins the pause-reason set. -/
theorem follows_runPauseEffect (s : State) : Follows s (runPauseEffect s) := by
  have hjoin : Follows s (joinHost s) := by
    unfold joinHost
    split
    · exact .refl s
    · exact (follows_pauseJoined _).after ((watched_raiseEvent _ _ _).trans rfl)
  unfold runPauseEffect
  split
  case h_1 | h_2 | h_3 | h_4 => exact hjoin.of_eq (watched_runReply _)
  all_goals exact .of_watched (watched_runReply _)

theorem follows_leaveHost (s : State) : Follows s (leaveHost s) := by
  unfold leaveHost
  split
  · exact (follows_pauseEmptied _).after rfl
  · exact .refl s

theorem follows_enterParking (h : s.run.state ≠ .frozen) : Follows s (enterParking s) := follows_stopInto h nofun

theorem follows_runStopEffect (s : State) : Follows s (runStopEffect s) := by
  unfold runStopEffect
  split
  case h_6 | h_7 | h_8 | h_9 => exact .of_watched (watched_runReply _)
  all_goals next h => exact (follows_enterParking (by rw [h]; nofun)).of_eq (watched_runReply _)

theorem follows_runUnloadEffect (s : State) : Follows s (runUnloadEffect s) := by
  unfold runUnloadEffect
  split
  case h_8 | h_9 => exact .of_watched (watched_runReply _)
  case h_7 h =>
    split
    · exact .of_watched (watched_runReply _)
    · exact (follows_enterUnloading (by rw [h]; nofun)).of_eq (watched_runReply _)
  all_goals next h => exact (follows_enterUnloading (by rw [h]; nofun)).of_eq (watched_runReply _)

theorem watched_addHoldOut (c : Nat) : watched (addHoldOut c s) = watched s := by unfold addHoldOut; split <;> rfl
theorem watched_dropHoldOut (c : Nat) : watched (dropHoldOut c s) = watched s := by unfold dropHoldOut; split <;> rfl

theorem watched_holdOutEffect (c : Nat) : watched (holdOutEffect c s) = watched s := by
  unfold holdOutEffect
  repeat' split
  all_goals simp [watched_addHoldOut]

theorem watched_restoreEffect (c : Nat) : watched (restoreEffect c s) = watched s := by
  unfold restoreEffect
  repeat' split
  all_goals simp [watched_dropHoldOut]

/-- R109: the line falls out of STOPPED. -/
theorem follows_pressureOffEffect (s : State) : Follows s (pressureOffEffect s) := by
  unfold pressureOffEffect
  split
  · exact .of_watched (watched_runReply _)
  · next h =>
    have hz : s.run.state ≠ .frozen := by rw [not_not.1 h]; nofun
    split
    · exact .of_watched (watched_runReply _)
    · exact (Follows.of_unfrozen (t := { pressureFall s with run.unload := .idle }) (unfrozen_of_state hz) rfl (.inr rfl)
        id).of_eq (watched_runReply _)

/-! ## The timers -/

/-- R102, R105, R110: the run controller's timers run out only where the run is not FROZEN. -/
theorem follows_readyGraceExpiry (h : s.run.grace = .counting) : Follows s { s with run.grace := .elapsed } :=
  .of_unfrozen (fun hs hz => by obtain ⟨-, -, hg, -⟩ := hs hz; rw [h] at hg; cases hg) rfl (.inl rfl) id

theorem unfrozen_of_unload (h : s.run.unload ≠ .idle) : Unfrozen s := fun hs hz => by
  obtain ⟨-, -, -, hu, -⟩ := hs hz
  exact h hu

/-! ## What a command keeps -/

/-- R104: how a command may take the run out of FROZEN. -/
def releases (c : Instr) (t : State) : Prop :=
  (∃ tag body, c = .clearFaults tag body ∧ t.run.state = .stopped ∧ t.run.host = false ∧ tripHeld t = false) ∨
    c ∈ [.powerOn, .resetNLow, .supplyLoss, .replySent]

/-- The command `c`, from `s` to `t`, keeps the laws of the pressure line and of FROZEN. -/
structure Keeps (c : Instr) (s t : State) : Prop where
  pressure : pressureLaw s = true → pressureGround s = true → pressureLaw t = true ∧ pressureGround t = true
  frozen : frozenLaw s = true → frozenLaw t = true
  tripped : frozenLaw s = true → tripLaw s = true → tripLaw t = true
  stays : frozenLaw s = true → s.run.state = .frozen → t.run.state = .frozen ∨ releases c t

theorem pressureLaw_iff : pressureLaw s = true ↔
    (s.run.pressure = .high → s.config.mode = .active ∧ s.permit.filtered = .high ∧ tripHeld s = false) :=
  decide_eq_true_iff

theorem pressureGround_iff : pressureGround s = true ↔
    (source s 37).cls = .trip ∧ (s.life ≠ .up → s.run.pressure = .low) := by
  simp only [pressureGround, Bool.and_eq_true, decide_eq_true_eq]

theorem frozenLaw_iff : frozenLaw s = true ↔ (s.config.mode = .active → s.life = .up) ∧ frozenSound s := by
  simp only [frozenLaw, frozenSound, standsFrozen, Bool.and_eq_true, decide_eq_true_eq]

theorem tripLaw_iff : tripLaw s = true ↔ (s.faults.action = some .trip → s.run.state = .frozen) := decide_eq_true_iff

theorem actionLaw_iff : actionLaw s = true ↔ s.faults.action = effectiveAction s.faults.entries := decide_eq_true_iff

theorem tripSeen_of_actionLaw (h : actionLaw s = true) : tripSeen s := fun ht =>
  (actionLaw_iff.1 h).trans (effectiveAction_trip_iff.2 ht)

theorem action_of_actionLaw (h : actionLaw s = true) : s.faults.action = some .trip ↔ tripHeld s = true := by
  rw [actionLaw_iff.1 h, effectiveAction_trip_iff]

/-- R107: a lawful line that is high has no TRIP for an effective action. -/
theorem action_of_pressureLaw (h : actionLaw s = true) (hp : pressureLaw s = true) (hs : s.run.pressure = .high) :
    s.faults.action ≠ some .trip := fun ht => by
  obtain ⟨-, -, hno⟩ := pressureLaw_iff.1 hp hs
  exact Bool.false_ne_true (hno.symm.trans ((action_of_actionLaw h).1 ht))

theorem ne_high_iff {l : Level} : l ≠ .high ↔ l = .low := by cases l <;> decide

/-- A line that is low needs nothing of R107's law. -/
theorem pressureLaw_of_low (h : s.run.pressure = .low) : pressureLaw s = true :=
  pressureLaw_iff.2 fun hs => absurd (h.symm.trans hs) nofun

theorem pressureGround_of_low (hc : (source s 37).cls = .trip) (h : s.run.pressure = .low) : pressureGround s = true :=
  pressureGround_iff.2 ⟨hc, fun _ => h⟩

/-- What keeps the laws step by step keeps them over the command. -/
theorem Follows.keeps (c : Instr) (ha : actionLaw s = true) (h : Follows s t) : Keeps c s t := by
  have hseen := tripSeen_of_actionLaw ha
  constructor
  case pressure =>
    intro hp hg
    have hpressed := h.pressed hseen (action_of_pressureLaw ha hp)
    obtain ⟨hcls, hlow⟩ := pressureGround_iff.1 hg
    refine ⟨pressureLaw_iff.2 fun ht => ?_, pressureGround_iff.2 ⟨(h.classes 37).trans hcls, fun hl => ?_⟩⟩
    · obtain ⟨hs, hact⟩ := hpressed ht
      obtain ⟨hm, hpermit, -⟩ := pressureLaw_iff.1 hp hs
      exact ⟨h.mode.trans hm, h.permit.trans hpermit, Bool.eq_false_iff.2 fun htrip => hact (h.seen hseen htrip)⟩
    · refine ne_high_iff.1 fun ht => ?_
      cases (hlow (h.life ▸ hl)).symm.trans (hpressed ht).1
  case frozen =>
    intro hf
    obtain ⟨hlife, hsound⟩ := frozenLaw_iff.1 hf
    exact frozenLaw_iff.2 ⟨fun hm => h.life.trans (hlife (h.mode.symm.trans hm)), h.sound hseen hsound⟩
  case tripped =>
    intro hf htrip
    exact tripLaw_iff.2 (h.tripped hseen (frozenLaw_iff.1 hf).2 (tripLaw_iff.1 htrip))
  case stays => exact fun hf hz => .inl (h.stays hseen (frozenLaw_iff.1 hf).2 hz)

theorem keeps_of_watched (c : Instr) (ha : actionLaw s = true) (h : watched t = watched s) : Keeps c s t :=
  (Follows.of_watched h).keeps c ha

/-- A device without pressure that stands lawfully. -/
structure Unpressed (s : State) : Prop where
  pressure : s.run.pressure = .low
  permitClass : (source s 37).cls = .trip
  life : s.config.mode = .active → s.life = .up
  seen : tripSeen s
  sound : frozenSound s
  tripped : s.faults.action = some .trip → s.run.state = .frozen

theorem Unpressed.follows (h : Unpressed s) (e : Follows s t) : Unpressed t where
  pressure := ne_high_iff.1 fun ht => by
    cases h.pressure.symm.trans (e.pressed h.seen (fun hs => absurd (h.pressure.symm.trans hs) nofun) ht).1
  permitClass := (e.classes 37).trans h.permitClass
  life hm := e.life.trans (h.life (e.mode.symm.trans hm))
  seen := e.seen h.seen
  sound := e.sound h.seen h.sound
  tripped := e.tripped h.seen h.sound h.tripped

theorem Unpressed.of_watched (h : Unpressed s) (e : watched t = watched s) : Unpressed t := h.follows (.of_watched e)

theorem Unpressed.faultLine (h : Unpressed s) : Unpressed (setFaultLine s) := h.of_watched rfl

/-- A command that leaves the device so keeps the laws, where it may leave FROZEN or does not. -/
theorem Unpressed.keeps {c : Instr} (h : Unpressed t)
    (hstays : frozenLaw s = true → s.run.state = .frozen → releases c t) : Keeps c s t where
  pressure _ _ := ⟨pressureLaw_of_low h.pressure, pressureGround_of_low h.permitClass h.pressure⟩
  frozen _ := frozenLaw_iff.2 ⟨h.life, h.sound⟩
  tripped _ _ := tripLaw_iff.2 h.tripped
  stays hf hz := .inr (hstays hf hz)

theorem watched_actionLaw (h : watched t = watched s) : actionLaw t = actionLaw s := by
  obtain ⟨hentries, haction⟩ := charge_faults (charge_of_watched h)
  rw [actionLaw, hentries, haction, actionLaw]

theorem watched_laws (h : watched t = watched s) : pressureLaw t = pressureLaw s ∧ pressureGround t = pressureGround s ∧
    frozenLaw t = frozenLaw s ∧ tripLaw t = tripLaw s ∧ t.run.state = s.run.state := by
  have hcharge := charge_of_watched h
  obtain ⟨hentries, haction⟩ := charge_faults hcharge
  obtain ⟨hstate, hpressure, hparams⟩ := run_of_watched h
  have hmode : t.config.mode = s.config.mode := congrArg Charge.mode hcharge
  have hpermit : t.permit.filtered = s.permit.filtered := congrArg Charge.permit hcharge
  have hlife : t.life = s.life := congrArg Charge.life hcharge
  have hst : stance t = stance s := congrArg Prod.snd h
  simp only [stance, Stance.mk.injEq] at hst
  obtain ⟨-, -, hg, hu, htaper, -, hphase, hj⟩ := hst
  refine ⟨?_, ?_, ?_, ?_, hstate⟩
  · simp only [pressureLaw, hpressure, hmode, hpermit, tripHeld_congr hentries]
  · rw [Bool.eq_iff_iff, pressureGround_iff, pressureGround_iff, source, hentries, hlife, hpressure, source]
  · simp only [frozenLaw, hmode, hlife, hstate, hpressure, hg, hu, htaper, hphase, hj, hparams]
  · simp only [tripLaw, haction, hstate]

/-- What a command does after the laws' parts have stood still. -/
theorem Keeps.after {c : Instr} (h : Keeps c t u) (e : watched t = watched s) : Keeps c s u := by
  obtain ⟨hp, hg, hf, htrip, hstate⟩ := watched_laws e
  exact ⟨hp ▸ hg ▸ h.pressure, hf ▸ h.frozen, hf ▸ htrip ▸ h.tripped, hf ▸ hstate ▸ h.stays⟩

/-- What a command does before the parts, and the HOST reason, stand still. -/
theorem Keeps.of_eq {c : Instr} (h : Keeps c s t) (e : watched u = watched t) (hhost : u.run.host = t.run.host) :
    Keeps c s u := by
  obtain ⟨hp, hg, hf, htrip, hstate⟩ := watched_laws e
  have hheld : tripHeld u = tripHeld t := tripHeld_congr (charge_faults (charge_of_watched e)).1
  refine ⟨hp ▸ hg ▸ h.pressure, hf ▸ h.frozen, htrip ▸ h.tripped, fun hs hz => ?_⟩
  simpa only [releases, hstate, hhost, hheld] using h.stays hs hz

theorem Keeps.trans {c : Instr} (ha : actionLaw s = true) (h : Follows s t) (h' : Keeps c t u) : Keeps c s u := by
  have hk := h.keeps c ha
  refine ⟨fun hp hg => ?_, fun hf => h'.frozen (hk.frozen hf), fun hf ht => h'.tripped (hk.frozen hf) (hk.tripped hf ht),
    fun hf hz => h'.stays (hk.frozen hf) (h.stays (tripSeen_of_actionLaw ha) (frozenLaw_iff.1 hf).2 hz)⟩
  obtain ⟨hp', hg'⟩ := hk.pressure hp hg
  exact h'.pressure hp' hg'

/-- R88, R166: outside ACTIVE, and in a device that is not up, there is neither pressure nor a FROZEN run to keep. -/
theorem keeps_outside {c : Instr} (hs : s.config.mode = .active → s.life ≠ .up)
    (ht : t.config.mode = .active → s.config.mode = .active) (hr : t.run = s.run) (hf : t.faults = s.faults) :
    Keeps c s t := by
  have hunfrozen (h : frozenLaw s = true) : s.config.mode ≠ .active ∧ s.run.state ≠ .frozen := by
    obtain ⟨hlife, hsound⟩ := frozenLaw_iff.1 h
    have hm : s.config.mode ≠ .active := fun hm => hs hm (hlife hm)
    exact ⟨hm, fun hz => hm (hsound hz).1⟩
  constructor
  case pressure =>
    intro hp hg
    obtain ⟨hcls, hlow⟩ := pressureGround_iff.1 hg
    have hlow' : t.run.pressure = .low := by
      refine ne_high_iff.1 fun h => ?_
      rw [hr] at h
      cases (hlow (hs (pressureLaw_iff.1 hp h).1)).symm.trans h
    exact ⟨pressureLaw_of_low hlow', pressureGround_of_low (by rw [source, hf]; exact hcls) hlow'⟩
  case frozen =>
    intro h
    obtain ⟨hm, hz⟩ := hunfrozen h
    exact frozenLaw_iff.2 ⟨fun h => absurd (ht h) hm, fun h => absurd (hr ▸ h) hz⟩
  case tripped => intro _ h; rw [tripLaw_iff, hf, hr]; exact tripLaw_iff.1 h
  case stays => exact fun h hz => absurd hz (hunfrozen h).2

/-! ## The action formed again stands as the active sources form it (R138) -/

theorem actionLaw_endWait (h : actionLaw s = true) : actionLaw (endWait s) = true := by
  unfold endWait
  split
  · exact decide_eq_true rfl
  · exact h

theorem actionLaw_aborted (h : actionLaw s = true) : actionLaw (endWait (abortEntry s)) = true := by
  obtain ⟨hframe, -⟩ := aborted_abortEntry s
  have hfaults : (abortEntry s).faults = s.faults := by rw [hframe]
  exact actionLaw_endWait (by rwa [actionLaw, hfaults])

theorem actionLaw_enterUnloading (h : actionLaw s = true) : actionLaw (enterUnloading s) = true :=
  actionLaw_aborted (s := { s with run.state := .unloading }) h

theorem actionLaw_freeze (h : actionLaw s = true) : actionLaw (freeze s) = true :=
  actionLaw_aborted (s := pressureFall { s with run := { s.run with state := .frozen, unload := .idle } }) h

theorem actionLaw_stopAction (h : actionLaw s = true) : actionLaw (stopAction s) = true := by
  have hended : actionLaw (endStoppedDelay s) = true := by rw [endStoppedDelay, actionLaw, raiseEvent_faults]; exact h
  unfold stopAction
  split
  case h_7 | h_8 => exact h
  case h_9 =>
    split
    · split
      · exact hended
      · exact h
    · exact h
  all_goals exact actionLaw_enterUnloading h

theorem actionLaw_formAction (s : State) : actionLaw (formAction s) = true := by
  have hset : actionLaw (setAction s) = true := decide_eq_true rfl
  unfold formAction
  split
  · next h => exact decide_eq_true h.symm
  · unfold handAction
    split
    · exact actionLaw_freeze hset
    · exact actionLaw_stopAction hset
    · exact hset

/-! ## Resets and a commit -/

/-- R166: after a reset there is neither pressure nor a fault. -/
theorem unpressed_atReset (hm : t.config.mode ≠ .active) (hr : t.run = .atReset) (hf : t.faults = .atReset) :
    Unpressed t := by
  have hstate : t.run.state = .stopped := by rw [hr]; rfl
  have hnone : tripHeld t = false := by
    rw [tripHeld_congr (t := t) (s := State.reset) (by rw [hf]; rfl)]
    decide
  constructor
  case pressure => rw [hr]; rfl
  case permitClass => rw [source, hf]; rfl
  case life => exact fun h => absurd h hm
  case seen => exact fun h => absurd (hnone.symm.trans h) Bool.false_ne_true
  case sound => exact fun h => absurd (hstate.symm.trans h) nofun
  case tripped => rw [hf]; exact nofun

theorem unpressed_warmReset (cause : ResetCause) {life : Life} {line : Level} :
    Unpressed { warmReset cause s with resetN := line, life := life } := by
  have hreset : (warmReset cause s).config.mode = .idle ∧ (warmReset cause s).run = .atReset ∧
      (warmReset cause s).faults = .atReset := by
    unfold warmReset
    split <;> exact ⟨rfl, rfl, rfl⟩
  obtain ⟨hmode, hrun, hfaults⟩ := hreset
  exact unpressed_atReset (by rw [hmode]; decide) hrun hfaults

/-- R104, R138: the effective action of a run that has just been admitted is done. -/
theorem unpressed_handAction {a : Option FaultClass} (ha : s.faults.action = a) (hm : s.config.mode = .active)
    (hl : s.life = .up) (hp : s.run.pressure = .low) (hc : (source s 37).cls = .trip)
    (hstate : s.run.state ≠ .frozen) (hseen : tripSeen s) : Unpressed (handAction a s) := by
  subst ha
  by_cases ht : s.faults.action = some .trip
  · obtain ⟨hfrozen, hstands⟩ := standsFrozen_freeze hm
    have hease := tripsEase_freeze s
    obtain ⟨hlife, -⟩ := outer_parts (outer_freeze (s := s))
    rw [ht]
    exact ⟨hstands.low, (hease.classes 37).trans hc, fun _ => hlife.trans hl, hease.seen hseen, fun _ => hstands,
      fun _ => hfrozen⟩
  · have hbefore : Unpressed s := ⟨hp, hc, fun _ => hl, hseen, fun h => absurd h hstate, fun h => absurd h ht⟩
    refine hbefore.follows ?_
    unfold handAction
    split
    · next h => exact absurd h ht
    · exact follows_stopAction s
    · exact .refl s

/-- R178: a good commit. -/
theorem unpressed_enterActive (hl : s.life = .up) : Unpressed (enterActive s) := by
  simp only [enterActive]
  refine Unpressed.faultLine (unpressed_handAction ?_ ?_ ?_ ?_ ?_ ?_ ?_)
  case refine_1 | refine_2 | refine_4 => rfl
  case refine_3 => exact hl
  case refine_5 => exact congrArg FaultEntry.cls (tget_tmap _ _ (by decide))
  case refine_6 => exact nofun
  case refine_7 => exact fun h => effectiveAction_trip_iff.2 h

/-- R176 to R178: a commit is refused, or it leaves the device in ACTIVE without pressure. -/
theorem commitEffect_refused_or_unpressed (crc : BitVec 16) (hl : s.life = .up) :
    (∃ st x, commitEffect crc s = configReply st x s) ∨ Unpressed (commitEffect crc s) := by
  simp only [commitEffect]
  split
  · exact .inl ⟨_, _, rfl⟩
  · split
    · exact .inl ⟨_, _, rfl⟩
    · refine .inr ?_
      have hentered : Unpressed (configReply .ok .nothing (enterActive s)) :=
        (unpressed_enterActive hl).of_watched (watched_configReply _ _)
      unfold permitAtEntry
      split
      · exact hentered.follows (follows_raise _ (by decide) _)
      · exact hentered

/-! ## The commands that change the mode, PERMIT or the line -/

section Special
variable {c : Instr}

theorem keeps_configWriteEffect (sel : Selector) (body : List Byte) (ha : actionLaw s = true) :
    Keeps c s (configWriteEffect sel body s) := by
  have hreply {u v : State} (h : Keeps c u v) : Keeps c u (configReply .ok .nothing v) :=
    h.of_eq (watched_configReply _ _) (by rw [configReply, answer_run])
  have hwrite : Keeps c s (writeRecord sel body s) := keeps_of_watched c ha rfl
  unfold configWriteEffect
  split
  · next hm =>
    refine hreply (keeps_outside (fun h => ?_) nofun rfl rfl)
    cases hm.symm.trans h
  · exact hreply hwrite
  · exact hreply hwrite
  · split
    · exact keeps_of_watched c ha (watched_configReply _ _)
    · next h =>
      obtain ⟨hstopped, hlow⟩ := not_or.1 h
      have hz : s.run.state ≠ .frozen := by rw [not_not.1 hstopped]; nofun
      refine hreply ⟨fun _ hg => ?_, fun _ => ?_, fun _ ht => ?_, fun _ hs => absurd hs hz⟩
      · exact ⟨pressureLaw_of_low rfl, pressureGround_of_low (pressureGround_iff.1 hg).1 rfl⟩
      · exact frozenLaw_iff.2 ⟨nofun, nofun⟩
      · exact tripLaw_iff.2 fun h => absurd (tripLaw_iff.1 ht h) hz

theorem keeps_commitEffect (crc : BitVec 16) (hl : u.life = .up) (hs : s.config.mode ≠ .active)
    (hu : u.config.mode ≠ .active) (hr : u.run = s.run) (hf : u.faults = s.faults) :
    Keeps c s (commitEffect crc u) := by
  rcases commitEffect_refused_or_unpressed crc hl with ⟨st, x, e⟩ | h
  · rw [e]
    exact keeps_outside (fun h => absurd h hs) (fun h => absurd (by simpa [configReply] using h) hu)
      (by simpa [configReply] using hr) (by simpa [configReply] using hf)
  · exact h.keeps fun hlaw hz => absurd ((frozenLaw_iff.1 hlaw).2 hz).1 hs

theorem stopOrTripHeld_iff : stopOrTripHeld s = true ↔
    ∃ k, k < 38 ∧ (source s k).active = true ∧ ((source s k).cls = .stop ∨ (source s k).cls = .trip) := by
  have hcode (c : FaultClass) : 2 ≤ classCode c ↔ c = .stop ∨ c = .trip := by cases c <;> decide
  simp only [stopOrTripHeld, List.any_eq_true, Bool.and_eq_true, decide_eq_true_eq, mem_table, source, hcode]
  exact ⟨fun ⟨_, ⟨k, hk, rfl⟩, h⟩ => ⟨k, hk, h⟩, fun ⟨k, hk, h⟩ => ⟨_, ⟨k, hk, rfl⟩, h⟩⟩

/-- R108: where no STOP and no TRIP is held, no TRIP is. -/
theorem tripHeld_of_stopOrTripHeld (h : stopOrTripHeld s = false) : tripHeld s = false :=
  Bool.eq_false_iff.2 fun ht => by
    obtain ⟨k, hk, hactive, hcls⟩ := tripHeld_iff.1 ht
    exact Bool.false_ne_true (h.symm.trans (stopOrTripHeld_iff.2 ⟨k, hk, hactive, .inr hcls⟩))

/-- R107, R108: the line rises in ACTIVE with PERMIT high and no TRIP held. -/
theorem keeps_pressureOnEffect (ha : actionLaw s = true) (hl : s.life = .up) (hm : s.config.mode = .active) :
    Keeps c s (pressureOnEffect s) := by
  have hreply (st : Status) : Keeps c s (runReply st s) := keeps_of_watched c ha (watched_runReply st)
  unfold pressureOnEffect
  split
  · exact hreply _
  · next hstate =>
    have hz : s.run.state ≠ .frozen := by rw [not_not.1 hstate]; nofun
    split
    · exact hreply _
    · next hpermit =>
      split
      · exact hreply _
      · next hfaults =>
        split
        · exact hreply _
        · split
          · refine Keeps.of_eq (t := pressureRise s) ⟨fun _ hg => ⟨pressureLaw_iff.2 fun _ => ?_, ?_⟩, fun hf => ?_,
              fun _ ht => ?_, fun _ h => absurd h hz⟩ (watched_runReply _) (by rw [runReply, answer_run])
            · exact ⟨hm, not_not.1 (mt ne_high_iff.1 hpermit), tripHeld_of_stopOrTripHeld (Bool.eq_false_iff.2 hfaults)⟩
            · exact pressureGround_iff.2 ⟨(pressureGround_iff.1 hg).1, fun h => absurd hl h⟩
            · exact frozenLaw_iff.2 ⟨fun _ => hl, fun h => absurd h hz⟩
            · exact tripLaw_iff.2 (tripLaw_iff.1 ht)
          · exact hreply _

theorem follows_endSources (ks : List Nat) (s : State) : Follows s (endSources ks s) := by
  have hfold : Follows s (ks.foldl (fun t k => endSource k t) s) := by
    induction ks generalizing s with
    | nil => exact .refl s
    | cons k ks ih => exact (follows_endSource k s).trans (ih _)
  simp only [endSources]
  split
  · exact hfold.of_eq rfl
  · exact hfold

theorem follows_clearSources (s : State) : Follows s (clearSources s) := by
  have hend := follows_endSources (endedSources s) s
  simp only [clearSources]
  exact ((hend.of_eq (u := { endSources (endedSources s) s with
    run.sources := (endSources (endedSources s) s).run.sources.filter fun k => !(endedSources s).contains k }) rfl).trans
    (follows_formAction _)).of_eq rfl

/-- R104, R106: FROZEN is left where the clearing leaves no TRIP held. -/
theorem keeps_clearFaultsEffect (tag : Byte) (body : List Byte) (ha : actionLaw s = true) :
    Keeps (.clearFaults tag body) s (clearFaultsEffect s) := by
  have hlaw : actionLaw (clearSources s) = true := actionLaw_formAction _
  simp only [clearFaultsEffect]
  split
  · exact keeps_of_watched _ ha (watched_answer _ _)
  · refine Keeps.of_eq (Keeps.trans ha (follows_clearSources s) ?_) (watched_answer _ _) (by rw [answer_run])
    generalize clearSources s = u at hlaw ⊢
    unfold respondToClearing
    split
    · next hz =>
      split
      · exact (Follows.refl u).keeps _ hlaw
      · next hno =>
        have hfree : tripHeld u = false := Bool.eq_false_iff.2 hno
        refine Keeps.of_eq (t := enterStopped u) ⟨fun hp hg => ⟨hp, hg⟩, fun hf => ?_, fun _ _ => ?_, fun _ _ => ?_⟩
          (watched_raiseEvent _ _ _) (by rw [raiseEvent_run])
        · exact frozenLaw_iff.2 ⟨(frozenLaw_iff.1 hf).1, nofun⟩
        · exact tripLaw_iff.2 fun h => absurd ((action_of_actionLaw hlaw).1 h) hno
        · exact .inr (.inl ⟨tag, body, rfl, rfl, rfl, hfree⟩)
    · split
      · exact (follows_pauseEmptied u).keeps _ hlaw
      · exact (Follows.refl u).keeps _ hlaw

/-- A request, by what it does in an up device. -/
theorem keeps_onRequest {f : State → State} (kind tag : Byte) (body : List Byte) (ha : actionLaw s = true)
    (hf : ∀ u, actionLaw u = true → u.life = .up → Keeps c u (f u)) : Keeps c s (onRequest kind tag body f s) := by
  unfold onRequest
  split
  · next hu =>
    split
    · exact keeps_of_watched c ha rfl
    · split
      · exact keeps_of_watched c ha (by rw [answerBusy_eq]; rfl)
      · exact (hf (takeInHand kind tag s) ha (of_decide_eq_true hu)).after rfl
  · exact (Follows.refl s).keeps c ha

theorem keeps_onConfig {f : State → State} (ha : actionLaw s = true) (hl : s.life = .up)
    (hf : ∀ u, actionLaw u = true → u.life = .up → Keeps c u (f u)) : Keeps c s (onConfig f s) := by
  have hage : watched (ageTimer s) = watched s := watched_ageTimer
  simp only [onConfig]
  split
  · exact keeps_of_watched c ha (by simp)
  · exact (hf _ ((watched_actionLaw hage).trans ha) ((congrArg (fun w => w.1.life) hage).trans hl)).after hage

end Special

/-- R104, R107, R183: where a source of class TRIP is raised in ACTIVE, the line is low. -/
theorem pressure_raised_trip {k : Nat} (n : Nat) (ha : s.config.mode = .active) (hk : k < 38)
    (hc : (source s k).cls = .trip) (hp : s.run.pressure = .high → s.faults.action ≠ some .trip) :
    (formAction (raised k n s)).run.pressure = .low := by
  have hfaults := raised_faults k n s
  have hsource : source (raised k n s) k = raisedEntry k n s := by
    rw [source, hfaults, tget_tset _ _ _ _ hk, if_pos rfl]
  have heff := effectiveAction_trip_iff.2 (tripHeld_iff.2 ⟨k, hk, by rw [hsource]; rfl, by rw [hsource]; exact hc⟩)
  have haction : (raised k n s).faults.action = s.faults.action := by rw [hfaults]
  by_cases hs : s.faults.action = some .trip
  · rw [formAction_same (by rw [heff, haction, hs]), raised, raiseEvent_run]
    exact ne_high_iff.1 fun h => hp h hs
  · rw [formAction_hands heff (by rw [haction]; exact fun h => hs h.symm)]
    have hmode : (setAction (raised k n s)).config.mode = .active := by
      rw [← ha, setAction, raised, raiseEvent_config]
      rfl
    exact (standsFrozen_freeze hmode).2.low

/-- R104, R107: a raise of a source of class TRIP leaves no pressure that R107's law allowed. -/
theorem pressure_raise_trip {k : Nat} (n : Nat) (hk : k < 38) (hc : (source s k).cls = .trip) (hseen : tripSeen s)
    (hm : s.run.pressure = .high → s.config.mode = .active)
    (hp : s.run.pressure = .high → s.faults.action ≠ some .trip) :
    (raise k n s).run.pressure = .low := by
  refine ne_high_iff.1 fun h => ?_
  have hs := ((follows_raise n hk s).pressed hseen hp h).1
  have hidle : (source s k).active = false :=
    Bool.eq_false_iff.2 fun hactive => hp hs (hseen (tripHeld_iff.2 ⟨k, hk, hactive, hc⟩))
  have hraise : raise k n s = setFaultLine (formAction (raised k n s)) := by
    simp only [raise, raised, raisedEntry, isActive, hm hs, hidle, hc]
    rfl
  rw [hraise] at h
  cases (pressure_raised_trip n (hm hs) hk hc hp).symm.trans h

/-- R183: the filter passes PERMIT's level on. -/
def permitPassed (s : State) : State :=
  { s with permit := { raw := s.permit.raw, filtered := s.permit.raw, timer := false } }

/-- R183, R185: PERMIT's filtered level changes; where it falls in ACTIVE, the line is made low. -/
theorem keeps_execPermitFilterExpiry {c : Instr} (ha : actionLaw s = true) (he : execPermitFilterExpiry s = .next t) :
    Keeps c s t := by
  unfold execPermitFilterExpiry at he
  split at he
  · simp only at he
    split at he
    · cases he
      have hraise := follows_raise (k := 37) 0 (by decide) (permitPassed s)
      have hk := hraise.keeps c (show actionLaw (permitPassed s) = true from ha)
      refine Keeps.of_eq (t := raise 37 0 (permitPassed s)) ⟨fun hp hg => ?_, hk.frozen, hk.tripped, hk.stays⟩
        watched_settle (by rw [settle_run]; rfl)
      have hcls := (pressureGround_iff.1 hg).1
      have hlow := pressure_raise_trip (k := 37) (s := permitPassed s) 0 (by decide) hcls
        (tripSeen_of_actionLaw (s := s) ha) (fun h => (pressureLaw_iff.1 hp h).1) (action_of_pressureLaw (s := s) ha hp)
      exact ⟨pressureLaw_of_low hlow, pressureGround_of_low ((hraise.classes 37).trans hcls) hlow⟩
    · next hfall =>
      cases he
      refine ⟨fun hp hg => ⟨pressureLaw_iff.2 fun h => ?_, hg⟩, id, fun _ => id, fun _ hz => .inl hz⟩
      obtain ⟨hm, hhigh, hno⟩ := pressureLaw_iff.1 hp h
      exact ⟨hm, not_not.1 fun hraw => hfall ⟨hhigh, ne_high_iff.1 hraw⟩, hno⟩
  · cases he
    exact keeps_of_watched c ha rfl

/-! ## The commands -/

/-- A meaning's answer keeps the laws. -/
def Obeys (c : Instr) (s : State) (r : Result) : Prop := ∀ t, r = .next t → Keeps c s t

theorem Keeps.obeys {c : Instr} (h : Keeps c s t) : Obeys c s (.next t) := fun _ he => by cases he; exact h

theorem Keeps.obeys_settle {c : Instr} (h : Keeps c s t) : Obeys c s (.next (settle t)) :=
  (h.of_eq watched_settle (by rw [settle_run])).obeys

section Commands
variable {c : Instr}

theorem obeys_follows (ha : actionLaw s = true) (h : Follows s t) : Obeys c s (.next t) := (h.keeps c ha).obeys

theorem obeys_settled (ha : actionLaw s = true) (h : Follows s t) : Obeys c s (.next (settle t)) :=
  (h.keeps c ha).obeys_settle

theorem obeys_watched (ha : actionLaw s = true) (h : watched t = watched s) : Obeys c s (.next t) :=
  (keeps_of_watched c ha h).obeys

theorem obeys_idle (ha : actionLaw s = true) : Obeys c s (.next s) := obeys_watched ha rfl

variable {kind tag : Byte} {body : List Byte} {n : Nat} {f : State → State}

/-- A request whose effect leaves the laws' parts alone. -/
theorem obeys_request (ha : actionLaw s = true) (hf : ∀ u, watched (f u) = watched u) :
    Obeys c s (.next (onRequest kind tag body f s)) :=
  obeys_follows ha (follows_onRequest _ _ _ (fun u => .of_watched (hf u)) s)

/-- The same, with its length checked first. -/
theorem obeys_withLength (ha : actionLaw s = true) (hf : ∀ u, watched (f u) = watched u) :
    Obeys c s (.next (onRequest kind tag body (withLength n body f) s)) :=
  obeys_follows ha (follows_onRequest _ _ _ (follows_withLength n body fun u => .of_watched (hf u)) s)

/-- The same, with the arbiter's work after it. -/
theorem obeys_withLength_settled (ha : actionLaw s = true) (hf : ∀ u, Follows u (f u)) :
    Obeys c s (.next (settle (onRequest kind tag body (withLength n body f) s))) :=
  obeys_settled ha (follows_onRequest _ _ _ (follows_withLength n body hf) s)

/-- A run, pressure or hold-out request. -/
theorem obeys_onRun (ha : actionLaw s = true) (hf : ∀ u, Follows u (f u)) :
    Obeys c s (.next (onRequest kind tag body (onRun n body f) s)) :=
  obeys_follows ha (follows_onRequest _ _ _ (follows_onRun n body hf) s)

theorem obeys_onRun_settled (ha : actionLaw s = true) (hf : ∀ u, Follows u (f u)) :
    Obeys c s (.next (settle (onRequest kind tag body (onRun n body f) s))) :=
  obeys_settled ha (follows_onRequest _ _ _ (follows_onRun n body hf) s)

/-- A segment request. -/
theorem obeys_onSegment {fits : Bool} {g : Nat → State → State} (ha : actionLaw s = true)
    (hg : ∀ id u, Follows u (g id u)) : Obeys c s (.next (settle (onRequest kind tag body (onSegment fits body g) s))) :=
  obeys_settled ha (follows_onRequest _ _ _ (follows_onSegment fits body hg) s)

/-- A configuration request. -/
theorem obeys_onConfig (ha : actionLaw s = true) (hf : ∀ u, actionLaw u = true → u.life = .up → Keeps c u (f u)) :
    Obeys c s (.next (onRequest kind tag body (onConfig f) s)) :=
  (keeps_onRequest _ _ _ ha fun _ hu hl => keeps_onConfig hu hl hf).obeys

/-- The moments of resets and start-up. -/
theorem obeys_execResetNLow (ha : actionLaw s = true) : Obeys .resetNLow s (execResetNLow s) := by
  unfold execResetNLow
  split
  · exact obeys_idle ha
  · exact obeys_watched ha rfl
  · exact ((unpressed_warmReset .line).keeps fun _ _ => .inr (by simp)).obeys

theorem obeys_execResetNHigh (ha : actionLaw s = true) : Obeys c s (execResetNHigh s) := by
  unfold execResetNHigh
  split
  · next k hl => exact Keeps.obeys (keeps_outside (fun _ => by rw [hl]; nofun) id rfl rfl)
  · exact obeys_watched ha rfl

theorem obeys_execStartUpEnd (ha : actionLaw s = true) : Obeys c s (execStartUpEnd s) := by
  unfold execStartUpEnd
  split
  · next k hl => exact Keeps.obeys_settle (keeps_outside (fun _ => by rw [hl]; nofun) nofun rfl rfl)
  · exact obeys_idle ha

theorem obeys_execSupplyLoss (ha : actionLaw s = true) : Obeys .supplyLoss s (execSupplyLoss s) := by
  unfold execSupplyLoss
  split
  · exact obeys_idle ha
  · refine Keeps.obeys (Unpressed.keeps (unpressed_atReset ?_ rfl rfl) fun _ _ => .inr (by simp))
    exact nofun

theorem obeys_execReplySent (ha : actionLaw s = true) : Obeys .replySent s (execReplySent s) := by
  have hleaves : watched (replyLeaves s) = watched s := by unfold replyLeaves; split <;> rfl
  unfold execReplySent
  split
  · split
    · exact ((unpressed_warmReset .request).keeps fun _ _ => .inr (by simp)).obeys
    · exact obeys_watched ha hleaves
  · exact obeys_idle ha

/-- R170: the configuration timer runs out in CONFIG. -/
theorem obeys_execConfigTimerExpiry (ha : actionLaw s = true) : Obeys c s (execConfigTimerExpiry s) := by
  unfold execConfigTimerExpiry
  split
  · next h =>
    have hm : s.config.mode ≠ .active := by rw [h.1]; nofun
    refine (Keeps.of_eq (keeps_outside (fun h => absurd h hm) ?_ ?_ ?_) (watched_raiseEvent _ _ _) ?_).obeys
    case refine_1 => exact nofun
    case refine_2 | refine_3 => rfl
    case refine_4 => rw [raiseEvent_run]
  · exact obeys_idle ha

theorem obeys_execConfigSaveEnd (back : List Byte) (ha : actionLaw s = true) : Obeys c s (execConfigSaveEnd back s) := by
  unfold execConfigSaveEnd
  split
  · exact obeys_idle ha
  · split <;> exact obeys_watched ha ((watched_raiseEvent _ _ _).trans rfl)

/-- The run controller's timers and the supervisor's period. -/
theorem obeys_timers (ha : actionLaw s = true) : Obeys c s (execHeartbeatWindowOpen s) ∧
    Obeys c s (execHeartbeatPeriodExpiry s) ∧ Obeys c s (execReadyGraceExpiry s) ∧ Obeys c s (execUnloadDelayExpiry s) ∧
    Obeys c s (execStoppedUnloadDelayExpiry s) := by
  unfold execHeartbeatWindowOpen execHeartbeatPeriodExpiry execReadyGraceExpiry execUnloadDelayExpiry
    execStoppedUnloadDelayExpiry
  refine ⟨?_, ?_, ?_, ?_, ?_⟩ <;> split
  case refine_1.isTrue => exact obeys_watched ha rfl
  case refine_2.isTrue => exact obeys_settled ha ((follows_heartbeatError (beginPeriod s)).after rfl)
  case refine_3.isTrue h => exact obeys_follows ha (follows_readyGraceExpiry h)
  case refine_4.isTrue h => exact obeys_follows ha (follows_endUnloadDelay (unfrozen_of_unload (by rw [h]; nofun)))
  case refine_5.isTrue h => exact obeys_follows ha (follows_endStoppedDelay (unfrozen_of_unload (by rw [h]; nofun)))
  all_goals exact obeys_idle ha

/-- The arbiter's completions. -/
theorem obeys_completions (found : ReadOutcome) (ha : actionLaw s = true) : Obeys c s (execMemoryRead found s) ∧
    Obeys c s (execWholeWordWrite s) ∧ Obeys c s (execPartialWordWrite found s) ∧ Obeys c s (execScrub found s) := by
  have hin (o : ReadOutcome) (op : MemOp) : Obeys c s (completeInside o op s) := by
    unfold completeInside
    split
    · exact obeys_settled ha (follows_completeGranted o s)
    · exact fun _ he => nomatch he
  have hidle : Obeys c s (.next s) := obeys_idle ha
  refine ⟨?_, ?_, ?_, ?_⟩
  · unfold execMemoryRead
    split
    · exact hin _ _
    · exact hidle
  · unfold execWholeWordWrite
    split
    · split
      · exact hin _ _
      · exact hidle
    · exact hidle
  · unfold execPartialWordWrite
    split
    · split
      · exact hidle
      · exact hin _ _
    · exact hidle
  · unfold execScrub
    split
    · exact hin _ _
    · exact hidle

/-- The framing of the control link. -/
theorem obeys_framing (kind tag : Byte) (bytes : List Byte) (low : Option Nat) (ha : actionLaw s = true) :
    Obeys c s (execFrameMarker s) ∧ Obeys c s (execRequestFrameDiscarded s bytes low) ∧
    Obeys c s (execControlByteGap s) ∧ Obeys c s (execUnknownRequest kind tag bytes s) ∧
    Obeys c s (execBusyRequest kind tag s) := by
  have hidle : Obeys c s (.next s) := obeys_idle ha
  refine ⟨?_, ?_, ?_, ?_, ?_⟩
  · unfold execFrameMarker
    split
    · exact obeys_watched ha rfl
    · exact hidle
  · unfold execRequestFrameDiscarded
    split
    · refine obeys_watched ha ?_
      simp only [takeFrameBytes]
      split
      · rfl
      · split <;> rfl
    · exact hidle
  · unfold execControlByteGap
    split
    · exact obeys_watched ha rfl
    · exact hidle
  · unfold execUnknownRequest
    split
    · exact hidle
    · exact obeys_request ha fun _ => watched_answer _ _
  · unfold execBusyRequest
    split
    · exact obeys_watched ha (by rw [answerBusy_eq]; rfl)
    · exact hidle

end Commands

/-- Every command's meaning keeps the laws of the pressure line and of FROZEN. -/
theorem obeys_exec (c : Instr) (ha : actionLaw s = true) : Obeys c s (exec c s) := by
  cases c with
  | powerOn =>
    refine Keeps.obeys (Unpressed.keeps (unpressed_atReset ?_ rfl rfl) fun _ _ => .inr (by simp))
    exact nofun
  | resetNLow => exact obeys_execResetNLow ha
  | resetNHigh => exact obeys_execResetNHigh ha
  | startUpEnd => exact obeys_execStartUpEnd ha
  | frameBoundary m =>
    rw [exec, execFrameBoundary]
    split
    · exact obeys_follows ha (follows_boundary m s)
    · exact obeys_idle ha
  | responseFrame b low =>
    rw [exec, execResponseFrame]
    split
    · exact obeys_settled ha (follows_takeBytes b low s)
    · exact obeys_idle ha
  | permitLineChange => exact obeys_watched ha rfl
  | permitFilterExpiry => exact fun _ he => keeps_execPermitFilterExpiry ha he
  | heartbeatWindowOpen => exact (obeys_timers ha).1
  | heartbeatPeriodExpiry => exact (obeys_timers ha).2.1
  | readyGraceExpiry => exact (obeys_timers ha).2.2.1
  | unloadDelayExpiry => exact (obeys_timers ha).2.2.2.1
  | stoppedUnloadDelayExpiry => exact (obeys_timers ha).2.2.2.2
  | configTimerExpiry => exact obeys_execConfigTimerExpiry ha
  | configSaveEnd r => exact obeys_execConfigSaveEnd r ha
  | memoryRead o => exact (obeys_completions o ha).1
  | wholeWordWrite => exact (obeys_completions .clean ha).2.1
  | partialWordWrite o => exact (obeys_completions o ha).2.2.1
  | scrub o => exact (obeys_completions o ha).2.2.2
  | requestFrameDiscarded b low => exact (obeys_framing 0 0 b low ha).2.1
  | controlByteGap => exact (obeys_framing 0 0 [] none ha).2.2.1
  | unknownRequest k t b => exact (obeys_framing k t b none ha).2.2.2.1
  | busyRequest k t => exact (obeys_framing k t [] none ha).2.2.2.2
  | replySent => exact obeys_execReplySent ha
  | identify t b => exact obeys_withLength ha fun _ => watched_answer _ _
  | status t b => exact obeys_withLength ha fun _ => watched_setJob _
  | eventsRead t b =>
    refine obeys_withLength ha fun u => ?_
    simp only
    split
    · simp
    · split
      · simp
      · exact (watched_answer _ _).trans rfl
  | reset t b => exact obeys_withLength ha fun _ => by simp
  | configWrite t b =>
    refine obeys_onConfig ha fun u hu _ => ?_
    split
    · exact keeps_of_watched _ hu (watched_configReply _ _)
    · split
      · exact keeps_of_watched _ hu (watched_configReply _ _)
      · exact keeps_configWriteEffect _ _ hu
  | configRead t b =>
    refine obeys_onConfig ha fun u hu _ => keeps_of_watched _ hu ?_
    split
    · simp
    · split
      · simp
      · exact watched_configReadEffect _ _
  | configCommit t b =>
    refine obeys_onConfig ha fun u hu hl => ?_
    split
    · exact keeps_of_watched _ hu (watched_configReply _ _)
    · split
      · exact keeps_of_watched _ hu (watched_configReply _ _)
      · next hm => exact keeps_commitEffect (u := enterConfig u) _ hl (by rw [hm]; nofun) nofun rfl rfl
      · next hm => exact keeps_commitEffect _ hl (by rw [hm]; nofun) (by rw [hm]; nofun) rfl rfl
      · next hm => exact keeps_commitEffect _ hl (by rw [hm]; nofun) (by rw [hm]; nofun) rfl rfl
  | configSave t b =>
    refine obeys_onConfig ha fun u hu _ => keeps_of_watched _ hu ?_
    split
    · simp
    · split
      · split
        · simp
        · exact (watched_configReply _ _).trans rfl
      · simp
  | segOpen t b =>
    exact obeys_settled ha (follows_onRequest _ _ _ (fun _ => .of_watched (watched_segOpenEffect b)) s)
  | segOpenReplace t b =>
    exact obeys_settled ha (follows_onRequest _ _ _ (fun _ => .of_watched (watched_segOpenEffect b)) s)
  | segData t b => exact obeys_onSegment ha fun id _ => .of_watched (watched_segDataEffect b id)
  | segClose t b => exact obeys_onSegment ha fun id _ => .of_watched (watched_segCloseEffect b id)
  | segAbandon t b => exact obeys_onSegment ha follows_segAbandonEffect
  | segFree t b => exact obeys_onSegment ha follows_segFreeEffect
  | segQuery t b =>
    exact obeys_follows ha (follows_onRequest _ _ _ (follows_onSegment _ _ fun _ _ => .of_watched (watched_answer _ _)) s)
  | schedAppend t b =>
    refine obeys_settled ha (follows_onRequest _ _ _ (fun u => .of_watched ?_) s)
    split
    · simp
    · split
      · simp
      · exact watched_appendEntries _
  | schedTruncate t b => exact obeys_withLength_settled ha fun _ => .of_watched (watched_truncateEffect _)
  | schedClear t b => exact obeys_follows ha (follows_onRequest _ _ _ (follows_withLength _ _ follows_clearEffect) s)
  | schedRead t b => exact obeys_withLength ha fun _ => watched_schedReadEffect _ _
  | runStart t b => exact obeys_onRun ha (follows_runStartEffect _)
  | runPause t b => exact obeys_onRun_settled ha follows_runPauseEffect
  | runResume t b => exact obeys_onRun_settled ha fun u => (follows_leaveHost u).of_eq (watched_runReply _)
  | runStop t b => exact obeys_onRun_settled ha follows_runStopEffect
  | runUnload t b => exact obeys_onRun_settled ha follows_runUnloadEffect
  | pressureOn t b =>
    refine (keeps_onRequest _ _ _ ha fun u hu hl => ?_).obeys
    unfold onRun
    split
    · exact keeps_of_watched _ hu (watched_runReply _)
    · split
      · exact keeps_of_watched _ hu (watched_runReply _)
      · next hm => exact keeps_pressureOnEffect hu hl (by simpa [isActive] using hm)
  | pressureOff t b => exact obeys_onRun ha follows_pressureOffEffect
  | holdOut t b => exact obeys_onRun ha fun _ => .of_watched (watched_holdOutEffect _)
  | restore t b => exact obeys_onRun ha fun _ => .of_watched (watched_restoreEffect _)
  | clearFaults t b =>
    refine (keeps_onRequest _ _ _ ha fun u hu _ => ?_).obeys_settle
    unfold withLength
    split
    · exact keeps_clearFaultsEffect t b hu
    · exact keeps_of_watched _ hu (watched_answer _ _)
  | faultsRead t b => exact obeys_withLength ha fun _ => watched_answer _ _
  | captureList t b => exact obeys_withLength ha fun _ => watched_answer _ _
  | captureRead t b => exact obeys_withLength_settled ha fun _ => .of_watched (watched_captureReadEffect _ _ _)
  | captureFree t b => exact obeys_withLength_settled ha fun _ => .of_watched (watched_captureFreeEffect _)
  | summaryRead t b => exact obeys_withLength ha fun _ => watched_summaryReadEffect
  | heartbeat t b => exact obeys_withLength_settled ha follows_judgeBeat
  | frameMarker => exact (obeys_framing 0 0 [] none ha).1
  | supplyLoss => exact obeys_execSupplyLoss ha

/-- Settles O55: below the commands the line never rises and a TRIP freezes (`Follows`); PRESSURE_ON, PERMIT's filter,
the configuration and the resets are judged one by one. -/
theorem pressureNeedsActivePermitNoTrip : Obligations.PressureNeedsActivePermitNoTrip := by
  unfold Obligations.PressureNeedsActivePermitNoTrip
  exact fun c _ t hp hg ha he => (obeys_exec c ha t he).pressure hp hg

/-- Settles O60: a FROZEN run stands as it is under everything but a clearing and a reset (`Follows.stays`). -/
theorem frozenHoldsUntilCleared : Obligations.FrozenHoldsUntilCleared := by
  unfold Obligations.FrozenHoldsUntilCleared
  intro c s t hf ha he
  have hkeeps := obeys_exec c ha t he
  exact ⟨hkeeps.frozen hf, hkeeps.tripped hf, fun hs ht => (hkeeps.stays hf hs).resolve_left ht⟩

end Sys2Proof.Machine
end

section
/-! PROOF. The run, pressure and hold-out requests (R89, R90, R107 to R112): O34, O38, O39. -/

namespace Sys2Proof.Machine

variable {s t u : State} {kind tag : Byte}

/-! ## Taken requests -/

theorem runReply_withTaken (st : Status) :
    runReply st (withTaken kind tag s) = { s with link := answered s kind tag st (.run (runBlock s)) } :=
  runReply_taken rfl

/-- R69: the run block outside ACTIVE is the one of a device that has no run. -/
theorem runBlock_inactive (h : s.config.mode ≠ .active) :
    runBlock s = { state := .stopped, pause := [], holdOut := [], pressure := .low } := by
  simp [runBlock, isActive, h]

theorem runBlock_active (h : s.config.mode = .active) :
    runBlock s =
      { state := s.run.state, pause := pauseSet s, holdOut := s.run.holdOut, pressure := s.run.pressure } := by
  simp [runBlock, isActive, h]

/-- R89: outside ACTIVE a run request of fitting length is answered WRONG_STATE. -/
theorem onRequest_onRun_inactive {n : Nat} {body : List Byte} {f : State → State} (h : linkFree s = true)
    (hm : s.config.mode ≠ .active) (hb : body.length = n) (hn : n ≤ 1040) :
    onRequest kind tag body (onRun n body f) s = { s with link := answered s kind tag .wrongState (.run
      { state := .stopped, pause := [], holdOut := [], pressure := .low }) } := by
  have hinactive : isActive (withTaken kind tag s) = false := decide_eq_false hm
  rw [onRequest_free h (hb.trans_le hn), onRun, if_neg (not_not.mpr hb), hinactive, ← runBlock_inactive hm]
  exact runReply_withTaken .wrongState

/-! ## The pressure line (R108, R109) -/

/-- R108: the first of the four checks that fails answers. -/
theorem pressureOnEffect_refused (st : Status)
    (h : (s.run.state ≠ .stopped ∧ st = .wrongState) ∨
      (s.run.state = .stopped ∧ s.permit.filtered = .low ∧ st = .wrongState) ∨
      (s.run.state = .stopped ∧ s.permit.filtered = .high ∧ stopOrTripHeld s = true ∧ st = .faultsPresent) ∨
      (s.run.state = .stopped ∧ s.permit.filtered = .high ∧ stopOrTripHeld s = false ∧ s.run.unload = .inStopped ∧
        st = .busy)) : pressureOnEffect s = runReply st s := by
  unfold pressureOnEffect
  rcases h with ⟨hs, rfl⟩ | ⟨hs, hp, rfl⟩ | ⟨hs, hp, hf, rfl⟩ | ⟨hs, hp, hf, hu, rfl⟩
  · rw [if_pos hs]
  · rw [if_neg (not_not.2 hs), if_pos hp]
  · rw [if_neg (not_not.2 hs), if_neg (by rw [hp]; nofun), if_pos hf]
  · rw [if_neg (not_not.2 hs), if_neg (by rw [hp]; nofun), if_neg (by rw [hf]; nofun), if_pos hu]

/-- R108: all four checks passed. -/
theorem pressureOnEffect_passed (hs : s.run.state = .stopped) (hp : s.permit.filtered = .high)
    (hf : stopOrTripHeld s = false) (hu : s.run.unload ≠ .inStopped) :
    pressureOnEffect s = if s.run.pressure = .low then runReply .ok (pressureRise s) else runReply .ok s := by
  unfold pressureOnEffect
  rw [if_neg (not_not.2 hs), if_neg (by rw [hp]; nofun), if_neg (by rw [hf]; nofun), if_neg hu]

theorem exec_pressureOn (h : linkFree s = true) (ha : s.config.mode = .active) :
    exec (.pressureOn tag []) s = .next (pressureOnEffect (withTaken 0x45 tag s)) := by
  rw [exec, execPressureOn, onRequest_onRun (n := 0) h ha rfl (by omega)]

theorem exec_pressureOff (h : linkFree s = true) (ha : s.config.mode = .active) :
    exec (.pressureOff tag []) s = .next (pressureOffEffect (withTaken 0x46 tag s)) := by
  rw [exec, execPressureOff, onRequest_onRun (n := 0) h ha rfl (by omega)]

/-- Settles O38: the checks fail in the order of R108 (`pressureOnEffect_refused`) or all pass
(`pressureOnEffect_passed`). -/
theorem pressureRequestsMoveLine : Obligations.PressureRequestsMoveLine := by
  unfold Obligations.PressureRequestsMoveLine
  intro tag s h ha same block held passes
  have hon := exec_pressureOn (tag := tag) h ha
  have hoff := exec_pressureOff (tag := tag) h ha
  have hfree (hn : ¬ held) : stopOrTripHeld s = false := Bool.eq_false_iff.2 fun hf => hn (stopOrTripHeld_iff.1 hf)
  have hrefused {st : Status} (he : pressureOnEffect (withTaken 0x45 tag s) = runReply st (withTaken 0x45 tag s)) :
      same (.pressureOn tag []) 0x45 st := by
    rw [he, runReply_withTaken] at hon
    exact hon
  have hraised (hp : passes) : pressureOnEffect (withTaken 0x45 tag s) = if s.run.pressure = .low then
      runReply .ok (pressureRise (withTaken 0x45 tag s)) else runReply .ok (withTaken 0x45 tag s) := by
    obtain ⟨hstate, hpermit, hno, hunload⟩ := hp
    exact pressureOnEffect_passed (s := withTaken 0x45 tag s) hstate hpermit (hfree hno) hunload
  refine ⟨fun hs => ⟨hrefused (pressureOnEffect_refused _ (.inl ⟨hs, rfl⟩)), ?_⟩,
    fun hs hp => hrefused (pressureOnEffect_refused _ (.inr (.inl ⟨hs, hp, rfl⟩))),
    fun hs hp hf => hrefused (pressureOnEffect_refused _ (.inr (.inr (.inl ⟨hs, hp, stopOrTripHeld_iff.2 hf, rfl⟩)))),
    fun hs hp hf hu => hrefused (pressureOnEffect_refused _ (.inr (.inr (.inr ⟨hs, hp, hfree hf, hu, rfl⟩)))),
    fun hp hhigh => hrefused ((hraised hp).trans (if_neg (by rw [hhigh]; nofun))), fun hp hlow => ?_, fun hs hlow => ?_,
    fun hs hhigh => ?_⟩
  · refine hoff.trans ?_
    rw [pressureOffEffect, if_pos hs, runReply_withTaken]
  · have hblock : runBlock (pressureRise (withTaken 0x45 tag s)) =
        { state := .stopped, pause := pauseSet s, holdOut := s.run.holdOut, pressure := .high } := by
      rw [runBlock_active (s := pressureRise (withTaken 0x45 tag s)) ha, ← hp.1]
      rfl
    rw [hon, hraised hp, if_pos hlow, runReply_taken (s := s) rfl, hblock]
    rfl
  · refine hoff.trans ?_
    rw [pressureOffEffect, if_neg (not_not.2 hs), if_pos hlow, runReply_withTaken]
  · have hblock : runBlock { pressureFall (withTaken 0x46 tag s) with run.unload := .idle } =
        { state := .stopped, pause := pauseSet s, holdOut := s.run.holdOut, pressure := .low } := by
      rw [runBlock_active, ← hs]
      · rfl
      · exact ha
    rw [hoff, pressureOffEffect, if_neg (not_not.2 hs), if_neg (by rw [hhigh]; nofun), runReply_taken (s := s) rfl,
      hblock]
    rfl

/-! ## The hold-out set (R111, R112) -/

theorem holdOutAllowed_iff : holdOutAllowed s = true ↔
    s.run.state = .stopped ∨ s.run.state = .paused ∨ s.run.state = .holding := by
  cases hs : s.run.state <;> simp [holdOutAllowed, hs]

theorem exec_holdOut (b : Byte) (h : linkFree s = true) (ha : s.config.mode = .active) :
    exec (.holdOut tag [b]) s = .next (holdOutEffect b.toNat (withTaken 0x47 tag s)) := by
  rw [exec, execHoldOut, onRequest_onRun (n := 1) h ha rfl (by omega)]
  rfl

theorem exec_restore (b : Byte) (h : linkFree s = true) (ha : s.config.mode = .active) :
    exec (.restore tag [b]) s = .next (restoreEffect b.toNat (withTaken 0x48 tag s)) := by
  rw [exec, execRestore, onRequest_onRun (n := 1) h ha rfl (by omega)]
  rfl

theorem addHoldOut_eq (c : Nat) (s : State) : addHoldOut c s = if c ∈ s.run.holdOut then s else
    { s with
      run := { s.run with holdOut := insertNum c s.run.holdOut }
      monitors := tmap (fun _ m => if m.record.owner.toNat = c then { m with outside := 0, inside := 0 } else m)
        s.monitors } := by
  simp only [addHoldOut, List.contains_iff_mem]
  rfl

theorem dropHoldOut_eq (c : Nat) (s : State) : dropHoldOut c s = if c ∈ s.run.holdOut then
    { s with
      run := { s.run with holdOut := s.run.holdOut.filter (fun k => k ≠ c) }
      monitors := tmap (fun _ m => if m.record.owner.toNat = c then { m with outside := 0, inside := 0 } else m)
        s.monitors } else s := by
  simp only [dropHoldOut, List.contains_iff_mem]
  rfl

/-- R111: the checks that both requests make, in order. -/
theorem holdOut_restore_refused {c : Nat} (st : Status)
    (h : (15 < c ∧ st = .badValue) ∨ (c ≤ 15 ∧ holdOutAllowed s = false ∧ st = .wrongState) ∨
      (c ≤ 15 ∧ holdOutAllowed s = true ∧ enabled s c = false ∧ st = .badValue)) :
    holdOutEffect c s = runReply st s ∧ restoreEffect c s = runReply st s := by
  unfold holdOutEffect restoreEffect
  rcases h with ⟨hc, rfl⟩ | ⟨hc, hr, rfl⟩ | ⟨hc, hr, he, rfl⟩
  · rw [if_pos hc, if_pos hc]
    exact ⟨rfl, rfl⟩
  · rw [if_neg (Nat.not_lt.2 hc), if_neg (Nat.not_lt.2 hc), hr]
    exact ⟨rfl, rfl⟩
  · rw [if_neg (Nat.not_lt.2 hc), if_neg (Nat.not_lt.2 hc), hr, he]
    exact ⟨rfl, rfl⟩

/-- R111: the checks passed, and HOLD_OUT's last one, that the record permits it. -/
theorem holdOut_restore_passed {c : Nat} (hc : c ≤ 15) (hr : holdOutAllowed s = true) (he : enabled s c = true) :
    holdOutEffect c s = (if (channelRec s c).holdOutPermitted ≠ 1 then runReply .badValue s
      else runReply .ok (addHoldOut c s)) ∧ restoreEffect c s = runReply .ok (dropHoldOut c s) := by
  unfold holdOutEffect restoreEffect
  rw [if_neg (Nat.not_lt.2 hc), if_neg (Nat.not_lt.2 hc), hr, he]
  simp

/-- Settles O39: the requests differ after the checks that they share (`holdOut_restore_refused`), where HOLD_OUT asks
for the record's permission (`holdOut_restore_passed`). -/
theorem holdOutChangesSet : Obligations.HoldOutChangesSet := by
  unfold Obligations.HoldOutChangesSet
  intro tag b s h ha c body same changes rests
  have hblock : ReplyBody.run (runBlock s) = body s.run.holdOut := by rw [runBlock_active ha]
  have hsame {i : Instr} {kind : Byte} {st : Status}
      (he : exec i s = .next (runReply st (withTaken kind tag s))) : same i kind st := by
    rw [runReply_withTaken, hblock] at he
    exact he
  have hchanges {i : Instr} {kind : Byte} {held : List Nat} {m : Vector Monitor 32}
      (he : exec i s = .next (runReply .ok
        { withTaken kind tag s with run := { s.run with holdOut := held }, monitors := m })) :
      exec i s = .next { s with
        run := { s.run with holdOut := held }, monitors := m, link := answered s kind tag .ok (body held) } := by
    rw [he, runReply_taken (s := s) rfl, runBlock_active]
    · rfl
    · exact ha
  have hout := exec_holdOut (tag := tag) b h ha
  have hback := exec_restore (tag := tag) b h ha
  have hrefused (st : Status) (hcheck : (15 < c ∧ st = .badValue) ∨
      (c ≤ 15 ∧ holdOutAllowed s = false ∧ st = .wrongState) ∨
      (c ≤ 15 ∧ holdOutAllowed s = true ∧ enabled s c = false ∧ st = .badValue)) :
      same (.holdOut tag [b]) 0x47 st ∧ same (.restore tag [b]) 0x48 st := by
    obtain ⟨he, -⟩ := holdOut_restore_refused (s := withTaken 0x47 tag s) st hcheck
    obtain ⟨-, he'⟩ := holdOut_restore_refused (s := withTaken 0x48 tag s) st hcheck
    exact ⟨hsame (hout.trans (congrArg _ he)), hsame (hback.trans (congrArg _ he'))⟩
  have hdisabled (hen : (channelRec s c).enabled ≠ 1) : enabled s c = false := by
    rw [enabled, decide_eq_false hen, Bool.and_false]
  refine ⟨fun hc => hrefused _ (.inl ⟨hc, rfl⟩),
    fun hc hr => hrefused _ (.inr (.inl ⟨hc, Bool.eq_false_iff.2 (mt holdOutAllowed_iff.1 hr), rfl⟩)),
    fun hc hr hen => hrefused _ (.inr (.inr ⟨hc, holdOutAllowed_iff.2 hr, hdisabled hen, rfl⟩)), fun hc hr hen => ?_⟩
  have henabled : enabled s c = true := by rw [enabled, decide_eq_true (Nat.lt_succ_of_le hc), decide_eq_true hen]; rfl
  have hallowed := holdOutAllowed_iff.2 hr
  obtain ⟨hadds, -⟩ := holdOut_restore_passed (s := withTaken 0x47 tag s) hc hallowed henabled
  obtain ⟨-, hdrops⟩ := holdOut_restore_passed (s := withTaken 0x48 tag s) hc hallowed henabled
  rw [hadds, addHoldOut_eq] at hout
  rw [hdrops, dropHoldOut_eq] at hback
  constructor
  · split
    · next hp => exact hsame (hout.trans (congrArg _ (if_pos hp)))
    · next hp =>
      have hadded := hout.trans (congrArg Host.Outcome.next (if_neg hp))
      split
      · next hmem => exact hsame (hadded.trans (by rw [if_pos hmem]))
      · next hmem => exact hchanges (hadded.trans (by rw [if_neg hmem]))
  · split
    · next hmem => exact hchanges (hback.trans (by rw [if_pos hmem]))
    · next hmem => exact hsame (hback.trans (by rw [if_neg hmem]))

/-! ## The start of a run (R89, R90) -/

theorem exec_runStart (i : BitVec 16) (h : linkFree s = true) (ha : s.config.mode = .active) :
    exec (.runStart tag (le16 i)) s = .next (runStartEffect i.toNat (withTaken 0x40 tag s)) := by
  have hi : le16At (le16 i) 0 = i := le16_append i
  rw [exec, execRunStart, hi, onRequest_onRun (n := 2) h ha (by simp [le16]) (by omega)]

/-- R90: the first of the six checks that fails answers; an empty schedule has no index. -/
theorem runStartEffect_eq (i : Nat) (s : State) : runStartEffect i s =
    if s.run.state ≠ .stopped then runReply .wrongState s
    else if s.schedule.length ≤ i then runReply .badValue s
    else if stopOrTripHeld s then runReply .faultsPresent s
    else if s.run.pressure = .low then runReply .wrongState s
    else if s.run.grace = .counting ∨ s.run.unload = .inStopped then runReply .busy s
    else runReply .ok (startRun i s) := by
  have hempty (h : s.schedule.isEmpty = true) : s.schedule.length ≤ i := by simp [List.isEmpty_iff.1 h]
  unfold runStartEffect
  by_cases h : s.schedule.isEmpty = true
  · rw [if_pos h, if_pos (hempty h)]
  · rw [if_neg h]

/-- R90: the events of a request's work and its reply do not bear on each other. -/
theorem runReply_raiseEvent (k : EventKind) (a v : Nat) (hl : u.link = taken s kind tag .answered)
    (ha : u.config.mode = .active) : runReply .ok (raiseEvent k a v u) = raiseEvent k a v
      { u with link := answered s kind tag .ok (.run
        { state := u.run.state, pause := pauseSet u, holdOut := u.run.holdOut, pressure := u.run.pressure }) } := by
  have hlink : (raiseEvent k a v u).link = taken s kind tag .answered := by rw [raiseEvent_link, hl]
  have hblock : runBlock (raiseEvent k a v u) = runBlock u := by
    rw [runBlock, runBlock, isActive, isActive, pauseSet, pauseSet, raiseEvent_run, raiseEvent_config]
  rw [runReply_taken hlink, hblock, runBlock_active ha]
  unfold raiseEvent
  dsimp only
  split <;> rfl

/-- Settles O34: outside ACTIVE nothing is asked but the length; in ACTIVE the checks are R90's (`runStartEffect_eq`). -/
theorem runStartBeginsRun : Obligations.RunStartBeginsRun := by
  unfold Obligations.RunStartBeginsRun
  constructor
  · intro tag b i s h hm none reply
    have hreply (kind : Byte) {n : Nat} {body : List Byte} (f : State → State) (hb : body.length = n) (hn : n ≤ 1040) :
        onRequest kind tag body (onRun n body f) s = reply kind := onRequest_onRun_inactive h hm hb hn
    simp only [exec, execRunStart, execRunPause, execRunResume, execRunStop, execRunUnload, execPressureOn,
      execPressureOff, execHoldOut, execRestore]
    have hempty (kind : Byte) (f : State → State) := hreply kind (n := 0) (body := []) f rfl (by omega)
    have hone (kind : Byte) (f : State → State) := hreply kind (n := 1) (body := [b]) f rfl (by omega)
    have htwo (kind : Byte) (f : State → State) := hreply kind (n := 2) (body := le16 i) f (by simp [le16]) (by omega)
    rw [htwo, hempty, hempty, hempty, hempty, hempty, hempty, hone, hone]
    exact ⟨rfl, rfl, rfl, rfl, rfl, rfl, rfl, rfl, rfl⟩
  · intro tag i s h ha refused held waits
    have hstart := exec_runStart (tag := tag) i h ha
    rw [runStartEffect_eq] at hstart
    have hfaults : stopOrTripHeld (withTaken 0x40 tag s) = true ↔ held := stopOrTripHeld_iff (s := withTaken 0x40 tag s)
    have hrefused {st : Status} (he : exec (.runStart tag (le16 i)) s = .next (runReply st (withTaken 0x40 tag s))) :
        refused st := by
      rw [runReply_withTaken] at he
      exact he
    refine ⟨fun hs => hrefused (hstart.trans ?_), fun hs hi => hrefused (hstart.trans ?_),
      fun hs hi hf => hrefused (hstart.trans ?_), fun hs hi hf hp => hrefused (hstart.trans ?_),
      fun hs hi hf hp hw => hrefused (hstart.trans ?_), fun hs hi hf hp hw => hstart.trans ?_⟩
    · rw [if_pos hs]
    · rw [if_neg (not_not.2 hs), if_pos hi]
    · rw [if_neg (not_not.2 hs), if_neg (Nat.not_le.2 hi), if_pos (hfaults.2 hf)]
    · rw [if_neg (not_not.2 hs), if_neg (Nat.not_le.2 hi), if_neg (mt hfaults.1 hf), if_pos hp]
    · rw [if_neg (not_not.2 hs), if_neg (Nat.not_le.2 hi), if_neg (mt hfaults.1 hf), if_neg (by rw [hp]; nofun),
        if_pos hw]
    · rw [if_neg (not_not.2 hs), if_neg (Nat.not_le.2 hi), if_neg (mt hfaults.1 hf), if_neg (by rw [hp]; nofun),
        if_neg hw, startRun, runReply_raiseEvent (s := s)]
      · rw [← hp]
        rfl
      · rfl
      · exact ha

end Sys2Proof.Machine
end

section
/-! PROOF. RUN_PAUSE and RUN_RESUME (R93 to R95): O35. -/

namespace Sys2Proof.Machine

variable {s t u : State} {kind tag : Byte}

/-! ## A pause reason joins (R92, R93) -/

/-- R92: the state a run takes when a pause reason joins. -/
def pausedInto (s : State) : RunState :=
  if s.run.state = .running then
    (if s.sequencer.phase = .inEntry ∨ s.sequencer.joinPending = true then .pausing else .paused)
  else s.run.state

theorem inForce_iff : inForce s = true ↔ s.sequencer.phase = .inEntry ∨ s.sequencer.joinPending = true := by
  simp [inForce]

/-- R64, R92: a RUN that becomes PAUSED discards the frames carried for a successor. -/
theorem pauseJoined_eq (s : State) : pauseJoined s =
    { s with
      run := { s.run with state := pausedInto s }
      sequencer := { s.sequencer with
        carried := if s.run.state = .running ∧ pausedInto s = .paused then none else s.sequencer.carried } } := by
  unfold pauseJoined
  split
  · next hr =>
    split
    · next hf => simp [pausedInto, hr, inForce_iff.1 hf]
    · next hf =>
      have hj : s.sequencer.joinPending = false := Bool.eq_false_iff.2 fun h => hf (inForce_iff.2 (.inr h))
      have hp : s.sequencer.phase ≠ .inEntry := fun h => hf (inForce_iff.2 (.inl h))
      simp [pausedInto, hr, enterPaused, hj, hp]
  · next hr => simp [pausedInto, hr]

theorem pauseJoined_raiseEvent (k : EventKind) (a v : Nat) :
    pauseJoined (raiseEvent k a v s) = raiseEvent k a v (pauseJoined s) := by
  rw [pauseJoined_eq, pauseJoined_eq]
  unfold raiseEvent
  dsimp only
  split <;> rfl

theorem exec_runPause (h : linkFree s = true) (ha : s.config.mode = .active) :
    exec (.runPause tag []) s = .next (settle (runPauseEffect (withTaken 0x41 tag s))) := by
  rw [exec, execRunPause, onRequest_onRun (n := 0) h ha rfl (by omega)]

theorem runPauseEffect_eq (s : State) : runPauseEffect s =
    if s.run.state = .starting ∨ s.run.state = .running ∨ s.run.state = .pausing ∨ s.run.state = .paused then
      runReply .ok (joinHost s)
    else runReply .wrongState s := by
  unfold runPauseEffect
  split <;> next h => simp [h]

/-! ## HOST leaves (R94, R95) -/

theorem pauseEmptied_stays
    (h : s.run.host = true ∨ s.run.sources ≠ [] ∨ (s.run.state ≠ .pausing ∧ s.run.state ≠ .paused)) :
    pauseEmptied s = s := by
  unfold pauseEmptied
  split
  · next he =>
    have hempty : s.run.host = false ∧ s.run.sources = [] := by simpa [pauseEmpty] using he
    split
    · next hr => simp [hempty, hr] at h
    · next hr => simp [hempty, hr] at h
    · rfl
  · rfl

/-- R95: in a run with an entry in force nothing is to be started. -/
theorem proceed_inEntry (hj : s.sequencer.joinPending = false) (hp : s.sequencer.phase = .inEntry) : proceed s = s := by
  unfold proceed
  simp [hj, hp]

/-- R95: a PAUSING or PAUSED run with an entry in force goes on with it. -/
theorem pauseEmptied_inEntry (he : pauseEmpty s = true) (hr : s.run.state = .pausing ∨ s.run.state = .paused)
    (hj : s.sequencer.joinPending = false) (hp : s.sequencer.phase = .inEntry) :
    pauseEmptied s = callReads (raiseEvent .runResumed s.sequencer.cursor (if s.run.state = .pausing then 1 else 0)
      { s with run := { s.run with state := .running } }) := by
  have hgoes (v : Nat) : enterRunning (raiseEvent .runResumed s.sequencer.cursor v
      { s with run := { s.run with state := .running } }) =
      callReads (raiseEvent .runResumed s.sequencer.cursor v { s with run := { s.run with state := .running } }) := by
    have hset (w : State) (hw : w.run.state = .running) : { w with run := { w.run with state := .running } } = w := by
      rw [← hw]
    rw [enterRunning, hset _ (by rw [raiseEvent_run]), proceed_inEntry]
    · rw [callReads_eq]; simpa using hj
    · rw [callReads_eq]; simpa using hp
  unfold pauseEmptied
  rw [if_pos he]
  rcases hr with hr | hr <;> simp only [hr] <;> exact hgoes _

/-- Settles O35: RUN_PAUSE by `pauseJoined_eq`; RUN_RESUME leaves the run (`pauseEmptied_stays`) or lets its entry go on
(`pauseEmptied_inEntry`). -/
theorem pauseAndResumeFollowHost : Obligations.PauseAndResumeFollowHost := by
  unfold Obligations.PauseAndResumeFollowHost
  intro tag s h ha goes block same follows
  have hpause := exec_runPause (tag := tag) h ha
  have hresume := exec_runResume (tag := tag) h ha
  rw [runPauseEffect_eq] at hpause
  have hsame {c : Instr} {kind : Byte} {st : Status}
      (he : exec c s = .next (settle (runReply st (withTaken kind tag s)))) : same c kind st := by
    rw [runReply_withTaken] at he
    exact he
  refine ⟨fun hg hh => hsame (hpause.trans ?_), fun hg hh => hpause.trans ?_, fun hg => hsame (hpause.trans ?_),
    fun hh => hsame (hresume.trans ?_), fun hh hstays => hresume.trans ?_, fun hh hs hr hp hj => ?_⟩
  · rw [if_pos hg, joinHost, if_pos hh]
  · have hjoin : joinHost (withTaken 0x41 tag s) = raiseEvent .runPaused s.sequencer.cursor 0
        (pauseJoined { withTaken 0x41 tag s with run := { s.run with host := true } }) := by
      rw [joinHost, if_neg (by rw [hh]; nofun)]
      exact pauseJoined_raiseEvent _ _ _
    rw [if_pos hg, hjoin, pauseJoined_eq, runReply_raiseEvent (s := s)]
    · rfl
    · rfl
    · exact ha
  · rw [if_neg hg]
  · rw [leaveHost, if_neg (by rw [hh]; nofun)]
  · rw [leaveHost, if_pos hh, pauseEmptied_stays (by exact .inr hstays), runReply_taken (s := s) rfl, runBlock_active]
    · rfl
    · exact ha
  · have hleft := pauseEmptied_inEntry (s := { withTaken 0x42 tag s with run := { s.run with host := false } })
      (by simp [pauseEmpty, hs]) hr hj hp
    rw [leaveHost, if_pos hh, hleft] at hresume
    obtain ⟨x, hx⟩ : ∃ x, callReads (raiseEvent .runResumed s.sequencer.cursor (if s.run.state = .pausing then 1 else 0)
      { withTaken 0x42 tag s with run := { s.run with host := false, state := .running } }) = x := ⟨_, rfl⟩
    have hframe := hx.symm.trans (by rw [callReads_eq, hx, raiseEvent_eq])
    have hlink : x.link = taken s 0x42 tag .answered := by rw [hframe]
    have hrun : x.run = { s.run with host := false, state := .running } := by rw [hframe]
    have hblock : runBlock x =
        { state := .running, pause := [], holdOut := s.run.holdOut, pressure := s.run.pressure } := by
      rw [runBlock_active (by rw [hframe]; exact ha), pauseSet, hrun]
      simp [hs]
    refine ⟨_, hresume.trans (by rw [hx, runReply_taken hlink, hblock]), ?_, ?_, ?_, ?_, ?_⟩
    case refine_1 => rw [settle_run]; exact hrun
    case refine_2 => rw [settle_pipeline, hframe]
    case refine_3 => rw [settle_sequencer]; exact congrArg State.sequencer hframe
    case refine_4 =>
      rw [settle_events, hframe]
      exact raiseEvent_events_congr _ _ _ rfl rfl
    case refine_5 => rw [settle_link]

end Sys2Proof.Machine
end

section
/-! PROOF. The play in progress that a stop aborts (R36, R37, R86, R103, R153, R160): O37. -/

namespace Sys2Proof.Machine

variable {s t u : State} {kind tag : Byte}

/-! ## The end of an aborted play, block by block -/

section Aborted
variable {p : PlayParams} {o : OpenSummary} {r : CaptureRecord} {i : Nat} (j : Bool)
  (hl : s.sequencer.lookahead = none) (hp : s.pipeline.params = some (.play p))
include hl hp

/-- R160, R161: the summary of the play closes with the counts that the pipeline hands over, and is the last queued. -/
theorem endPlay_closesSummary (a : Bool) (ho : s.summaries.opened = some o) :
    (endPlay a j s).summaries.opened = none ∧
      (endPlay a j s).summaries.queue.getLast? = some (closedSummary a j o s) := by
  have honly := (judgesOnly_endSegPlay (s := withdrawReads .play s) (id := p.seg) hl).2
  have hopened : (endSegPlay p.seg (withdrawReads .play s)).summaries.opened = some o := by rw [honly]; exact ho
  have hclosed : closedSummary a j o (endSegPlay p.seg (withdrawReads .play s)) = closedSummary a j o s := by
    rw [honly]
    rfl
  rw [endPlay_summaries a j hp, closeSummary_opened a j hopened, hclosed]
  refine ⟨?_, queueSummary_last _ _⟩
  rw [queueSummary, raiseEvent_summaries]
  split <;> rfl

/-- R153: the FILLING record of the play is COMPLETE, ended early, whatever of its last frame is still being written. -/
theorem endPlay_closesRecord (hc : s.capture.current = some i) (hi : i < 32) (hr : slot s i = some r)
    (hfill : r.state = .filling) :
    slot (endPlay true j s) i = some { r with state := .complete, endedEarly := true } ∧
      (endPlay true j s).capture.current = none ∧ (endPlay true j s).capture.closing = false := by
  have hcapture : (withoutPlay (summarized p true j s)).capture = s.capture := by
    have honly := (judgesOnly_endSegPlay (s := withdrawReads .play s) (id := p.seg) hl).2
    simp only [withoutPlay, summarized]
    rw [closeSummary_eq, honly]
    rfl
  have hslot : slot (withoutPlay (summarized p true j s)) i = some r := by rw [slot, hcapture]; exact hr
  have hclosed : closedRecord true r = { r with state := .complete, endedEarly := true } := by
    simp only [closedRecord, hfill]
  rw [endPlay_play true j hp, closeCapture, Bool.true_or, if_pos rfl, closeRecord]
  simp only [hcapture, hc, hslot, hclosed]
  exact ⟨by rw [slot_setSlot _ hi, if_pos rfl], rfl, rfl⟩

end Aborted

theorem endedDescriptor_repl {d : Descriptor} {rep : Replacement} (h : d.repl = some rep) : endedDescriptor d =
    if rep.state = .ready then { state := .ready, data := rep.data, doubleErrors := 0, inPlay := false, repl := none }
    else { d with inPlay := false } := by
  by_cases hr : rep.state = .ready <;> simp [endedDescriptor, waitingData, h, hr]

theorem endedDescriptor_plain {d : Descriptor} (h : d.repl = none) : endedDescriptor d = { d with inPlay := false } := by
  simp [endedDescriptor, waitingData, h]

/-- R38: the state in which the swap, if one is made, has been reported. -/
theorem endedEvents_repl {id : Nat} {rep : Replacement} (h : (descriptor s id).repl = some rep) : endedEvents id s =
    (if rep.state = .ready then raiseEvent .replacementApplied id rep.data.frames s else s).events := by
  by_cases hr : rep.state = .ready <;> simp [endedEvents, waitingData, h, hr]

theorem endedEvents_plain {id : Nat} (h : (descriptor s id).repl = none) : endedEvents id s = s.events := by
  simp [endedEvents, waitingData, h]

theorem endedEvents_congr {id : Nat} (hd : descriptor t id = descriptor s id) (he : t.events = s.events)
    (hc : t.timebase.counter = s.timebase.counter) : endedEvents id t = endedEvents id s := by
  unfold endedEvents
  rw [hd]
  split
  · exact raiseEvent_events_congr _ _ _ he hc
  · exact he

/-! ## The stop -/

/-- R99, R103: the run stopped, its lookahead dropped, its play still to be ended. -/
def stopping (state : RunState) (s : State) : State := voidLookahead { s with run := { s.run with state := state } }

/-- R103: where neither a joined successor nor a missing segment waits, a stop does to segments, summaries, captures,
events and channels what the aborted end of the play does. -/
theorem stopInto_endsPlay (state : RunState) (hj : s.sequencer.joinPending = false)
    (hm : (source s 35).active = false) :
    stopInto state s = beginStopTaper (sequencerIdle { endPlay true false (stopping state s) with
      pipeline := { (endPlay true false (stopping state s)).pipeline with params := none } }) := by
  obtain ⟨hframe, -⟩ := aborted_abortEntry { s with run := { s.run with state := state } }
  have hnone : joinedSeg (stopping state s) = none := by
    simp only [joinedSeg, show (stopping state s).sequencer.joinPending = false from hj]
    rfl
  have hwait : endWait (abortEntry { s with run := { s.run with state := state } }) =
      abortEntry { s with run := { s.run with state := state } } := by
    rw [endWait, if_neg]
    rw [source, hframe]
    exact Bool.not_eq_true _ ▸ hm
  have hvoid : voidLookahead { s with run := { s.run with state := state } } = stopping state s := rfl
  rw [stopInto, hwait, abortEntry, hvoid, endJoinWait_none hnone]

/-- Settles O37: the stop is the aborted end of the play (`stopInto_endsPlay`): the segment's play ends first, then its
summary closes (`endPlay_closesSummary`), then its record (`endPlay_closesRecord`). -/
theorem stopAbortsPlayInOrder : Obligations.StopAbortsPlayInOrder := by
  unfold Obligations.StopAbortsPlayInOrder
  intro tag p o i r s h ha hstate hp hseg ho _ hc hi hr hfill hm hj
  obtain ⟨x, hx⟩ : ∃ x, stopInto .parking (withTaken 0x43 tag s) = x := ⟨_, rfl⟩
  obtain ⟨v, hv⟩ : ∃ v, stopping .parking (withTaken 0x43 tag s) = v := ⟨_, rfl⟩
  have hends := stopInto_endsPlay (s := withTaken 0x43 tag s) .parking hj hm
  have hexec : exec (.runStop tag []) s = .next (settle (runReply .ok x)) := by
    have hgoes : (withTaken 0x43 tag s).run.state ∈
        [RunState.starting, .running, .pausing, .paused, .holding] := by
      rcases hstate with e | e | e <;> rw [e] <;> decide
    rw [exec_runStop h ha, runStopEffect_eq, if_pos hgoes, hx]
  have hlv : v.sequencer.lookahead = none := by rw [← hv]; rfl
  have hpv : v.pipeline.params = some (.play p) := by rw [← hv]; exact hp
  have hov : v.summaries.opened = some o := by rw [← hv]; exact ho
  rw [hx, hv] at hends
  have hdesc := descriptor_endPlay true false hlv hpv hseg
  obtain ⟨hopened, hlast⟩ := endPlay_closesSummary false hlv hpv true hov
  have hrecord := endPlay_closesRecord (i := i) (r := r) false hlv hpv (by rw [← hv]; exact hc) hi
    (by rw [← hv]; exact hr) hfill
  have hevents := endPlay_events true false hlv hpv hov
  have hpipe := endPlay_pipeline true false hlv hpv
  obtain ⟨y, hy⟩ : ∃ y, endPlay true false v = y := ⟨_, rfl⟩
  rw [hy] at hends hdesc hopened hlast hrecord hevents hpipe
  obtain ⟨hslot, hcurrent, hclosing⟩ := hrecord
  have hcapture : (settle (runReply .ok x)).capture = y.capture := by
    rw [settle_capture, runReply, answer_capture, hends]; rfl
  have hsummaries : (settle (runReply .ok x)).summaries = y.summaries := by
    rw [settle_summaries, runReply, answer_summaries, hends]; rfl
  have hchannels : (settle (runReply .ok x)).pipeline.channels = (zeroCounts s).pipeline.channels := by
    rw [settle_pipeline, runReply, answer_pipeline, hends, beginStopTaper, sequencerIdle, hpipe, ← hv]
    rfl
  have hdescriptor : descriptor (settle (runReply .ok x)) p.seg = endedDescriptor (descriptor s p.seg) := by
    rw [descriptor, settle_segments, runReply, answer_segments, hends, ← hv] at *
    exact hdesc
  have hqueued : (settle (runReply .ok x)).events =
      (raiseEvent .summaryQueued o.entry o.ordinal.toNat { s with events := endedEvents p.seg s }).events := by
    rw [settle_events, runReply, answer_events, hends]
    exact hevents.trans (by rw [← hv]; exact raiseEvent_events_congr _ _ _ (endedEvents_congr rfl rfl rfl) rfl)
  have hhanded (c : Nat) : handedCounts v o c = handedCounts s o c := by rw [← hv]; rfl
  refine ⟨_, closedSummary true false o v, hexec, ?_, by rw [hsummaries]; exact hopened, by rw [hsummaries]; exact hlast,
    rfl, rfl, rfl, rfl, rfl, rfl, rfl, by rw [← hv]; rfl, rfl, fun c hc => ?_, fun c hc => ?_,
    by rw [slot, hcapture]; exact hslot, by rw [hcapture]; exact hcurrent, by rw [hcapture]; exact hclosing, ?_⟩
  case refine_1 =>
    rw [hdescriptor]
    split
    · next rep hrep => exact endedDescriptor_repl hrep
    · next hrep => exact endedDescriptor_plain hrep
  case refine_2 =>
    rw [closedSummary, tget_tmk _ hc, hhanded, handedCounts]
    split <;> rfl
  case refine_3 =>
    rw [hchannels, channel_zeroCounts hc]
    exact ⟨rfl, rfl⟩
  case refine_4 =>
    refine hqueued.trans (raiseEvent_events_congr _ _ _ ?_ ?_)
    · split
      · next rep hrep => exact endedEvents_repl hrep
      · next hrep => exact endedEvents_plain hrep
    · split
      · split
        · rw [raiseEvent_timebase]
        · rfl
      · rfl

end Sys2Proof.Machine
end

section
/-! PROOF. What the timers and a quiet boundary's report do to the run and to the drive position (R71, R91, R96, R101,
R102, R105, R110): O40. -/

namespace Sys2Proof.Machine

variable {s t u x : State}

/-! ## Frames of no entry (R69, R71) -/

/-- R69: the frame kinds that no entry gives. -/
def restFrame (k : FrameKind) : Prop := k = .held ∨ k = .mean ∨ k = .stopTaper ∨ k = .park

theorem restFrame_frameKind (h : s.pipeline.params = none ∨ (s.run.state ≠ .running ∧ s.run.state ≠ .pausing)) :
    restFrame (frameKind s) := by
  unfold restFrame
  cases hr : s.run.state with
  | stopped | frozen | starting | paused | holding => simp [frameKind, hr]
  | parking | unloading => cases hstop : s.pipeline.stopTaper <;> simp [frameKind, hr, hstop]
  | running | pausing =>
    have hp : s.pipeline.params = none := h.resolve_right (by simp [hr])
    simp [frameKind, hr, hp]

/-- R71: such a frame is reported to the run controller only. -/
theorem quietBoundary_rest (h : restFrame (frameKind s)) : quietBoundary s =
    boundaryLeft (reportRun (frameKind s) s.run.state (frameTaper (frameKind s) s) (formed s)) := by
  have hframed : framed s = formed s := framed_idle (by rcases h with e | e | e | e <;> rw [e] <;> rfl)
  have hseq : reportSequencer (frameKind s) (formed s) = formed s := by
    rcases h with e | e | e | e <;> rw [e] <;> rfl
  rw [quietBoundary, hframed, hseq]

/-- R71: a boundary leaves all but the arbiter, the sweep and the fetched samples as the reports left them. -/
theorem boundaryLeft_parts (x : State) : (boundaryLeft x).run = x.run ∧ (boundaryLeft x).events = x.events ∧
    (boundaryLeft x).pipeline = x.pipeline ∧ (boundaryLeft x).schedule = x.schedule ∧
    (boundaryLeft x).segments = x.segments ∧
    (boundaryLeft x).sequencer = { x.sequencer with fetch := (boundaryLeft x).sequencer.fetch } := by
  refine ⟨?_, ?_, ?_, ?_, ?_, ?_⟩ <;> rw [boundaryLeft_frame]

theorem boundaryLeft_fetch (x : State) : (boundaryLeft x).sequencer.fetch = (callReads x).sequencer.fetch := by
  rw [boundaryLeft, settle_sequencer]

/-- R55: no reads are called in a run that is neither RUNNING nor PAUSING. -/
theorem callReads_still (h : s.run.state ≠ .running ∧ s.run.state ≠ .pausing) : callReads s = s := by
  unfold callReads
  split
  · rw [if_neg fun hin => hin.1.elim h.1 h.2]
  · rfl

/-! ## Arrival (R91, R101, R102) -/

theorem allAt_iff (f : ChannelRec → Sample) (s : State) : allAt f s = true ↔ ∀ c, c < 16 → (channelRec s c).enabled = 1 →
    (tget s.pipeline.channels c).previous = some (f (channelRec s c)).toInt := by
  simp only [allAt, enabledChannels, List.all_eq_true, List.mem_filter, List.mem_range, enabled, Bool.and_eq_true,
    decide_eq_true_eq, beq_iff_eq]
  exact ⟨fun h c hc he => h c ⟨hc, hc, he⟩, fun h c hc => h c hc.1 hc.2.2⟩

theorem allAt_formed (f : ChannelRec → Sample) (s : State) : allAt f (formed s) = true ↔
    ∀ c, c < 16 → (channelRec s c).enabled = 1 →
      (tget (formFrame s).pipeline.channels c).previous = some (f (channelRec s c)).toInt := by
  have hrec (c : Nat) : channelRec (formed s) c = channelRec s c := by rw [channelRec, formed_frame]; rfl
  have hpipeline : (formed s).pipeline = (formFrame s).pipeline := by rw [formed_frame]
  rw [allAt_iff]
  simp only [hrec, hpipeline]

theorem frameKind_park (h : s.run.state = .parking ∨ s.run.state = .unloading) :
    frameKind s = .park ↔ s.pipeline.stopTaper = false := by
  rcases h with e | e <;> simp only [frameKind, e] <;> cases s.pipeline.stopTaper <;> simp

/-- R101, R102: what an arrival at the park values can change. -/
theorem parkArrival_frame (s : State) : parkArrival s =
    { s with run := (parkArrival s).run, monitors := (parkArrival s).monitors, events := (parkArrival s).events } := by
  unfold parkArrival
  split
  · rw [raiseEvent_eq]; rfl
  · split
    · split
      · split
        · rw [endUnloadDelay, raiseEvent_eq]; rfl
        · rfl
      · rw [raiseEvent_eq]; rfl
    · rfl
  · rfl

theorem reportRun_park {was : RunState} (h : was = .parking ∨ was = .unloading) (k : FrameKind) (i : Nat) (x : State) :
    reportRun k was i x = if k = .park ∧ allAt ChannelRec.park x then parkArrival x else x := by
  rcases h with e | e <;> rw [e] <;> rfl

/-- R101: a run that parks stops at its arrival. -/
theorem parkArrival_parking (h : s.run.state = .parking) : parkArrival s =
    raiseEvent .runStopped s.sequencer.cursor 0 (enterStopped s) := by
  unfold parkArrival
  rw [h]

/-- R102: an unloading run at its arrival: without pressure it stops; with it the delay begins, or is over at once. -/
theorem parkArrival_unloading (h : s.run.state = .unloading) (hu : s.run.unload = .idle) : parkArrival s =
    if s.run.pressure = .high then
      if (general s).unloadMs = 0 then endUnloadDelay s else { s with run := { s.run with unload := .inUnloading } }
    else raiseEvent .unloadDone s.sequencer.cursor 1 (enterStopped s) := by
  unfold parkArrival
  simp only [h, hu, if_true]

/-! ## The four parts of O40 -/

/-- R105, R110: the timers. -/
theorem timers_expire (s : State) :
    exec .readyGraceExpiry s =
      .next (if s.run.grace = .counting then { s with run := { s.run with grace := .elapsed } } else s) ∧
    exec .unloadDelayExpiry s = .next (if s.run.unload = .inUnloading then endUnloadDelay s else s) ∧
    exec .stoppedUnloadDelayExpiry s = .next (if s.run.unload = .inStopped then endStoppedDelay s else s) := by
  simp only [exec, execReadyGraceExpiry, execUnloadDelayExpiry, execStoppedUnloadDelayExpiry]
  refine ⟨?_, ?_, ?_⟩ <;> split <;> rfl

/-- R91: what STARTING's frame comes to. -/
theorem reportRun_starting (h : x.run.state = .starting) (k : FrameKind) (i : Nat) : reportRun k .starting i x =
    if allAt ChannelRec.mean x then (if pauseEmpty x then enterRunning x else enterPaused x) else x := by
  simp [reportRun, h]

theorem pauseEmpty_iff : pauseEmpty s = true ↔ pauseSet s = [] := by
  cases hh : s.run.host <;> simp [pauseEmpty, pauseSet, hh]

/-- R54, R91: a run that starts at a DWELL. -/
theorem enterRunning_dwell {d : Nat} (hp : s.sequencer.phase = .awaiting) (hj : s.sequencer.joinPending = false)
    (hc : s.capture.closing = false) (he : s.schedule[s.sequencer.cursor]? = some (.dwell d)) :
    enterRunning s = beginDwell s.sequencer.cursor d { s with run := { s.run with state := .running } } := by
  have hreads : callReads { s with run := { s.run with state := .running } } =
      { s with run := { s.run with state := .running } } := callReads_not_inEntry (by rw [hp]; nofun)
  have hgoes := proceed_awaiting (s := { s with run := { s.run with state := .running } }) hc hj rfl hp
  rw [enterRunning, hreads, hgoes]
  exact advance_dwell he

section Arrivals
variable (hp : s.pipeline.params = none)
include hp

theorem quietBoundary_noEntry : quietBoundary s =
    boundaryLeft (reportRun (frameKind s) s.run.state (frameTaper (frameKind s) s) (formed s)) :=
  quietBoundary_rest (restFrame_frameKind (.inl hp))

/-- R91: a boundary in STARTING. -/
theorem quietBoundary_starting (hr : s.run.state = .starting) : quietBoundary s = boundaryLeft
    (if allAt ChannelRec.mean (formed s) then
      (if pauseEmpty (formed s) then enterRunning (formed s) else enterPaused (formed s)) else formed s) := by
  rw [quietBoundary_noEntry hp, hr, reportRun_starting (by rw [formed_frame]; exact hr)]

/-- R101, R102: a boundary in PARKING or UNLOADING. -/
theorem quietBoundary_parking (hr : s.run.state = .parking ∨ s.run.state = .unloading) :
    quietBoundary s = boundaryLeft
      (if s.pipeline.stopTaper = false ∧ allAt ChannelRec.park (formed s) then parkArrival (formed s) else formed s) := by
  rw [quietBoundary_noEntry hp, reportRun_park hr]
  simp only [frameKind_park hr]

end Arrivals

/-! ## The drive position (R71, R82, R85) -/

/-- R71: what a frame leaves of the schedule, the segments, the sequencer and the run before they have its report. -/
theorem framed_parts (s : State) : (framed s).run = s.run ∧ (framed s).pipeline = (formFrame s).pipeline ∧
    (framed s).schedule = s.schedule ∧ (framed s).segments = s.segments ∧ (framed s).sequencer = s.sequencer := by
  refine ⟨?_, ?_, ?_, ?_, ?_⟩ <;> rw [framed, reportEvidence_eq, formed_frame]

section InForce
variable (hr : s.run.state = .running ∨ s.run.state = .pausing)
include hr

/-- R71, R96: a frame after which its entry goes on raises the drive position, and ends PAUSING where the counter is 0.
The reads are then called of a state `y` that has the run, the pipeline and the position so left. -/
theorem quietBoundary_goesOn {k : FrameKind} (hk : frameKind s = k)
    (hgoes : reportSequencer k (framed s) = { framed s with
      sequencer := { (framed s).sequencer with position := s.sequencer.position + 1 } }) :
    ((quietBoundary s).sequencer = { s.sequencer with
        position := s.sequencer.position + 1, fetch := (quietBoundary s).sequencer.fetch
        carried := (quietBoundary s).sequencer.carried } ∧
      (quietBoundary s).pipeline = (formFrame s).pipeline ∧ (quietBoundary s).schedule = s.schedule ∧
      (quietBoundary s).segments = s.segments) ∧
    (quietBoundary s).events = (framed s).events ∧
    (quietBoundary s).run = { s.run with
      state := if s.run.state = .pausing ∧ frameTaper k s = 0 then .paused else s.run.state } ∧
    ∃ y, (quietBoundary s).sequencer.fetch = (callReads y).sequencer.fetch ∧ y.run = (quietBoundary s).run ∧
      y.pipeline = (formFrame s).pipeline ∧
      y.sequencer = { s.sequencer with position := s.sequencer.position + 1, carried := y.sequencer.carried } := by
  subst hk
  obtain ⟨hstate, hpipeline, hschedule, hsegments, hsequencer⟩ := framed_parts s
  obtain ⟨z, hz⟩ : ∃ z, reportSequencer (frameKind s) (framed s) = z := ⟨_, rfl⟩
  have hzrun : z.run = s.run := by rw [← hz, hgoes]; exact hstate
  have hrun := reportRun_run (x := z) (frameKind s) (frameTaper (frameKind s) s) (by rw [hzrun]; exact hr)
  have hframe := reportRun_frame (frameKind s) (frameTaper (frameKind s) s) z hr
  rw [hzrun] at hrun
  obtain ⟨y, hy⟩ : ∃ y, reportRun (frameKind s) s.run.state (frameTaper (frameKind s) s) z = y := ⟨_, rfl⟩
  rw [hy] at hrun hframe
  have hleft : quietBoundary s = boundaryLeft y := by rw [quietBoundary, hz, hy]
  obtain ⟨hrunLeft, hevents, hpipe, hsched, hsegs, hseq⟩ := boundaryLeft_parts y
  have hypipe : y.pipeline = (formFrame s).pipeline := by rw [hframe, ← hz, hgoes]; exact hpipeline
  have hyseq : y.sequencer =
      { s.sequencer with position := s.sequencer.position + 1, carried := y.sequencer.carried } := by
    rw [hframe, ← hz, hgoes, hsequencer]
  rw [hleft]
  refine ⟨⟨?_, hpipe.trans hypipe, hsched.trans ?_, hsegs.trans ?_⟩, hevents.trans ?_, hrunLeft.trans hrun, y,
    boundaryLeft_fetch y, hrunLeft.symm, hypipe, hyseq⟩
  · rw [hseq, hyseq]
  · rw [hframe, ← hz, hgoes]; exact hschedule
  · rw [hframe, ← hz, hgoes]; exact hsegments
  · rw [hframe, ← hz, hgoes]

end InForce

/-- R55: the words that a play in force calls for its next frame, and the samples it keeps. -/
theorem callReads_play {p : PlayParams} (hr : s.run.state = .running ∨ s.run.state = .pausing)
    (hp : s.pipeline.params = some (.play p)) (hphase : s.sequencer.phase = .inEntry)
    (hpos : s.sequencer.position < p.length) : (callReads s).sequencer.fetch =
      { s.sequencer.fetch with
        dueWord := max s.sequencer.fetch.dueWord (dueFor p (p.first + s.sequencer.position / p.ratio))
        samples := s.sequencer.fetch.samples.filter
          (fun x => (p.first + s.sequencer.position / p.ratio - 1) * maskCount p.channels ≤ x.1) } := by
  unfold callReads
  rw [hp]
  simp only
  rw [if_pos ⟨hr, hphase, hpos⟩]

/-- R55: a sample that is kept is found as before. -/
theorem fetchedSample_kept (samples : List (Nat × Sample)) {lo x : Nat} (h : lo ≤ x) :
    fetchedSample (samples.filter (fun y => lo ≤ y.1)) x = fetchedSample samples x := by
  have hfind : (samples.filter (fun y => lo ≤ y.1)).find? (fun y => y.1 == x) = samples.find? (fun y => y.1 == x) := by
    rw [List.find?_filter]
    refine congrArg (fun f => samples.find? f) (funext fun y => ?_)
    by_cases hy : y.1 = x <;> simp [hy, h]
  rw [fetchedSample, hfind, fetchedSample]

/-- R68, R116, R197: what the frame, its sending and a latched snapshot leave of the state. -/
theorem formed_parts (s : State) : (formed s).run = s.run ∧ (formed s).sequencer = s.sequencer ∧
    (formed s).schedule = s.schedule ∧ (formed s).capture = s.capture ∧ (formed s).config = s.config ∧
    (formed s).events = s.events ∧ (formed s).timebase.counter = s.timebase.counter + 1 ∧
    (formed s).pipeline = (formFrame s).pipeline := by
  refine ⟨?_, ?_, ?_, ?_, ?_, ?_, ?_, ?_⟩ <;> rw [formed_frame]
  rfl

/-- R91: what a quiet boundary does to a STARTING run. -/
theorem starting_moves (hp : s.pipeline.params = none) (hr : s.run.state = .starting) :
    (allAt ChannelRec.mean (formed s) = false → (quietBoundary s).run = s.run) ∧
    (allAt ChannelRec.mean (formed s) = true → pauseSet s ≠ [] →
      (quietBoundary s).run = { s.run with state := .paused } ∧
        (quietBoundary s).sequencer.phase = s.sequencer.phase) ∧
    ∀ d, allAt ChannelRec.mean (formed s) = true → pauseSet s = [] → s.sequencer.phase = .awaiting →
      s.sequencer.joinPending = false → s.capture.closing = false →
      s.schedule[s.sequencer.cursor]? = some (.dwell d) →
      (quietBoundary s).run = { s.run with state := .running } ∧ (quietBoundary s).sequencer.phase = .inEntry ∧
        (quietBoundary s).sequencer.position = 0 ∧ (quietBoundary s).pipeline.params = some (.dwell d) := by
  obtain ⟨hrun, hseq, hsched, hcapture, -, -, -, -⟩ := formed_parts s
  have hempty : pauseEmpty (formed s) = true ↔ pauseSet s = [] := by
    rw [pauseEmpty_iff, pauseSet, hrun, pauseSet]
  rw [quietBoundary_starting hp hr]
  refine ⟨fun hno => ?_, fun hyes hpause => ?_, fun d hyes hpause hphase hj hc he => ?_⟩
  · rw [if_neg (by rw [hno]; nofun)]
    exact (boundaryLeft_parts _).1.trans hrun
  · rw [if_pos hyes, if_neg (mt hempty.1 hpause)]
    obtain ⟨hleft, -, -, -, -, hseqLeft⟩ := boundaryLeft_parts (enterPaused (formed s))
    rw [hleft, hseqLeft, enterPaused, hrun, hseq]
    exact ⟨rfl, rfl⟩
  · rw [if_pos hyes, if_pos (hempty.2 hpause),
      enterRunning_dwell (d := d) (by rw [hseq]; exact hphase) (by rw [hseq]; exact hj) (by rw [hcapture]; exact hc)
        (by rw [hseq, hsched]; exact he)]
    obtain ⟨hleft, -, hpipe, -, -, hseqLeft⟩ := boundaryLeft_parts (beginDwell (formed s).sequencer.cursor d
      { formed s with run := { (formed s).run with state := .running } })
    rw [hleft, hseqLeft, hpipe]
    exact ⟨congrArg (fun r : RunControl => { r with state := .running }) hrun, rfl, rfl, rfl⟩

/-- R101, R102: what a quiet boundary does to a run that parks or unloads. -/
theorem parking_moves (hp : s.pipeline.params = none) (hr : s.run.state = .parking ∨ s.run.state = .unloading) :
    (¬ (s.pipeline.stopTaper = false ∧ allAt ChannelRec.park (formed s) = true) → (quietBoundary s).run = s.run) ∧
    (s.pipeline.stopTaper = false ∧ allAt ChannelRec.park (formed s) = true →
      (quietBoundary s).run = (parkArrival (formed s)).run ∧
        (quietBoundary s).events = (parkArrival (formed s)).events) := by
  obtain ⟨hrun, -⟩ := formed_parts s
  rw [quietBoundary_parking hp hr]
  refine ⟨fun hno => ?_, fun hyes => ?_⟩
  · rw [if_neg hno]
    exact (boundaryLeft_parts _).1.trans hrun
  · rw [if_pos hyes]
    obtain ⟨hleft, hevents, -⟩ := boundaryLeft_parts (parkArrival (formed s))
    exact ⟨hleft, hevents⟩

/-- R71: reports of other run states than these leave the run alone. -/
theorem reportRun_rests (k : FrameKind) {was : RunState} (i : Nat) (x : State)
    (h : was ∈ [.stopped, .paused, .holding, .frozen]) : reportRun k was i x = x := by
  simp only [List.mem_cons, List.not_mem_nil, or_false] at h
  rcases h with rfl | rfl | rfl | rfl <;> rfl

theorem parkArrival_state (s : State) :
    (parkArrival s).run.state = s.run.state ∨ (parkArrival s).run.state = .stopped := by
  unfold parkArrival
  split
  · exact .inr (by rw [raiseEvent_run]; rfl)
  · split
    · split
      · split
        · exact .inr (by rw [endUnloadDelay, raiseEvent_run]; rfl)
        · exact .inl rfl
      · exact .inr (by rw [raiseEvent_run]; rfl)
    · exact .inl rfl
  · exact .inl rfl

/-- R71, R101, R102: a report on a frame of a run with no entry going on. -/
theorem reportRun_still (k : FrameKind) (i : Nat) (x : State)
    (h : x.run.state ∈ [.stopped, .paused, .holding, .parking, .unloading, .frozen]) :
    (reportRun k x.run.state i x).sequencer = x.sequencer ∧ (reportRun k x.run.state i x).pipeline = x.pipeline ∧
      (reportRun k x.run.state i x).schedule = x.schedule ∧
      (reportRun k x.run.state i x).run.state ∈ [.stopped, .paused, .holding, .parking, .unloading, .frozen] := by
  by_cases hpark : x.run.state = .parking ∨ x.run.state = .unloading
  · rw [reportRun_park hpark]
    split
    · refine ⟨by rw [parkArrival_frame], by rw [parkArrival_frame], by rw [parkArrival_frame], ?_⟩
      rcases parkArrival_state x with e | e <;> rw [e]
      · exact h
      · decide
    · exact ⟨rfl, rfl, rfl, h⟩
  · have hrests : x.run.state ∈ [RunState.stopped, .paused, .holding, .frozen] := by
      simp only [List.mem_cons, List.not_mem_nil, or_false] at h ⊢
      grind
    rw [reportRun_rests k i x hrests]
    exact ⟨rfl, rfl, rfl, h⟩

theorem not_inForce_of_mem {r : RunState}
    (h : r ∈ [RunState.stopped, .paused, .holding, .parking, .unloading, .frozen]) : r ≠ .running ∧ r ≠ .pausing := by
  cases r <;> simp at h ⊢

/-- R71: in a run with no entry going on the sequencer stands still at a quiet boundary. -/
theorem still_moves (h : s.run.state ∈ [.stopped, .paused, .holding, .parking, .unloading, .frozen]) :
    (quietBoundary s).sequencer = s.sequencer ∧ (quietBoundary s).pipeline = (formFrame s).pipeline ∧
      (quietBoundary s).schedule = s.schedule := by
  obtain ⟨hrun, hseq, hsched, -, -, -, -, hpipe⟩ := formed_parts s
  have hreport := reportRun_still (frameKind s) (frameTaper (frameKind s) s) (formed s) (by rw [hrun]; exact h)
  rw [hrun] at hreport
  obtain ⟨hseqLeft, hpipeLeft, hschedLeft, hstate⟩ := hreport
  have hreads := callReads_still (not_inForce_of_mem hstate)
  rw [quietBoundary_rest (restFrame_frameKind (.inr (not_inForce_of_mem h))), boundaryLeft, hreads, settle_sequencer,
    settle_pipeline, settle_schedule]
  exact ⟨hseqLeft.trans hseq, hpipeLeft.trans hpipe, hschedLeft.trans hsched⟩

/-- R71: and where it neither starts nor stops, the run stands still too. -/
theorem rests_moves (h : s.run.state ∈ [.stopped, .paused, .holding, .frozen]) :
    (quietBoundary s).run = s.run ∧ (quietBoundary s).events = s.events := by
  obtain ⟨hrun, -, -, -, -, hevents, -⟩ := formed_parts s
  have hstill : s.run.state ∈ [RunState.stopped, .paused, .holding, .parking, .unloading, .frozen] := by
    simp only [List.mem_cons, List.not_mem_nil, or_false] at h ⊢
    grind
  rw [quietBoundary_rest (restFrame_frameKind (.inr (not_inForce_of_mem hstill))), reportRun_rests _ _ _ h]
  obtain ⟨hleft, heventsLeft, -⟩ := boundaryLeft_parts (formed s)
  exact ⟨hleft.trans hrun, heventsLeft.trans hevents⟩

/-- Settles O40: the timers by `timers_expire`; a quiet boundary by what its report comes to where no entry is in force
(`starting_moves`, `parking_moves`), where the sequencer stands still (`quietBoundary_rest`) and where an entry goes on
(`quietBoundary_goesOn`). -/
theorem arrivalsAndTimersMoveRun : Obligations.ArrivalsAndTimersMoveRun := by
  unfold Obligations.ArrivalsAndTimersMoveRun
  refine ⟨fun s => timers_expire s, ?_, ?_, ?_⟩
  · intro missFirst s hu ha hops hmiss hp arrived parked reported
    have harrived (f : ChannelRec → Sample) : allAt f (formed s) = true ↔ arrived f := allAt_formed f s
    have hparked : s.pipeline.stopTaper = false ∧ allAt ChannelRec.park (formed s) = true ↔ parked :=
      and_congr_right fun _ => harrived _
    obtain ⟨hrun, hseq, -, -, hconfig, hevents, hcounter, -⟩ := formed_parts s
    refine ⟨_, exec_frameBoundary_quiet missFirst hu ha ⟨hops, fun _ h => nomatch hp.symm.trans h⟩ hmiss, fun hr => ?_,
      fun hr => ?_, fun hr hidle => ?_⟩
    · rw [← harrived]
      obtain ⟨hno, hpaused, hstarts⟩ := starting_moves hp hr
      exact ⟨fun h => hno (Bool.eq_false_iff.2 h), hpaused, hstarts⟩
    · obtain ⟨hno, hyes⟩ := parking_moves hp (.inl hr)
      rw [parkArrival_parking (s := formed s) (by rw [hrun]; exact hr), raiseEvent_run, enterStopped, hseq] at hyes
      refine ⟨fun h => hno (mt hparked.1 h), fun h => ?_⟩
      obtain ⟨hstops, hreports⟩ := hyes (hparked.2 h)
      exact ⟨hstops.trans (by rw [hrun]), hreports.trans (raiseEvent_events_congr _ _ _ hevents hcounter)⟩
    · obtain ⟨hno, hyes⟩ := parking_moves hp (.inr hr)
      rw [parkArrival_unloading (s := formed s) (by rw [hrun]; exact hr) (by rw [hrun]; exact hidle)] at hyes
      have hgeneral : general (formed s) = general s := by rw [general, hconfig, general]
      rw [hgeneral, hrun, hseq] at hyes
      refine ⟨fun h => hno (mt hparked.1 h), fun h hlow => ?_, fun h hhigh hdelay => ?_, fun h hhigh hdelay => ?_⟩
      · obtain ⟨hstops, hreports⟩ := hyes (hparked.2 h)
        rw [if_neg (by rw [hlow]; nofun)] at hstops hreports
        refine ⟨hstops.trans ?_, hreports.trans (raiseEvent_events_congr _ _ _ hevents hcounter)⟩
        rw [raiseEvent_run, enterStopped, hrun]
      · obtain ⟨hstops, -⟩ := hyes (hparked.2 h)
        rw [if_pos hhigh, if_neg hdelay] at hstops
        exact hstops
      · obtain ⟨hstops, hreports⟩ := hyes (hparked.2 h)
        rw [if_pos hhigh, if_pos hdelay, endUnloadDelay] at hstops hreports
        refine ⟨hstops.trans ?_, hreports.trans ?_⟩
        · rw [raiseEvent_run, ← hidle, ← hrun]
          rfl
        · rw [hseq]
          exact raiseEvent_events_congr _ _ _ hevents hcounter
  · intro missFirst s hu ha hd hm
    exact ⟨_, exec_frameBoundary_quiet missFirst hu ha hd hm, still_moves, rests_moves⟩
  · intro missFirst s hu ha hd hm hr
    refine ⟨_, exec_frameBoundary_quiet missFirst hu ha hd hm, ?_⟩
    intro moved given
    obtain ⟨-, hpipeline, -, -, hsequencer⟩ := framed_parts s
    refine ⟨fun p hp hpos => ?_, fun d hp hpos => ?_⟩
    · have hkind : frameKind s = .play := (frameKind_play hr hp).trans (if_pos (Nat.lt_of_succ_lt hpos))
      have hparams : (formFrame s).pipeline.params = some (.play p) := hp
      have hgoes : reportSequencer .play (framed s) = { framed s with
          sequencer := { (framed s).sequencer with position := s.sequencer.position + 1 } } := by
        simp only [reportSequencer, hpipeline, hparams, hsequencer, if_neg (Nat.ne_of_lt hpos)]
      obtain ⟨hgiven, -, hrun, y, hfetch, hyrun, hypipe, hyseq⟩ := quietBoundary_goesOn hr hkind hgoes
      have hzero : s.run.state = .pausing ∧ frameTaper .play s = 0 ↔ s.run.state = .pausing ∧ s.pipeline.taper ≤ 1 :=
        and_congr_right fun h => by rw [frameTaper_pausing h, Nat.sub_eq_zero_iff_le]
      simp only [hzero] at hrun
      refine ⟨hgiven, hrun, fun h => ?_, fun hphase hgoing => ?_⟩
      · obtain ⟨-, hpipe, -⟩ := hgiven
        rw [hpipe, ← frameTaper_pausing h]
        exact congrArg (frameTaper · s) hkind
      · have hstate : y.run.state = .running ∨ y.run.state = .pausing := by
          have hstays : ¬ (s.run.state = .pausing ∧ s.pipeline.taper ≤ 1) := fun hc =>
            hgoing.elim (fun h => nomatch hc.1.symm.trans h) (Nat.not_lt.2 hc.2)
          rw [hyrun, hrun, if_neg hstays]
          exact hr
        have hreads := callReads_play (s := y) (p := p) hstate (by rw [hypipe]; exact hparams)
          (by rw [hyseq]; exact hphase) (by rw [hyseq]; exact hpos)
        have hkept : y.sequencer.position = s.sequencer.position + 1 ∧ y.sequencer.fetch = s.sequencer.fetch := by
          rw [hyseq]
          exact ⟨rfl, rfl⟩
        rw [hkept.1, hkept.2] at hreads
        rw [hfetch, hreads]
        exact ⟨rfl, rfl, fun x hx => fetchedSample_kept _ hx⟩
    · have hkind := frameKind_dwell hr hp
      have hparams : (formFrame s).pipeline.params = some (.dwell d) := hp
      have hgoes : reportSequencer .dwell (framed s) = { framed s with
          sequencer := { (framed s).sequencer with position := s.sequencer.position + 1 } } := by
        simp only [reportSequencer, hpipeline, hparams, hsequencer, if_neg (Nat.not_le.2 hpos)]
      obtain ⟨hgiven, hevents, hrun, -⟩ := quietBoundary_goesOn hr hkind hgoes
      have hpipe := hgiven.2.1
      refine ⟨hgiven, hrun, ?_, ?_⟩
      · rw [hpipe]
        exact congrArg (frameTaper · s) hkind
      · rw [hevents, framed_idle (by rw [hkind]; rfl), formed_frame]

end Sys2Proof.Machine
end

section
/-! PROOF. What the fault table, the run controller and the sequencer do to the fault sources, the monitors and the store
while they answer a raise or an end (R107, R126, R133, R134, R136): a relation that a few single moves keep is kept by all
of it. -/

namespace Sys2Proof.Machine

variable {s t u : State}

/-! ## What the monitors and the fault sources hold -/

/-- R107, R126, R127, R133: the fault sources, the monitors, the pressure line and the hold-out set. -/
def bank (s : State) : Vector FaultEntry 38 × Vector Monitor 32 × Level × List Nat :=
  (s.faults.entries, s.monitors, s.run.pressure, s.run.holdOut)

theorem bank_parts (h : bank t = bank s) : t.faults.entries = s.faults.entries ∧ t.monitors = s.monitors ∧
    t.run.pressure = s.run.pressure ∧ t.run.holdOut = s.run.holdOut := by
  simpa only [bank, Prod.mk.injEq] using h

@[simp] theorem bank_raiseEvent (k : EventKind) (a v : Nat) : bank (raiseEvent k a v s) = bank s := by simp [bank]

@[simp] theorem bank_abortEntry : bank (abortEntry s) = bank s := by
  obtain ⟨hframe, -⟩ := aborted_abortEntry s
  rw [hframe]
  rfl

@[simp] theorem bank_pauseJoined : bank (pauseJoined s) = bank s := by
  unfold pauseJoined
  split
  · split <;> rfl
  · rfl

@[simp] theorem bank_beginPlay (i : Nat) (p : PlayEntry) (b : Bool) : bank (beginPlay i p b s) = bank s := by
  rw [beginPlay_eq, playCaptured_frame]
  rfl

@[simp] theorem bank_endSchedule : bank (endSchedule s) = bank s := by
  have hended (n : Nat) : bank (raiseEvent .scheduleEnded n 0 (stand .ended n s)) = bank s := bank_raiseEvent _ _ _
  simp only [endSchedule]
  split
  · exact Eq.trans rfl (hended _)
  · exact hended _

@[simp] theorem bank_skipEntry (i g : Nat) : bank (skipEntry i g s) = bank s := by
  have hended (k n : Nat) (u : State) : bank (raiseEnded k n u) = bank u := by unfold raiseEnded; split <;> simp
  simp only [skipEntry, bank_raiseEvent, hended]
  rfl

@[simp] theorem bank_callReads : bank (callReads s) = bank s := by rw [callReads_eq]; rfl

/-! ## The store beside them (R11) -/

theorem storeSettled_raiseEvent (k : EventKind) (a v : Nat) : storeSettled s (raiseEvent k a v s) :=
  storeSettled_of_outer (outer_raiseEvent k a v) (raiseEvent_store _ _ _ _)

theorem storeSettled_abortEntry : storeSettled s (abortEntry s) := (aborted_abortEntry s).store

theorem storeSettled_pauseJoined : storeSettled s (pauseJoined s) := by
  refine storeSettled_of_outer outer_pauseJoined ?_
  unfold pauseJoined
  split
  · split <;> rfl
  · rfl

theorem storeSettled_beginPlay (i : Nat) (p : PlayEntry) (b : Bool) : storeSettled s (beginPlay i p b s) := by
  refine storeSettled_of_outer (outer_beginPlay i p b) ?_
  rw [beginPlay_eq, playCaptured_frame]
  rfl

theorem storeSettled_endSchedule : storeSettled s (endSchedule s) := by
  refine storeSettled_of_outer outer_endSchedule ?_
  simp only [endSchedule]
  split <;> exact raiseEvent_store _ _ _ _

theorem storeSettled_skipEntry (i g : Nat) : storeSettled s (skipEntry i g s) := by
  refine storeSettled_of_outer (outer_skipEntry i g) ((raiseEvent_store _ _ _ _).trans ?_)
  unfold raiseEnded
  split
  · rfl
  · exact raiseEvent_store _ _ _ _

theorem storeSettled_callReads : storeSettled s (callReads s) :=
  storeSettled_of_outer outer_callReads (by rw [callReads_eq])

/-! ## A relation that a fault's raise and end keep -/

/-- A relation between states that the single moves of a fault's raise and end keep, where only the sources that `mine`
allows are raised or ended: a source's entry, a monitor's trip, the fall of the pressure, and whatever leaves the sources,
the monitors, the pressure, the hold-out set and the outer parts alone and settles the store. -/
structure FaultMoves (mine : Nat → Prop) (R : State → State → Prop) : Prop where
  trans : ∀ {s t u}, R s t → R t u → R s u
  plain : ∀ {s t}, bank t = bank s → outer t = outer s → storeSettled s t → R s t
  entry : ∀ {k} e s, mine k → R s (setEntry k e s)
  trip : ∀ {k} b s, mine k → R s { s with monitors := tset s.monitors k { tget s.monitors k with tripped := b } }
  fall : ∀ s, R s (pressureFall s)

section Moves
variable {mine : Nat → Prop} {R : State → State → Prop} {k : Nat} (h : FaultMoves mine R)
include h

/-- What changes neither the outer parts nor the store nor the sources and monitors. -/
theorem FaultMoves.still (hb : bank t = bank s) (ho : outer t = outer s) (hs : t.store = s.store) : R s t :=
  h.plain hb ho (storeSettled_of_outer ho hs)

theorem FaultMoves.event (e : EventKind) (a v : Nat) (s : State) : R s (raiseEvent e a v s) :=
  h.plain (bank_raiseEvent _ _ _) (outer_raiseEvent _ _ _) (storeSettled_raiseEvent _ _ _)

/-- R134, R136: a source ends. -/
theorem FaultMoves.endSource (hk : mine k) (s : State) : R s (endSource k s) := by
  have hentry := h.entry { source s k with active := false, subject := 0 } s hk
  unfold Machine.endSource
  dsimp only
  split
  · exact h.trans (h.trans hentry (h.trip false _ hk)) (h.event _ _ _ _)
  · exact h.trans hentry (h.event _ _ _ _)

section Missing
variable (hmissing : mine 35)
include hmissing

/-- R135: the wait at an entry ends. -/
theorem FaultMoves.endWait (s : State) : R s (endWait s) := by
  have hformed (u : State) : R u (setFaultLine (setAction (leaveSet 35 u))) := h.still rfl rfl rfl
  unfold Machine.endWait
  split
  · exact h.trans (h.endSource hmissing s) (hformed _)
  · exact h.still rfl rfl rfl

/-- R62, R103, R135: the entry in force is aborted, and the wait at an entry ends. -/
theorem FaultMoves.abort (s : State) : R s (Machine.endWait (abortEntry s)) :=
  h.trans (h.plain bank_abortEntry outer_abortEntry storeSettled_abortEntry) (h.endWait hmissing _)

/-- R104: a freeze. -/
theorem FaultMoves.freeze (s : State) : R s (freeze s) := by
  have hfall : R s (pressureFall { s with run := { s.run with state := .frozen, unload := .idle } }) :=
    h.trans (h.still (t := { s with run := { s.run with state := .frozen, unload := .idle } }) rfl rfl rfl) (h.fall _)
  exact h.trans (h.trans hfall (h.abort hmissing _)) (h.still rfl rfl rfl)

/-- R102: a stop into UNLOADING. -/
theorem FaultMoves.enterUnloading (s : State) : R s (enterUnloading s) := by
  have hset : R s { s with run := { s.run with state := .unloading } } := h.still rfl rfl rfl
  exact h.trans (h.trans hset (h.abort hmissing _)) (h.still rfl rfl rfl)

/-- R105: the action STOP. -/
theorem FaultMoves.stopAction (s : State) : R s (stopAction s) := by
  have hdelay : R s (endStoppedDelay s) :=
    h.trans (h.trans (h.fall s)
      (h.still (t := { pressureFall s with run := { (pressureFall s).run with unload := .idle } }) rfl rfl rfl))
      (h.event _ _ _ _)
  unfold Machine.stopAction
  split
  case h_7 | h_8 => exact h.still rfl rfl rfl
  case h_9 =>
    split
    · split
      · exact hdelay
      · exact h.still rfl rfl rfl
    · exact h.still rfl rfl rfl
  all_goals exact h.enterUnloading hmissing s

/-- R138: the effective action is formed again. -/
theorem FaultMoves.formAction (s : State) : R s (formAction s) := by
  have hset : R s (setAction s) := h.still rfl rfl rfl
  unfold Machine.formAction
  split
  · exact h.still rfl rfl rfl
  · unfold handAction
    split
    · exact h.trans hset (h.freeze hmissing _)
    · exact h.trans hset (h.stopAction hmissing _)
    · exact hset

/-- R134, R138, R139: what follows once a source's entry says that it is active. -/
theorem FaultMoves.afterRaised (k : Nat) (c : FaultClass) (s : State) :
    R s (setFaultLine (Machine.formAction (if c = .pause then joinSet k s else s))) := by
  have hjoin : R s (joinSet k s) := h.trans
    (h.still (t := { s with run := { s.run with sources := insertNum k s.run.sources } }) rfl rfl rfl)
    (h.plain bank_pauseJoined outer_pauseJoined storeSettled_pauseJoined)
  have hform (u : State) : R u (setFaultLine (Machine.formAction u)) :=
    h.trans (h.formAction hmissing u) (h.still rfl rfl rfl)
  split
  · exact h.trans hjoin (hform _)
  · exact hform _

/-- R134: a raise. -/
theorem FaultMoves.raise (hk : mine k) (n : Nat) (s : State) : R s (raise k n s) := by
  unfold Machine.raise
  dsimp only
  split
  · exact h.still rfl rfl rfl
  · exact h.trans (h.trans (h.entry _ s hk) (h.event _ _ _ _)) (h.afterRaised hmissing k _ _)

/-- R53 to R58: the advance. -/
theorem FaultMoves.advance (fuel i : Nat) (s : State) : R s (advance fuel i s) := by
  induction fuel generalizing i s with
  | zero => exact h.still rfl rfl rfl
  | succ n ih =>
    unfold Machine.advance
    split
    · exact h.plain bank_endSchedule outer_endSchedule storeSettled_endSchedule
    · exact h.trans (h.event _ _ _ _) (ih _ _)
    · next j c m _ =>
      exact h.trans (h.still (t := { s with schedule := (passRepeat i j c m s.schedule).2 }) rfl rfl rfl) (ih _ _)
    · exact h.still rfl rfl rfl
    · split
      · exact h.plain (bank_beginPlay _ _ _) (outer_beginPlay _ _ _) (storeSettled_beginPlay _ _ _)
      · split
        · exact h.trans (h.plain (bank_skipEntry _ _) (outer_skipEntry _ _) (storeSettled_skipEntry _ _)) (ih _ _)
        · exact h.trans (h.still (t := stand .awaiting i s) rfl rfl rfl) (h.raise hmissing hmissing _ _)

/-- R53, R59, R153: the sequencer goes on. -/
theorem FaultMoves.proceed (s : State) : R s (proceed s) := by
  unfold Machine.proceed
  split
  · exact h.still rfl rfl rfl
  · split
    · split
      · exact h.plain (bank_beginPlay _ _ _) (outer_beginPlay _ _ _) (storeSettled_beginPlay _ _ _)
      · exact h.still rfl rfl rfl
    · split
      · split
        · exact h.advance hmissing _ _ s
        · exact h.advance hmissing _ _ s
        · exact h.still rfl rfl rfl
      · exact h.still rfl rfl rfl

/-- R53: the run enters RUNNING. -/
theorem FaultMoves.enterRunning (s : State) : R s (enterRunning s) := by
  have hset : R s { s with run := { s.run with state := .running } } := h.still rfl rfl rfl
  exact h.trans (h.trans hset (h.plain bank_callReads outer_callReads storeSettled_callReads)) (h.proceed hmissing _)

/-- R92, R96, R97: the pause-reason set is empty. -/
theorem FaultMoves.pauseEmptied (s : State) : R s (pauseEmptied s) := by
  have hset : R s { s with run := { s.run with state := .running } } := h.still rfl rfl rfl
  unfold Machine.pauseEmptied
  split
  · split
    · exact h.trans (h.trans hset (h.event _ _ _ _)) (h.enterRunning hmissing _)
    · exact h.trans (h.trans hset (h.event _ _ _ _)) (h.enterRunning hmissing _)
    · exact h.still rfl rfl rfl
  · exact h.still rfl rfl rfl

/-- R136, R139: what follows once a source's entry says that it has ended. -/
theorem FaultMoves.afterEnded (c : FaultClass) (s : State) :
    R s (setFaultLine (Machine.formAction (if c = .pause then Machine.pauseEmptied s else s))) := by
  have hform (u : State) : R u (setFaultLine (Machine.formAction u)) :=
    h.trans (h.formAction hmissing u) (h.still rfl rfl rfl)
  split
  · exact h.trans (h.pauseEmptied hmissing s) (hform _)
  · exact hform _

/-- R136: a SELF_CLEARING source's end. -/
theorem FaultMoves.faultEnd (hk : mine k) (s : State) : R s (faultEnd k s) := by
  have hleft (u : State) : R u (leaveSet k u) := h.still rfl rfl rfl
  unfold Machine.faultEnd
  dsimp only
  split
  · exact h.trans (h.trans (h.endSource hk s) (hleft _)) (h.afterEnded hmissing _ _)
  · exact h.still rfl rfl rfl

/-- R129: a monitor trips. -/
theorem FaultMoves.tripMonitor (hk : mine k) (s : State) : R s (tripMonitor k s) :=
  h.trans (h.trip true s hk) (h.raise hmissing hk _ _)

/-- R129, R130: a monitor's verdict is carried out. -/
theorem FaultMoves.applyVerdict (hk : mine k) (v : Verdict) (s : State) : R s (applyVerdict k v s) := by
  cases v with
  | none => exact h.still rfl rfl rfl
  | trips => exact h.tripMonitor hmissing hk s
  | untrips => exact h.faultEnd hmissing hk s

theorem FaultMoves.applyVerdicts (v : Nat → Verdict) {ks : List Nat} (hks : ∀ k ∈ ks, mine k) (s : State) :
    R s (ks.foldl (fun u k => Machine.applyVerdict k (v k) u) s) := by
  induction ks generalizing s with
  | nil => exact h.still rfl rfl rfl
  | cons k ks ih =>
    rw [List.forall_mem_cons] at hks
    exact h.trans (h.applyVerdict hmissing hks.1 (v k) s) (ih hks.2 _)

/-- R122: the servo-ready check. -/
theorem FaultMoves.servoCheck (hservo : mine 32) (s : State) : R s (servoCheck s) := by
  unfold Machine.servoCheck
  split
  · split
    · exact h.raise hmissing hservo _ s
    · exact h.still rfl rfl rfl
  · exact h.still rfl rfl rfl

/-- R121: the RIG_LINK check. -/
theorem FaultMoves.rigLinkCheck (hlink : mine 33) (w : Window) (s : State) : R s (rigLinkCheck w s) := by
  unfold Machine.rigLinkCheck
  split
  · exact h.raise hmissing hlink _ s
  · exact h.still rfl rfl rfl

end Missing

end Moves

end Sys2Proof.Machine
end

section
/-! PROOF. What a delivery of feedback does to the monitors and the fault sources (R126 to R130, R133, R134, R136). -/

namespace Sys2Proof.Machine

variable {s t u x : State} {j k : Nat}

/-! ## What is left alone -/

/-- A fault's raise or end leaves the outer parts alone and settles the store. -/
theorem faultMoves_outer : FaultMoves (fun _ => True) (fun s t => outer t = outer s ∧ storeSettled s t) where
  trans h h' := ⟨h'.1.trans h.1, h.2.trans h'.2⟩
  plain _ ho hs := ⟨ho, hs⟩
  entry _ _ _ := ⟨rfl, storeSettled_of_outer rfl rfl⟩
  trip _ _ _ := ⟨rfl, storeSettled_of_outer rfl rfl⟩
  fall _ := ⟨rfl, storeSettled_of_outer rfl rfl⟩

/-- R107, R126: monitor `j` keeps its record, and its counts unless the pressure has fallen; the pressure does not rise and
the hold-out set stands. -/
structure KeepsCounts (j : Nat) (s t : State) : Prop where
  record : (tget t.monitors j).record = (tget s.monitors j).record
  holdOut : t.run.holdOut = s.run.holdOut
  counts : t.run.pressure = .low ∨ t.run.pressure = s.run.pressure ∧
    (tget t.monitors j).outside = (tget s.monitors j).outside ∧ (tget t.monitors j).inside = (tget s.monitors j).inside

theorem KeepsCounts.trans (h : KeepsCounts j s t) (h' : KeepsCounts j t u) : KeepsCounts j s u where
  record := h'.record.trans h.record
  holdOut := h'.holdOut.trans h.holdOut
  counts := by
    rcases h'.counts with e' | ⟨hp', ho', hi'⟩
    · exact .inl e'
    · rcases h.counts with e | ⟨hp, ho, hi⟩
      · exact .inl (hp'.trans e)
      · exact .inr ⟨hp'.trans hp, ho'.trans ho, hi'.trans hi⟩

theorem KeepsCounts.of_bank (h : bank t = bank s) : KeepsCounts j s t := by
  obtain ⟨-, hmonitors, hpressure, hholdOut⟩ := bank_parts h
  exact ⟨by rw [hmonitors], hholdOut, .inr ⟨hpressure, by rw [hmonitors], by rw [hmonitors]⟩⟩

/-- Where the pressure is high after, it was high before, and the counts are those before. -/
theorem KeepsCounts.of_high (h : KeepsCounts j s t) (ht : t.run.pressure = .high) : s.run.pressure = .high ∧
    (tget t.monitors j).outside = (tget s.monitors j).outside ∧
      (tget t.monitors j).inside = (tget s.monitors j).inside := by
  rcases h.counts with e | ⟨hp, hcounts⟩
  · cases e.symm.trans ht
  · exact ⟨hp.symm.trans ht, hcounts⟩

/-- R107: at a fall of the pressure a monitor keeps all but its counts. -/
theorem monitor_pressureFall (j : Nat) (s : State) :
    (tget (pressureFall s).monitors j).record = (tget s.monitors j).record ∧
      (tget (pressureFall s).monitors j).tripped = (tget s.monitors j).tripped := by
  by_cases hj : j < 32
  · have hget : tget (pressureFall s).monitors j = { tget s.monitors j with outside := 0, inside := 0 } := tget_tmap _ _ hj
    rw [hget]
    exact ⟨rfl, rfl⟩
  · have hget : tget (pressureFall s).monitors j = tget s.monitors j := by
      rw [tget_out _ (Nat.not_lt.1 hj), tget_out _ (Nat.not_lt.1 hj)]
    rw [hget]
    exact ⟨rfl, rfl⟩

/-- R126: a trip or its end changes a monitor's tripped flag only. -/
theorem keepsCounts_trip (j k : Nat) (b : Bool) (s : State) : KeepsCounts j s
    { s with monitors := tset s.monitors k { tget s.monitors k with tripped := b } } := by
  have hget : tget (tset s.monitors k { tget s.monitors k with tripped := b }) j = tget s.monitors j ∨
      tget (tset s.monitors k { tget s.monitors k with tripped := b }) j = { tget s.monitors j with tripped := b } := by
    by_cases hjk : j = k
    · subst hjk
      by_cases hj : j < 32
      · exact .inr (tget_tset_same _ _ hj)
      · exact .inl (by rw [tget_out _ (Nat.not_lt.1 hj), tget_out _ (Nat.not_lt.1 hj)])
    · exact .inl (tget_tset_ne _ _ hjk)
  have hkeeps : (tget (tset s.monitors k { tget s.monitors k with tripped := b }) j).record = (tget s.monitors j).record ∧
      (tget (tset s.monitors k { tget s.monitors k with tripped := b }) j).outside = (tget s.monitors j).outside ∧
      (tget (tset s.monitors k { tget s.monitors k with tripped := b }) j).inside = (tget s.monitors j).inside := by
    rcases hget with e | e <;> rw [e] <;> exact ⟨rfl, rfl, rfl⟩
  exact ⟨hkeeps.1, rfl, .inr ⟨rfl, hkeeps.2⟩⟩

theorem faultMoves_keepsCounts (j : Nat) : FaultMoves (fun _ => True) (KeepsCounts j) where
  trans := .trans
  plain hb _ _ := .of_bank hb
  entry _ _ _ := ⟨rfl, rfl, .inr ⟨rfl, rfl, rfl⟩⟩
  trip b s _ := keepsCounts_trip j _ b s
  fall s := ⟨(monitor_pressureFall j s).1, rfl, .inl rfl⟩

/-- R126, R133: fault source `j` stands, and so does monitor `j` but for the counts that a fall of the pressure makes 0. -/
structure Undisturbed (j : Nat) (s t : State) : Prop extends KeepsCounts j s t where
  source : source t j = source s j
  tripped : (tget t.monitors j).tripped = (tget s.monitors j).tripped

theorem Undisturbed.trans (h : Undisturbed j s t) (h' : Undisturbed j t u) : Undisturbed j s u where
  toKeepsCounts := h.toKeepsCounts.trans h'.toKeepsCounts
  source := h'.source.trans h.source
  tripped := h'.tripped.trans h.tripped

theorem Undisturbed.of_bank (h : bank t = bank s) : Undisturbed j s t := by
  obtain ⟨hentries, hmonitors, -⟩ := bank_parts h
  exact ⟨.of_bank h, by rw [Machine.source, hentries, Machine.source], by rw [hmonitors]⟩

/-- What bears on neither keeps the relation. -/
theorem Undisturbed.of_eq (h : Undisturbed j s t) (e : bank u = bank t) : Undisturbed j s u := h.trans (.of_bank e)

theorem Undisturbed.after (h : Undisturbed j t u) (e : bank t = bank s) : Undisturbed j s u :=
  (Undisturbed.of_bank e).trans h

/-- Where the pressure is high after, the monitor is the one before. -/
theorem Undisturbed.monitor (h : Undisturbed j s t) (ht : t.run.pressure = .high) :
    tget t.monitors j = tget s.monitors j := by
  obtain ⟨-, houtside, hinside⟩ := h.of_high ht
  have hext (m n : Monitor) (hr : m.record = n.record) (ht : m.tripped = n.tripped) (ho : m.outside = n.outside)
      (hi : m.inside = n.inside) : m = n := by
    cases m
    cases n
    simp_all only
  exact hext _ _ h.record h.tripped houtside hinside

theorem faultMoves_undisturbed (j : Nat) : FaultMoves (fun k => k ≠ j) (Undisturbed j) where
  trans := .trans
  plain hb _ _ := .of_bank hb
  entry _ _ hk := ⟨⟨rfl, rfl, .inr ⟨rfl, rfl, rfl⟩⟩, tget_tset_ne _ _ hk.symm, rfl⟩
  trip b s hk := ⟨keepsCounts_trip j _ b s, rfl, congrArg Monitor.tripped (tget_tset_ne _ _ hk.symm)⟩
  fall s := ⟨(faultMoves_keepsCounts j).fall s, rfl, (monitor_pressureFall j s).2⟩

/-! ## A source's own raise and end -/

/-- R134: a raise in ACTIVE of a source that is not active. -/
theorem raise_inactive (n : Nat) (ha : s.config.mode = .active) (hi : (source s k).active = false) :
    raise k n s = setFaultLine (formAction
      (if (source s k).cls = .pause then joinSet k (raised k n s) else raised k n s)) := by
  unfold raise
  rw [if_neg (by simp [isActive, ha, hi])]
  rfl

/-- R134: a raise of an active source is absorbed. -/
theorem raise_absorbed (n : Nat) (hi : (source s k).active = true) : raise k n s = s := by
  unfold raise
  rw [if_pos (by rw [hi, Bool.or_true])]

theorem source_raised (n : Nat) (hk : k < 38) (s : State) : source (raised k n s) k = raisedEntry k n s := by
  rw [source, raised_faults]
  exact tget_tset_same _ _ hk

section Own
variable (hk : k < 38) (hmissing : k ≠ 35)
include hk hmissing

/-- R134: what follows a raise leaves the source raised. -/
theorem source_raise (n : Nat) (ha : s.config.mode = .active) : source (raise k n s) k =
    if (source s k).active = true then source s k else raisedEntry k n s := by
  split
  · next hi => rw [raise_absorbed n hi]
  · next hi =>
    rw [raise_inactive n ha (Bool.eq_false_of_not_eq_true hi)]
    exact ((faultMoves_undisturbed k).afterRaised hmissing.symm k _ _).source.trans (source_raised n hk s)

omit hk in
/-- R129, R134: a raise leaves its own monitor's tripped flag as it was. -/
theorem tripped_raise (n : Nat) (s : State) : (tget (raise k n s).monitors k).tripped = (tget s.monitors k).tripped := by
  unfold raise
  dsimp only
  split
  · rfl
  · refine ((faultMoves_undisturbed k).afterRaised hmissing.symm k _ _).tripped.trans ?_
    rw [raiseEvent_monitors]
    rfl

/-- R136: what follows a source's end leaves it ended, and its monitor's trip with it. -/
theorem source_faultEnd (hi : (source s k).active = true) : (source (faultEnd k s) k).active = false ∧
    (k < 32 → (tget (faultEnd k s).monitors k).tripped = false) := by
  have hend : faultEnd k s = setFaultLine (formAction (if (source s k).cls = .pause then
      pauseEmptied (leaveSet k (endSource k s)) else leaveSet k (endSource k s))) := by
    simp only [faultEnd, hi, if_true]
  have hleft := (faultMoves_undisturbed k).afterEnded hmissing.symm (source s k).cls (leaveSet k (endSource k s))
  rw [hend]
  refine ⟨(congrArg FaultEntry.active (hleft.source.trans (source_endSource hk s))).trans rfl, fun hk' => ?_⟩
  have hmonitors : (leaveSet k (endSource k s)).monitors =
      tset s.monitors k { tget s.monitors k with tripped := false } := by
    rw [leaveSet, endSource]
    simp only [if_pos hk', raiseEvent_monitors]
    rfl
  rw [hleft.tripped, hmonitors, tget_tset_same _ _ hk']

end Own

/-- R129: a monitor that trips in ACTIVE, its source not active, is tripped and its source raised with its channel. -/
theorem tripMonitor_own (hk : k < 32) (ha : s.config.mode = .active) (hi : (source s k).active = false) :
    (tget (tripMonitor k s).monitors k).tripped = true ∧
      source (tripMonitor k s) k = raisedEntry k (tget s.monitors k).record.feedback.toNat s := by
  obtain ⟨y, hy⟩ : ∃ y, { s with monitors := tset s.monitors k { tget s.monitors k with tripped := true } } = y := ⟨_, rfl⟩
  have htrip : tripMonitor k s = raise k (tget s.monitors k).record.feedback.toNat y := by rw [← hy]; rfl
  have hsource : source y k = source s k := by rw [← hy]; rfl
  have htripped : (tget y.monitors k).tripped = true := by
    rw [← hy]
    exact congrArg Monitor.tripped (tget_tset_same _ _ hk)
  rw [htrip]
  refine ⟨(tripped_raise (by omega) _ y).trans htripped, ?_⟩
  rw [source_raise (by omega) (by omega) _ (by rw [← hy]; exact ha), hsource, if_neg (by rw [hi]; nofun), raisedEntry,
    raisedEntry, hsource]

/-! ## A delivery (R128 to R130) -/

/-- R128: every monitor that evaluates has valuesCounted its value; no verdict is carried out yet. -/
def valuesCounted (s : State) : State :=
  { s with monitors := tmap (fun _ m =>
      if evaluates s m then countValue (tget s.rig.feedback m.record.feedback.toNat) m else m) s.monitors }

/-- R129, R130: the verdict on monitor `k` at a delivery. -/
def verdictOf (s : State) (k : Nat) : Verdict :=
  if evaluates s (tget s.monitors k) then verdict (source s k).latched (tget (valuesCounted s).monitors k) else .none

theorem deliver_eq (s : State) :
    deliver s = (List.range 32).foldl (fun t k => applyVerdict k (verdictOf s k) t) (valuesCounted s) := by
  unfold deliver
  refine List.foldl_ext _ _ _ fun t k hk => ?_
  simp [List.getD_eq_getElem?_getD, List.mem_range.1 hk, verdictOf, valuesCounted]

theorem monitor_valuesCounted (hk : k < 32) (s : State) : tget (valuesCounted s).monitors k =
    if evaluates s (tget s.monitors k) then
      countValue (tget s.rig.feedback (tget s.monitors k).record.feedback.toNat) (tget s.monitors k)
    else tget s.monitors k := tget_tmap _ _ hk

theorem countValue_keeps (v : Sample) (m : Monitor) :
    (countValue v m).record = m.record ∧ (countValue v m).tripped = m.tripped := by
  unfold countValue
  split <;> exact ⟨rfl, rfl⟩

/-- Where no monitor evaluates a delivery does nothing. -/
theorem deliver_idle (h : ∀ k, k < 32 → evaluates s (tget s.monitors k) = false) : deliver s = s := by
  have hcounted : valuesCounted s = s := by
    have hmonitors : (valuesCounted s).monitors = s.monitors :=
      table_ext fun k hk => by rw [monitor_valuesCounted hk, h k hk]; rfl
    calc valuesCounted s = { s with monitors := (valuesCounted s).monitors } := rfl
      _ = s := by rw [hmonitors]
  have hfold (ks : List Nat) (hks : ∀ k ∈ ks, k < 32) :
      ks.foldl (fun t k => applyVerdict k (verdictOf s k) t) s = s := by
    induction ks with
    | nil => rfl
    | cons k ks ih =>
      rw [List.forall_mem_cons] at hks
      have hnone : verdictOf s k = .none := by rw [verdictOf, h k hks.1]; rfl
      rw [List.foldl_cons, hnone]
      exact ih hks.2
  rw [deliver_eq, hcounted]
  exact hfold _ fun k hk => List.mem_range.1 hk

theorem outer_deliver (s : State) : outer (deliver s) = outer s ∧ storeSettled s (deliver s) := by
  have hcounted : outer (valuesCounted s) = outer s ∧ storeSettled s (valuesCounted s) :=
    ⟨rfl, storeSettled_of_outer rfl rfl⟩
  rw [deliver_eq]
  exact faultMoves_outer.trans hcounted (faultMoves_outer.applyVerdicts trivial _ (fun _ _ => trivial) _)

/-- R128: a delivery counts, and its verdicts leave the counts. -/
theorem keepsCounts_deliver (k : Nat) (s : State) : KeepsCounts k (valuesCounted s) (deliver s) := by
  rw [deliver_eq]
  exact (faultMoves_keepsCounts k).applyVerdicts trivial _ (fun _ _ => trivial) _

/-- R129, R130: a delivery leaves the sources of the faults other than the monitors' alone. -/
theorem undisturbed_deliver (hj : 32 ≤ j) (hmissing : j ≠ 35) (s : State) : Undisturbed j s (deliver s) := by
  have hget : tget (valuesCounted s).monitors j = tget s.monitors j := by rw [tget_out _ hj, tget_out _ hj]
  have hcounted : Undisturbed j s (valuesCounted s) :=
    ⟨⟨congrArg _ hget, rfl, .inr ⟨rfl, congrArg _ hget, congrArg _ hget⟩⟩, rfl, congrArg _ hget⟩
  rw [deliver_eq]
  refine hcounted.trans ((faultMoves_undisturbed j).applyVerdicts hmissing.symm _ (fun k hk => ?_) _)
  exact Nat.ne_of_lt (Nat.lt_of_lt_of_le (List.mem_range.1 hk) hj)

/-- R129, R130: the verdict on monitor `k` finds its monitor as it has counted and its source as it was, and the others'
verdicts leave both alone after it. -/
theorem deliver_verdict (hk : k < 32) (s : State) : ∃ x, Undisturbed k (valuesCounted s) x ∧ outer x = outer s ∧
    Undisturbed k (applyVerdict k (verdictOf s k) x) (deliver s) := by
  obtain ⟨l, r, hsplit⟩ := List.append_of_mem (List.mem_range.2 hk)
  have hnodup : (l ++ k :: r).Nodup := hsplit ▸ List.nodup_range
  have hl : ∀ i ∈ l, i ≠ k := fun i hi e => (List.nodup_append.1 hnodup).2.2 i hi k List.mem_cons_self e
  have hr : ∀ i ∈ r, i ≠ k := fun i hi e =>
    (List.nodup_cons.1 (List.nodup_append.1 hnodup).2.1).1 (e ▸ hi)
  have hmissing : 35 ≠ k := by omega
  refine ⟨l.foldl (fun t k => applyVerdict k (verdictOf s k) t) (valuesCounted s),
    (faultMoves_undisturbed k).applyVerdicts hmissing _ hl _,
    (faultMoves_outer.applyVerdicts trivial _ (fun _ _ => trivial) _).1, ?_⟩
  rw [deliver_eq, hsplit, List.foldl_append, List.foldl_cons]
  exact (faultMoves_undisturbed k).applyVerdicts hmissing _ hr _

/-- R128: a monitor that does not evaluate has no verdict, and its delivery leaves it alone. -/
theorem undisturbed_deliver_idle (hk : k < 32) (h : evaluates s (tget s.monitors k) = false) :
    Undisturbed k s (deliver s) := by
  obtain ⟨x, hbefore, -, hafter⟩ := deliver_verdict hk s
  have hnone : verdictOf s k = .none := by rw [verdictOf, h]; rfl
  have hget : tget (valuesCounted s).monitors k = tget s.monitors k := by rw [monitor_valuesCounted hk, h]; rfl
  have hcounted : Undisturbed k s (valuesCounted s) :=
    ⟨⟨congrArg _ hget, rfl, .inr ⟨rfl, congrArg _ hget, congrArg _ hget⟩⟩, rfl, congrArg _ hget⟩
  rw [hnone] at hafter
  exact (hcounted.trans hbefore).trans hafter

section Verdicts
variable (hk : k < 32) (hev : evaluates s (tget s.monitors k) = true)
include hk hev

theorem verdictOf_evaluates : verdictOf s k = verdict (source s k).latched
    (countValue (tget s.rig.feedback (tget s.monitors k).record.feedback.toNat) (tget s.monitors k)) := by
  rw [verdictOf, if_pos hev, monitor_valuesCounted hk, if_pos hev]

/-- R129: a monitor whose outside count comes to its filter count trips and raises its source. -/
theorem deliver_trips (ht : (tget s.monitors k).tripped = false) (hi : (source s k).active = false)
    (hc : (countValue (tget s.rig.feedback (tget s.monitors k).record.feedback.toNat) (tget s.monitors k)).outside =
      (tget s.monitors k).record.filter) :
    (tget (deliver s).monitors k).tripped = true ∧ (source (deliver s) k).active = true ∧
      (source (deliver s) k).subject = (tget s.monitors k).record.feedback.setWidth 16 := by
  obtain ⟨x, hbefore, houter, hafter⟩ := deliver_verdict hk s
  obtain ⟨hrecord, htripped⟩ :=
    countValue_keeps (tget s.rig.feedback (tget s.monitors k).record.feedback.toNat) (tget s.monitors k)
  have hverdict : verdictOf s k = .trips := by
    rw [verdictOf_evaluates hk hev, verdict, htripped, ht, hrecord, hc]
    simp
  have hxrecord : (tget x.monitors k).record = (tget s.monitors k).record := by
    rw [hbefore.record, monitor_valuesCounted hk, if_pos hev, hrecord]
  have hxactive : (source x k).active = false := (congrArg FaultEntry.active hbefore.source).trans hi
  have hmode : x.config.mode = .active := by
    obtain ⟨-, -, -, -, -, -, hconfig, -⟩ := outer_parts houter
    simp only [evaluates, isActive, Bool.and_eq_true, decide_eq_true_eq] at hev
    rw [hconfig]
    exact hev.1.1.1
  rw [hverdict] at hafter
  obtain ⟨hset, hsource⟩ := tripMonitor_own hk hmode hxactive
  refine ⟨hafter.tripped.trans hset, ?_, ?_⟩ <;> rw [hafter.source, applyVerdict, hsource, raisedEntry]
  rw [hxrecord]
  exact BitVec.ofNat_toNat _ _

/-- R130: a SELF_CLEARING monitor whose inside count comes to its filter count ends its source. -/
theorem deliver_untrips (ht : (tget s.monitors k).tripped = true) (hi : (source s k).active = true)
    (hl : (source s k).latched = false)
    (hc : (countValue (tget s.rig.feedback (tget s.monitors k).record.feedback.toNat) (tget s.monitors k)).inside =
      (tget s.monitors k).record.filter) :
    (tget (deliver s).monitors k).tripped = false ∧ (source (deliver s) k).active = false := by
  obtain ⟨x, hbefore, -, hafter⟩ := deliver_verdict hk s
  obtain ⟨hrecord, htripped⟩ :=
    countValue_keeps (tget s.rig.feedback (tget s.monitors k).record.feedback.toNat) (tget s.monitors k)
  have hverdict : verdictOf s k = .untrips := by
    rw [verdictOf_evaluates hk hev, verdict, htripped, ht, hrecord, hc, hl]
    simp
  rw [hverdict] at hafter
  obtain ⟨hended, hcleared⟩ := source_faultEnd (s := x) (k := k) (by omega) (by omega)
    ((congrArg FaultEntry.active hbefore.source).trans hi)
  exact ⟨hafter.tripped.trans (hcleared hk), (congrArg FaultEntry.active hafter.source).trans hended⟩

end Verdicts

end Sys2Proof.Machine
end

section
/-! PROOF. What a frame boundary leaves of the fault sources and the monitors: the memory operations it waits for, its
frame and its reports (R12, R68, R71, R107, R126, R133). -/

namespace Sys2Proof.Machine

variable {s t u : State} {j : Nat}

/-! ## Replies, segments and evidence -/

@[simp] theorem bank_answer (st : Status) (b : ReplyBody) : bank (answer st b s) = bank s := by simp [bank]
@[simp] theorem bank_setJob (a : LinkJob) : bank (setJob a s) = bank s := by simp [bank]
@[simp] theorem bank_settle : bank (settle s) = bank s := by simp [bank]
@[simp] theorem bank_releasePages (ps : List Nat) : bank (releasePages ps s) = bank s := by simp [bank]
@[simp] theorem bank_setDescriptor (id : Nat) (d : Descriptor) : bank (setDescriptor id d s) = bank s := rfl
@[simp] theorem bank_dropTarget (v : Target) : bank (dropTarget v s) = bank s := by simp [bank]
@[simp] theorem bank_redoLookahead : bank (redoLookahead s) = bank s := by unfold redoLookahead; split <;> rfl
@[simp] theorem bank_segChanged (id : Nat) : bank (segChanged id s) = bank s := by unfold segChanged; split <;> simp
@[simp] theorem bank_carriedAtSwap (id : Nat) : bank (carriedAtSwap id s) = bank s := rfl
@[simp] theorem bank_dropCarried (id : Nat) (r : Bool) : bank (dropCarried id r s) = bank s := rfl
@[simp] theorem bank_swapIn (id : Nat) : bank (swapIn id s) = bank s := by unfold swapIn; split <;> simp
@[simp] theorem bank_endSegPlay (id : Nat) : bank (endSegPlay id s) = bank s := by
  simp only [endSegPlay]; split <;> simp
@[simp] theorem bank_addDoubleErrors (id k : Nat) : bank (addDoubleErrors id k s) = bank s := rfl
@[simp] theorem bank_markDamaged (id o : Nat) : bank (markDamaged id o s) = bank s := by
  unfold markDamaged; split <;> simp
@[simp] theorem bank_removeReplacement (id : Nat) : bank (removeReplacement id s) = bank s := by
  unfold removeReplacement; split <;> simp
@[simp] theorem bank_dropReplacement (id : Nat) : bank (dropReplacement id s) = bank s := by
  unfold dropReplacement; split <;> simp
@[simp] theorem bank_rejectTarget (v : Target) (m : Bool) : bank (rejectTarget v m s) = bank s := by
  unfold rejectTarget emptyDescriptor; split <;> simp
@[simp] theorem bank_readyTarget (v : Target) : bank (readyTarget v s) = bank s := by
  simp only [readyTarget]
  split
  · split
    · simp
    · split <;> simp
  · simp

@[simp] theorem bank_countMemoryErrors (cs : List Nat) : bank (countMemoryErrors cs s) = bank s := by
  unfold countMemoryErrors; split <;> rfl
@[simp] theorem bank_reportCapture (i o : Nat) : bank (reportCapture i o s) = bank s := by
  unfold reportCapture
  split
  · rfl
  · split
    · rfl
    · exact bank_raiseEvent _ _ _
@[simp] theorem bank_closeRecord (e : Bool) : bank (closeRecord e s) = bank s := by rw [closeRecord_eq]; rfl
@[simp] theorem bank_countFrame : bank (countFrame s) = bank s := by
  unfold countFrame
  split
  · rfl
  · split <;> rfl

@[simp] theorem bank_endPlay (a b : Bool) : bank (endPlay a b s) = bank s := by
  by_cases hp : ∃ p, s.pipeline.params = some (.play p)
  · obtain ⟨p, hp⟩ := hp
    have hsum : bank (withoutPlay (summarized p a b s)) = bank (endSegPlay p.seg (withdrawReads .play s)) := by
      rw [summarized, closeSummary_eq]
      rfl
    rw [endPlay_play a b hp, closeCapture_eq]
    exact (hsum.trans (bank_endSegPlay _)).trans rfl
  · rw [endPlay_noPlay a b fun p h => hp ⟨p, h⟩]

/-! ## Entry ends and joins (R59 to R61) -/

@[simp] theorem bank_seek (fuel i : Nat) : bank (seek fuel i s).2 = bank s := by
  induction fuel generalizing i s with
  | zero => rfl
  | succ n ih =>
    unfold seek
    split
    · simp [ih]
    · rw [ih]; rfl
    · rfl

section Sequencer
variable (hj : j ≠ 35)
include hj

theorem undisturbed_proceed (h : Undisturbed j s t) : Undisturbed j s (proceed t) :=
  h.trans ((faultMoves_undisturbed j).proceed hj.symm t)

theorem undisturbed_endEntry (p : PlayParams) (h : Undisturbed j s t) : Undisturbed j s (endEntry p t) :=
  undisturbed_proceed hj (h.of_eq (u := leaveEntry _ (endPlay false false t)) (bank_endPlay false false))

theorem undisturbed_makeJoin (i id : Nat) (h : Undisturbed j s t) : Undisturbed j s (makeJoin i id t) :=
  undisturbed_proceed hj (h.of_eq (Eq.trans rfl (bank_endPlay false true)))

theorem undisturbed_failJoin (p : PlayParams) (i : Nat) (h : Undisturbed j s t) : Undisturbed j s (failJoin p i t) := by
  simp only [failJoin]
  split
  · exact undisturbed_endEntry hj _ (h.of_eq rfl)
  · exact h.of_eq rfl

theorem undisturbed_join (p : PlayParams) (h : Undisturbed j s t) : Undisturbed j s (join p t) := by
  have hseek : Undisturbed j s (seek advanceFuel (t.sequencer.cursor + 1) (carryLookahead t)).2 :=
    h.of_eq ((bank_seek _ _).trans rfl)
  simp only [join]
  split
  · split
    · exact undisturbed_makeJoin hj _ _ hseek
    · exact undisturbed_failJoin hj _ _ hseek
  · exact undisturbed_failJoin hj _ _ hseek

theorem undisturbed_lastDriveFrame (p : PlayParams) (h : Undisturbed j s t) : Undisturbed j s (lastDriveFrame p t) := by
  unfold lastDriveFrame
  split
  · exact undisturbed_join hj p h
  · split
    · exact undisturbed_endEntry hj p (h.of_eq rfl)
    · exact h.of_eq rfl

theorem undisturbed_endDwell (h : Undisturbed j s t) : Undisturbed j s (endDwell t) :=
  undisturbed_proceed hj (h.of_eq rfl)

/-! ## The reports (R71) -/

theorem undisturbed_reportSequencer (k : FrameKind) (h : Undisturbed j s t) :
    Undisturbed j s (reportSequencer k t) := by
  unfold reportSequencer
  split
  · simp only
    split
    · exact undisturbed_lastDriveFrame hj _ (h.of_eq rfl)
    · exact h.of_eq rfl
  · split
    · exact undisturbed_endEntry hj _ h
    · exact h
  · simp only
    split
    · exact undisturbed_endDwell hj (h.of_eq rfl)
    · exact h.of_eq rfl
  · exact h

omit hj in
/-- R101, R102: an arrival may end with the pressure's fall. -/
theorem undisturbed_parkArrival (h : Undisturbed j s t) : Undisturbed j s (parkArrival t) := by
  have hstopped (e : EventKind) (v : Nat) (u : State) : bank (raiseEvent e t.sequencer.cursor v (enterStopped u)) = bank u :=
    (bank_raiseEvent _ _ _).trans rfl
  have hdelay : Undisturbed j s (endUnloadDelay t) :=
    (h.trans ((faultMoves_undisturbed j).fall t)).of_eq ((bank_raiseEvent _ _ _).trans rfl)
  unfold parkArrival
  split
  · exact h.of_eq (hstopped _ _ _)
  · split
    · split
      · split
        · exact hdelay
        · exact h.of_eq rfl
      · exact h.of_eq (hstopped _ _ _)
    · exact h
  · exact h

theorem undisturbed_reportRun (k : FrameKind) (was : RunState) (i : Nat) (h : Undisturbed j s t) :
    Undisturbed j s (reportRun k was i t) := by
  have hpark : Undisturbed j s (if k = .park ∧ allAt ChannelRec.park t then parkArrival t else t) := by
    split
    · exact undisturbed_parkArrival h
    · exact h
  unfold reportRun
  split
  · split
    · split
      · exact h.trans ((faultMoves_undisturbed j).enterRunning hj.symm t)
      · exact h.of_eq rfl
    · exact h
  · split
    · exact h.of_eq rfl
    · exact h
  · exact hpark
  · exact hpark
  · exact h

/-- R68, R71: a frame and its reports. -/
theorem undisturbed_giveFrame (h : Undisturbed j s t) : Undisturbed j s (giveFrame t) := by
  have hlatch (u : State) : bank (latchSnapshot u) = bank u := by rw [latchSnapshot_eq]; rfl
  have hevidence (k : FrameKind) (u : State) : bank (reportEvidence k u) = bank u := by rw [reportEvidence_eq]; rfl
  by_cases ha : t.config.mode = .active
  · rw [giveFrame_active ha]
    refine undisturbed_reportRun hj _ _ _ (undisturbed_reportSequencer hj _ (h.of_eq ?_))
    rw [hevidence, hlatch]
    rfl
  · refine h.of_eq ?_
    simp only [giveFrame, isActive, ha, decide_false, Bool.false_eq_true, if_false, hlatch]
    rfl

end Sequencer

/-! ## Completions (R12) -/

section Completions
variable (hj : j ≠ 35) (hmem : j ≠ 36)
include hj

theorem undisturbed_recheckMissing (id : Nat) (h : Undisturbed j s t) : Undisturbed j s (recheckMissing id t) := by
  unfold recheckMissing
  split
  · split
    · split
      · exact h.trans ((faultMoves_undisturbed j).faultEnd hj.symm hj.symm t)
      · exact h
    · exact h
  · exact h

theorem undisturbed_verifyRead (o : ReadOutcome) (v : List Sample) (h : Undisturbed j s t) :
    Undisturbed j s (verifyRead o v t) := by
  unfold verifyRead
  split
  · exact h
  · split
    · exact undisturbed_recheckMissing hj _ (h.of_eq (bank_rejectTarget _ _))
    · simp only
      split
      · split
        · exact undisturbed_recheckMissing hj _ (h.of_eq (bank_readyTarget _))
        · exact undisturbed_recheckMissing hj _ (h.of_eq (bank_rejectTarget _ _))
      · exact h.of_eq rfl

theorem undisturbed_captureWritten (lost : Bool) (h : Undisturbed j s t) : Undisturbed j s (captureWritten lost t) := by
  unfold captureWritten
  split
  · exact h
  · next op rest _ =>
    have hrest {u : State} (hu : bank u = bank t) : Undisturbed j s
        (if rest.isEmpty then
          if (countFrame u).capture.closing then proceed (closeRecord false (countFrame u)) else countFrame u
        else u) := by
      split
      · split
        · exact undisturbed_proceed hj (h.of_eq (by simp [hu]))
        · exact h.of_eq (bank_countFrame.trans hu)
      · exact h.of_eq hu
    simp only
    refine hrest ?_
    split
    · exact (bank_reportCapture _ _).trans rfl
    · rfl

omit hj in
theorem bank_setPrefetch (q : Prefetch) (s : State) : bank (setPrefetch q s) = bank s := by
  unfold setPrefetch; split <;> rfl

omit hj in
theorem bank_prefetchRead (i : Nat) (o : ReadOutcome) (v : List Sample) : bank (prefetchRead i o v s) = bank s := by
  unfold prefetchRead
  split
  · simp only
    split
    · split <;> simp [bank_setPrefetch]
    · exact bank_setPrefetch _ s
  · rfl

omit hj in
theorem bank_captureReadDone (i : Nat) (o : ReadOutcome) (v : List Sample) : bank (captureReadDone i o v s) = bank s := by
  have hfinish (a : CaptureJob) (u : State) : bank (finishCaptureRead a u) = bank u := by
    unfold finishCaptureRead; split <;> simp
  unfold captureReadDone
  split
  · rw [hfinish]
    split
    · exact bank_reportCapture _ _
    · rfl
  · rfl

omit hj in
theorem bank_segDataWritten (lost : Bool) : bank (segDataWritten lost s) = bank s := by
  unfold segDataWritten
  split
  · split
    · simp
    · split <;> simp
  · rfl

theorem undisturbed_deliverWrite (r : Requestor) (lost : Bool) (h : Undisturbed j s t) :
    Undisturbed j s (deliverWrite r lost t) := by
  cases r with
  | capture => exact undisturbed_captureWritten hj lost h
  | link => exact h.of_eq (bank_segDataWritten lost)
  | playback => exact h
  | scrub => exact h

include hmem

theorem undisturbed_playRead (i : Nat) (o : ReadOutcome) (v : List Sample) (h : Undisturbed j s t) :
    Undisturbed j s (playRead i o v t) := by
  unfold playRead
  split
  · next p _ =>
    have hmark (k : Nat) (cs : List Nat) {u : State} (hu : bank u = bank t) :
        Undisturbed j s (markDamaged p.seg 2 (countMemoryErrors cs (addDoubleErrors p.seg k u))) :=
      h.of_eq (by simp [hu])
    simp only
    split
    · simp only [substitute]
      split
      · exact hmark _ _ rfl
      · refine Undisturbed.trans (hmark _ _ ?_) ((faultMoves_undisturbed j).raise hj.symm hmem.symm _ _)
        rfl
    · exact h.of_eq rfl
  · exact h

theorem undisturbed_deliverRead (i : Nat) (q : ReadPurpose) (o : ReadOutcome) (v : List Sample) (h : Undisturbed j s t) :
    Undisturbed j s (deliverRead i q o v t) := by
  cases q with
  | play => exact undisturbed_playRead hj hmem i o v h
  | prefetch => exact h.of_eq (bank_prefetchRead i o v)
  | verify => exact undisturbed_verifyRead hj o v h
  | captureRead => exact h.of_eq (bank_captureReadDone i o v)

theorem undisturbed_completeGranted (found : ReadOutcome) (h : Undisturbed j s t) :
    Undisturbed j s (completeGranted found t) := by
  have hpage (p : Nat) (u : State) : bank (reportPage p u) = bank u := by unfold reportPage; split <;> simp
  have hsweep (p w : Nat) (u : State) : bank (moveSweep p w u) = bank u := by unfold moveSweep; split <;> rfl
  unfold completeGranted
  split
  · exact h
  · split
    · simp only [completeRead]
      split
      · exact undisturbed_deliverRead hj hmem _ _ _ _ (h.of_eq rfl)
      · exact h.of_eq rfl
    · simp only [completeWrite]
      split <;> exact undisturbed_deliverWrite hj _ _ (h.of_eq rfl)
    · simp only [completeScrub]
      split
      · exact h.of_eq ((hpage _ _).trans ((hsweep _ _ _).trans rfl))
      · exact h.of_eq ((hsweep _ _ _).trans rfl)

/-- R12: what a boundary waits for completes. -/
theorem undisturbed_drain (fuel : Nat) (h : Undisturbed j s t) : Undisturbed j s (drain fuel t) := by
  induction fuel generalizing t with
  | zero => exact h
  | succ n ih =>
    unfold drain
    split
    · exact ih ((undisturbed_completeGranted hj hmem .clean (h.of_eq bank_settle)).of_eq bank_settle)
    · exact h

end Completions

end Sys2Proof.Machine
end

section
/-! PROOF. The parts of the device that a frame boundary sets or leaves alone, whichever of its miss and its frame comes
first (R114 to R120), and what it does to a monitor and its fault source. -/

namespace Sys2Proof.Machine

variable {s t u : State} {j : Nat} {missFirst : Bool}

/-! ## The kept parts -/

theorem keptParts.trans (h : keptParts s t) (h' : keptParts t u) : keptParts s u := by
  obtain ⟨hl, ht, hr, hc, hp, hs⟩ := h
  obtain ⟨hl', ht', hr', hc', hp', hs'⟩ := h'
  exact ⟨hl'.trans hl, ht'.trans ht, hr'.trans hr, hc'.trans hc, hp'.trans hp, hs'.trans hs⟩

theorem keptParts_of_outer (h : outer t = outer s) : keptParts s t := by
  obtain ⟨hlife, -, -, htime, -, hrig, hconfig, hpermit, hsup, -⟩ := outer_parts h
  exact ⟨hlife, htime, hrig, hconfig, hpermit, hsup⟩

/-- What changes the rig link alike in two states changes nothing else of what is kept. -/
theorem keptParts.withRig (f : RigLink → RigLink) (h : keptParts s t) :
    keptParts { s with rig := f s.rig } { t with rig := f t.rig } := by
  obtain ⟨hl, ht, hr, hc, hp, hs⟩ := h
  exact ⟨hl, ht, congrArg f hr, hc, hp, hs⟩

theorem keptParts.isActive (h : keptParts s t) : isActive t = isActive s := by
  obtain ⟨-, -, -, hconfig, -⟩ := h
  rw [Machine.isActive, hconfig, Machine.isActive]

theorem keptParts_completeGranted (found : ReadOutcome) (s : State) : keptParts s (completeGranted found s) := by
  unfold completeGranted
  split
  · exact ⟨rfl, rfl, rfl, rfl, rfl, rfl⟩
  · split
    · exact (completeRead_kept _ _ _ _ _ s).2
    · exact (completeWrite_kept _ _ _ _ s).2
    · exact (completeScrub_kept _ _ _ s).2

/-- R12: what a boundary waits for leaves the kept parts alone. -/
theorem keptParts_drain (fuel : Nat) (s : State) : keptParts s (drain fuel s) := by
  have hsettle (u : State) : keptParts u (settle u) := keptParts_settle ⟨rfl, rfl, rfl, rfl, rfl, rfl⟩
  induction fuel generalizing s with
  | zero => exact ⟨rfl, rfl, rfl, rfl, rfl, rfl⟩
  | succ n ih =>
    unfold drain
    split
    · exact (((hsettle s).trans (keptParts_completeGranted .clean _)).trans (hsettle _)).trans (ih _)
    · exact ⟨rfl, rfl, rfl, rfl, rfl, rfl⟩

theorem outer_reportSequencer (k : FrameKind) (s : State) : outer (reportSequencer k s) = outer s := by
  unfold reportSequencer
  split
  · simp only
    split
    · rw [outer_lastDriveFrame]; rfl
    · rfl
  · split
    · exact outer_endEntry _
    · rfl
  · simp only
    split
    · rw [outer_endDwell]; rfl
    · rfl
  · rfl

theorem outer_reportRun (k : FrameKind) (was : RunState) (i : Nat) (s : State) : outer (reportRun k was i s) = outer s := by
  have hpark : outer (if k = .park ∧ allAt ChannelRec.park s then parkArrival s else s) = outer s := by
    split
    · rw [parkArrival_frame]; rfl
    · rfl
  unfold reportRun
  split
  · split
    · split
      · exact outer_enterRunning
      · rfl
    · rfl
  · split <;> rfl
  · exact hpark
  · exact hpark
  · rfl

/-! ## The frame (R68, R117) -/

/-- R68: the state in which a frame is sent: formed in ACTIVE, as it stands outside. -/
def frameFormed (s : State) : State := if isActive s then formFrame s else s

theorem keptParts_frameFormed (s : State) : keptParts s (frameFormed s) := by
  unfold frameFormed
  split <;> exact ⟨rfl, rfl, rfl, rfl, rfl, rfl⟩

/-- R71, R117, R197: a frame is sent; its snapshot and its reports leave the kept parts alone. -/
theorem keptParts_giveFrame (s : State) : keptParts (sendFrame (frameFormed s)) (giveFrame s) := by
  have hlatch (u : State) : keptParts u (latchSnapshot u) := by
    rw [latchSnapshot_eq]
    exact ⟨rfl, rfl, rfl, rfl, rfl, rfl⟩
  have hevidence (k : FrameKind) (u : State) : keptParts u (reportEvidence k u) := by
    rw [reportEvidence_eq]
    exact ⟨rfl, rfl, rfl, rfl, rfl, rfl⟩
  unfold giveFrame frameFormed
  split
  · exact (((hlatch _).trans (hevidence _ _)).trans (keptParts_of_outer (outer_reportSequencer _ _))).trans
      (keptParts_of_outer (outer_reportRun _ _ _ _))
  · exact hlatch _

/-! ## The miss (R120) -/

/-- R120: the miss count after a window has closed, `w` being the one that was missed, if one was. -/
def missCount (w : Option Window) (n : Byte) : Byte := if w.isSome then satInc n else n

/-- R120: a miss counts; its delivery and its check leave the outer parts alone. -/
theorem outer_missOf (w : Option Window) (s : State) :
    outer (missOf w s) = outer { s with rig := { s.rig with misses := missCount w s.rig.misses } } := by
  cases w with
  | none => rfl
  | some w =>
    obtain ⟨hdeliver, -⟩ := outer_deliver { s with rig := { s.rig with misses := satInc s.rig.misses } }
    exact (faultMoves_outer.rigLinkCheck trivial trivial w _).1.trans hdeliver

/-! ## The boundary (R114 to R120) -/

/-- R114, R118: the state in which a boundary has counted and opened its window. -/
def boundaryBegun (s : State) : State := openWindow (tick (drain drainFuel s))

/-- R117, R120: the state in which a boundary forms its frame. -/
def frameState (missFirst : Bool) (s : State) : State :=
  if missFirst then drain drainFuel (missOf (missedWindow s) (boundaryBegun s)) else boundaryBegun s

theorem boundary_missFirst (s : State) : boundary true s = boundaryLeft (giveFrame (frameState true s)) := by
  simp only [boundary, frameState, boundaryBegun, boundaryLeft, if_true]

theorem boundary_frameThenMiss (s : State) :
    boundary false s = boundaryLeft (missOf (missedWindow s) (giveFrame (frameState false s))) := by
  simp only [boundary, frameState, boundaryBegun, boundaryLeft, Bool.false_eq_true, if_false]

/-- R118: the window that a boundary opens. -/
def nextWindow (s : State) : Window :=
  { frame := (s.timebase.counter + 1).setWidth 16, bytes := [], corrupt := false, good := false
    inStay := decide (s.config.mode = .active) }

/-- R114, R115, R118: a boundary counts, takes the rate code and opens the next window. -/
theorem keptParts_boundaryBegun (s : State) :
    keptParts { tick s with rig := { s.rig with window := some (nextWindow s) } } (boundaryBegun s) := by
  obtain ⟨hl, ht, hr, hc, hp, hs⟩ := keptParts_drain drainFuel s
  refine ⟨hl, ?_, ?_, hc, hp, hs⟩
  · simp only [boundaryBegun, openWindow, tick, ht]
  · simp only [boundaryBegun, openWindow, tick, ht, hr, isActive, hc, nextWindow]

/-- The state that has what a boundary sets: the counter and the rate code, the window, the miss count and the frame. -/
def boundarySet (frame : List Byte) (s : State) : State :=
  { tick s with rig := { s.rig with
      window := some (nextWindow s), misses := missCount (missedWindow s) s.rig.misses, sent := frame } }

theorem keptParts_boundaryLeft (s : State) : keptParts s (boundaryLeft s) := by
  rw [boundaryLeft_frame]
  exact ⟨rfl, rfl, rfl, rfl, rfl, rfl⟩

theorem keptParts_frameState (missFirst : Bool) (s : State) : keptParts
    { tick s with rig := { s.rig with
        window := some (nextWindow s)
        misses := if missFirst then missCount (missedWindow s) s.rig.misses else s.rig.misses } }
    (frameState missFirst s) := by
  cases missFirst
  · exact keptParts_boundaryBegun s
  · exact (((keptParts_boundaryBegun s).withRig fun r => { r with misses := missCount (missedWindow s) r.misses }).trans
      (keptParts_of_outer (outer_missOf _ _))).trans (keptParts_drain _ _)

/-- R114 to R120: what a boundary sets and leaves alone, whichever of its miss and its frame comes first. -/
theorem keptParts_boundary (missFirst : Bool) (s : State) :
    keptParts (boundarySet (setpointFrame (frameFormed (frameState missFirst s))) s) (boundary missFirst s) := by
  have hstate := keptParts_frameState missFirst s
  have hsent := (((hstate.trans (keptParts_frameFormed _)).withRig
    fun r => { r with sent := setpointFrame (frameFormed (frameState missFirst s)) }).trans (keptParts_giveFrame _))
  cases missFirst
  · exact ((hsent.withRig fun r => { r with misses := missCount (missedWindow s) r.misses }).trans
      (keptParts_of_outer (outer_missOf _ _))).trans (keptParts_boundaryLeft _)
  · exact hsent.trans (keptParts_boundaryLeft _)

/-- Nothing being due, a boundary begins on the state as it stands. -/
theorem boundaryBegun_of_nothingDue (hd : nothingDue s) : boundaryBegun s = openWindow (tick s) := by
  rw [boundaryBegun, drain_of_nothingDue _ hd]

/-- R120: the state in which a boundary takes its miss. -/
def missState (missFirst : Bool) (s : State) : State :=
  if missFirst then boundaryBegun s else giveFrame (frameState false s)

section Undisturbed
variable (hmissing : j ≠ 35) (hmemory : j ≠ 36)
include hmissing hmemory

theorem undisturbed_missState (missFirst : Bool) (s : State) : Undisturbed j s (missState missFirst s) := by
  have hbegun : Undisturbed j s (boundaryBegun s) :=
    (undisturbed_drain hmissing hmemory drainFuel (.of_bank rfl)).of_eq rfl
  cases missFirst
  · exact undisturbed_giveFrame hmissing hbegun
  · exact hbegun

/-- R12, R71: what a boundary does once it has taken its miss. -/
theorem undisturbed_afterMiss (missFirst : Bool) (s : State) :
    Undisturbed j (missOf (missedWindow s) (missState missFirst s)) (boundary missFirst s) := by
  have hleft (u : State) : bank (boundaryLeft u) = bank u := by rw [boundaryLeft_frame]; rfl
  cases missFirst
  · rw [boundary_frameThenMiss]
    exact .of_bank (hleft _)
  · rw [boundary_missFirst]
    exact (undisturbed_giveFrame hmissing (undisturbed_drain hmissing hmemory drainFuel (.of_bank rfl))).of_eq (hleft _)

end Undisturbed

end Sys2Proof.Machine
end

section
/-! PROOF. The setpoint frame that a boundary sends (R68, R114 to R118): O48. -/

namespace Sys2Proof.Machine

variable {s t u : State} {c : Nat}

/-! ## The bytes of a frame (R117) -/

theorem length_le16 (v : BitVec 16) : (le16 v).length = 2 := rfl

theorem length_setpointFrame (s : State) : (setpointFrame s).length = 40 := by
  have hpoints : ((List.range 16).flatMap fun c => le16 (BitVec.ofInt 16 (sentSetpoint s c))).length = 32 := by
    simp [List.length_flatMap, length_le16]
  simp only [setpointFrame, withCrc, frameBody, List.length_append, length_le16, hpoints, List.length_cons, List.length_nil]

theorem take_setpointFrame (s : State) : (setpointFrame s).take 2 = le16 (s.timebase.counter.setWidth 16) := rfl

/-- R117: a flag is set for each channel listed. -/
theorem getLsbD_foldl_flags (l : List Nat) (m : BitVec 16) (hc : c < 16) :
    (l.foldl (fun m d => m ||| (1#16 <<< d)) m).getLsbD c = (m.getLsbD c || decide (c ∈ l)) := by
  have hone (d : Nat) : (1#16 <<< d).getLsbD c = decide (c = d) := by
    rw [BitVec.getLsbD_shiftLeft, BitVec.getLsbD_one, Bool.eq_iff_iff]
    simp only [Bool.and_eq_true, decide_eq_true_eq, Bool.not_eq_true', decide_eq_false_iff_not]
    omega
  induction l generalizing m with
  | nil => simp
  | cons d l ih => simp only [List.foldl_cons, ih, BitVec.getLsbD_or, hone, Bool.or_assoc, List.mem_cons, Bool.decide_or]

theorem enabled_iff (hc : c < 16) : enabled s c = true ↔ (channelRec s c).enabled = 1 := by simp [enabled, hc]

/-- R117: the enabled flags are those of the channels enabled in the active image. -/
theorem enabledFlags_iff (hc : c < 16) : (enabledFlags s).getLsbD c = true ↔ (channelRec s c).enabled = 1 := by
  rw [enabledFlags, getLsbD_foldl_flags _ _ hc, ← enabled_iff hc]
  simp [enabledChannels, hc]

/-- R117: in ACTIVE a frame carries the run-state code and the pressure flag. -/
theorem frameBody_active (ha : isActive s = true) : frameBody s =
    le16 (s.timebase.counter.setWidth 16) ++ [runCode s.run.state, if s.run.pressure = .high then 1 else 0] ++
      le16 (enabledFlags s) ++ (List.range 16).flatMap (fun c => le16 (BitVec.ofInt 16 (sentSetpoint s c))) := by
  simp only [frameBody, ha, if_true, true_and]

/-- R117: outside ACTIVE, with no image, every field but the number is 0. -/
theorem frameBody_inactive (ha : isActive s = false) (himage : s.config.active = none) : frameBody s =
    le16 (s.timebase.counter.setWidth 16) ++ List.replicate 36 0 := by
  have hdisabled (c : Nat) : enabled s c = false := by
    simp only [enabled, channelRec, himage, Bool.and_eq_false_imp]
    exact fun _ => rfl
  have hnone : enabledChannels s = [] := List.filter_eq_nil_iff.2 fun c _ => by simp [hdisabled]
  have hflags : enabledFlags s = 0 := by rw [enabledFlags, hnone, List.foldl_nil]
  have hpoints (c : Nat) : sentSetpoint s c = 0 := by
    rw [sentSetpoint, hdisabled]
    rfl
  simp only [frameBody, ha, hflags, hpoints, Bool.false_eq_true, false_and, if_false, List.append_assoc]
  rfl

/-! ## The setpoints of a frame (R68, R70) -/

/-- R68: in ACTIVE a frame gives every enabled channel a setpoint. -/
theorem previous_formFrame (hc : c < 16) (hen : (channelRec s c).enabled = 1) :
    ∃ y, (tget (formFrame s).pipeline.channels c).previous = some y := by
  have henabled := (enabled_iff hc).2 hen
  rw [formFrame_channel hc]
  rcases hp : (tget s.pipeline.channels c).previous with _ | y
  · exact ⟨_, formChannel_first henabled hp⟩
  · exact ⟨_, formChannel_next henabled hp⟩

/-- R69, R70: a FROZEN run's frame holds every setpoint. -/
theorem previous_formFrame_frozen {y : Int} (hf : s.run.state = .frozen) (hc : c < 16)
    (hy : (tget s.pipeline.channels c).previous = some y) :
    (tget (formFrame s).pipeline.channels c).previous = some y := by
  have hkind : frameKind s = .held := by rw [frameKind, hf]
  rw [formFrame_channel hc, hkind]
  rcases hen : enabled s c
  · rw [formChannel_disabled hen, hy]
  · rw [formChannel_next hen hy, formedSetpoint, if_pos rfl]

/-- R117: what a frame carries for a channel. -/
theorem sentSetpoint_formFrame (hc : c < 16) :
    ((channelRec s c).enabled = 1 → (tget (formFrame s).pipeline.channels c).previous =
      some (sentSetpoint (formFrame s) c)) ∧
    ((channelRec s c).enabled ≠ 1 → sentSetpoint (formFrame s) c = 0) := by
  refine ⟨fun hen => ?_, fun hdis => ?_⟩
  · obtain ⟨y, hy⟩ := previous_formFrame hc hen
    have henabled : enabled (formFrame s) c = true := (enabled_iff hc).2 hen
    rw [sentSetpoint, if_pos henabled, hy]
    rfl
  · exact if_neg fun h => hdis ((enabled_iff (s := formFrame s) hc).1 h)

/-! ## The state in which the frame is formed -/

/-- R68, R120: nothing but the forming of its frame moves the setpoints at a boundary. -/
theorem sparesDrive_frameState (missFirst : Bool) (s : State) : sparesDrive s (frameState missFirst s) := by
  have hbegun : sparesDrive s (boundaryBegun s) := (sparesDrive_drain drainFuel sparesDrive_refl).of_driving rfl
  cases missFirst
  · exact hbegun
  · exact sparesDrive_drain _ (sparesDrive_missOf _ hbegun)

theorem sparesDrive_boundary (missFirst : Bool) (ha : s.config.mode = .active) :
    sparesDrive (formFrame (frameState missFirst s)) (boundary missFirst s) := by
  have hleft (u : State) : driving (boundaryLeft u) = driving u := by rw [boundaryLeft_frame]; rfl
  have hmode : (frameState missFirst s).config.mode = .active :=
    (sparesDrive_frameState missFirst s).config.2.1.trans ha
  have hframe := sparesDrive_giveFrame_active hmode
  cases missFirst
  · rw [boundary_frameThenMiss]
    exact (sparesDrive_missOf _ hframe).of_driving (hleft _)
  · rw [boundary_missFirst]
    exact hframe.of_driving (hleft _)

/-- R117: where no operation is due, and the frame comes first or no window was missed, the frame is formed in the state
before the boundary, moved on. -/
theorem frameState_of_nothingDue {missFirst : Bool} (hd : nothingDue s) (hm : missFirst = false ∨ closesNoMiss s) :
    frameState missFirst s = openWindow (tick s) := by
  rw [frameState, boundaryBegun_of_nothingDue hd]
  split
  · next hfirst =>
    have hnone := missedWindow_of_closesNoMiss (hm.resolve_left (by rw [hfirst]; decide))
    have hd' : nothingDue (openWindow (tick s)) := hd
    rw [hnone, missOf, drain_of_nothingDue _ hd']
  · rfl

/-! ## A miss that freezes the run (R121, R138) -/

section Miss
variable {w : Window}

/-- R121: a miss at or above the limit raises RIG_LINK with the missed window's number; an active one is left as it is. -/
theorem source_rigLinkCheck (ha : s.config.mode = .active) (hl : (general s).missLimit.toNat ≤ s.rig.misses.toNat)
    (hw : w.inStay = true ∨ Config.commitWindowChecked = true) : source (rigLinkCheck w s) 33 =
      if (source s 33).active = true then source s 33 else raisedEntry 33 w.frame.toNat s := by
  rw [rigLinkCheck, if_pos ⟨decide_eq_true ha, hl, hw⟩]
  exact source_raise (by omega) (by omega) _ ha

/-- R121: elsewhere the check leaves the state alone. -/
theorem rigLinkCheck_none (h : s.config.mode ≠ .active ∨ s.rig.misses.toNat < (general s).missLimit.toNat) :
    rigLinkCheck w s = s := by
  refine if_neg fun ⟨ha, hl, _⟩ => ?_
  rcases h with h | h
  · exact h (of_decide_eq_true ha)
  · omega

/-- R120, R121: what a miss in ACTIVE at or above the limit makes of RIG_LINK. -/
theorem source_takeMiss (ha : s.config.mode = .active)
    (hl : (general s).missLimit.toNat ≤ (satInc s.rig.misses).toNat)
    (hw : w.inStay = true ∨ Config.commitWindowChecked = true) : source (takeMiss w s) 33 =
      if (source s 33).active = true then source s 33 else raisedEntry 33 w.frame.toNat s := by
  obtain ⟨x, hx⟩ : ∃ x, deliver { s with rig := { s.rig with misses := satInc s.rig.misses } } = x := ⟨_, rfl⟩
  have hsource : source x 33 = source s 33 := by
    rw [← hx]
    exact (undisturbed_deliver (j := 33) (by omega) (by omega) _).source
  obtain ⟨houter, -⟩ := outer_deliver { s with rig := { s.rig with misses := satInc s.rig.misses } }
  obtain ⟨-, -, -, -, -, hrig, hconfig, -⟩ := outer_parts (hx ▸ houter)
  have hgeneral : general x = general s := by rw [general, hconfig, general]
  have htake : takeMiss w s = rigLinkCheck w x := by rw [← hx]; rfl
  rw [htake, source_rigLinkCheck (by rw [hconfig]; exact ha) (by rw [hgeneral, hrig]; exact hl) hw, hsource, raisedEntry,
    raisedEntry, hsource]

/-- R104, R121, R138: a miss that raises RIG_LINK of class TRIP freezes the run. -/
theorem takeMiss_freezes (ha : s.config.mode = .active)
    (hl : (general s).missLimit.toNat ≤ (satInc s.rig.misses).toNat)
    (hw : w.inStay = true ∨ Config.commitWindowChecked = true) (hi : (source s 33).active = false)
    (hc : (source s 33).cls = .trip) (hseen : tripSeen s) (hsound : frozenSound s) (htrip : tripLaw s = true) :
    (takeMiss w s).run.state = .frozen := by
  have hfollows : Follows s (takeMiss w s) := follows_missOf (some w) s
  have hsource := source_takeMiss ha hl hw
  rw [if_neg (by rw [hi]; nofun)] at hsource
  have hheld : tripHeld (takeMiss w s) = true :=
    tripHeld_iff.2 ⟨33, by omega, by rw [hsource, raisedEntry], (congrArg FaultEntry.cls hsource).trans hc⟩
  exact hfollows.tripped hseen hsound (of_decide_eq_true htrip) (hfollows.seen hseen hheld)

end Miss

/-! ## What a boundary sends -/

section Boundary
variable {missFirst : Bool}

/-- R114, R117: the frame formed carries the new number; it is formed under the configuration that stands. -/
theorem frameFormed_parts (missFirst : Bool) (s : State) :
    (frameFormed (frameState missFirst s)).timebase.counter = s.timebase.counter + 1 ∧
      (frameFormed (frameState missFirst s)).config = s.config := by
  obtain ⟨-, htime, -, hconfig, -⟩ := (keptParts_frameState missFirst s).trans (keptParts_frameFormed _)
  exact ⟨congrArg Timebase.counter htime, hconfig⟩

/-- R114, R115, R117, R118: what every boundary sets and leaves alone. -/
theorem boundary_begins (missFirst : Bool) (s : State) :
    let t := boundary missFirst s
    t.timebase.counter = s.timebase.counter + 1 ∧ t.timebase.rate = s.timebase.nextRate ∧ t.life = s.life ∧
      t.config = s.config ∧ t.permit = s.permit ∧ t.supervisor = s.supervisor ∧ t.rig.window = some (nextWindow s) ∧
      t.rig.sent = setpointFrame (frameFormed (frameState missFirst s)) := by
  obtain ⟨hlife, htime, hrig, hconfig, hpermit, hsup⟩ := keptParts_boundary missFirst s
  exact ⟨congrArg Timebase.counter htime, congrArg Timebase.rate htime, hlife, hconfig, hpermit, hsup,
    congrArg RigLink.window hrig, congrArg RigLink.sent hrig⟩

/-- R117: outside ACTIVE, with no image, a boundary sends the number of its frame only. -/
theorem sent_inactive (ha : s.config.mode ≠ .active) (himage : s.config.active = none) :
    setpointFrame (frameFormed (frameState missFirst s)) =
      withCrc (le16 ((s.timebase.counter + 1).setWidth 16) ++ List.replicate 36 0) := by
  obtain ⟨hcounter, hconfig⟩ := frameFormed_parts missFirst s
  have hinactive : isActive (frameFormed (frameState missFirst s)) = false := by rw [isActive, hconfig, decide_eq_false ha]
  rw [setpointFrame, frameBody_inactive hinactive (by rw [hconfig, himage]), hcounter]

/-- R68, R117: in ACTIVE a boundary sends code, flag, enabled flags and setpoints of the frame it forms. -/
theorem sent_active (ha : s.config.mode = .active) :
    let u := frameState missFirst s
    setpointFrame (frameFormed u) = withCrc (le16 ((s.timebase.counter + 1).setWidth 16) ++
      [runCode u.run.state, if u.run.pressure = .high then 1 else 0] ++ le16 (enabledFlags (formFrame u)) ++
      (List.range 16).flatMap (fun c => le16 (BitVec.ofInt 16 (sentSetpoint (formFrame u) c)))) := by
  intro u
  obtain ⟨hcounter, hconfig⟩ := frameFormed_parts missFirst s
  have hactive : isActive u = true := by
    rw [(keptParts_frameState missFirst s).isActive]
    exact decide_eq_true ha
  have hformed : frameFormed u = formFrame u := if_pos hactive
  rw [setpointFrame, frameBody_active (by rw [isActive, hconfig, decide_eq_true ha]), hcounter, hformed]
  rfl

/-- R68, R117: the channels' part of that frame, against the image and the setpoints that stand after the boundary. -/
theorem sent_channels (ha : s.config.mode = .active) (hc : c < 16) :
    let f := formFrame (frameState missFirst s)
    ((enabledFlags f).getLsbD c = true ↔ (channelRec s c).enabled = 1) ∧
      ((channelRec s c).enabled = 1 →
        (tget (boundary missFirst s).pipeline.channels c).previous = some (sentSetpoint f c)) ∧
      ((channelRec s c).enabled ≠ 1 → sentSetpoint f c = 0) := by
  intro f
  have hrec : channelRec (frameState missFirst s) c = channelRec s c := (sparesDrive_frameState missFirst s).channelRec c
  obtain ⟨hsent, hzero⟩ := sentSetpoint_formFrame (s := frameState missFirst s) hc
  rw [hrec] at hsent hzero
  refine ⟨(enabledFlags_iff (s := f) hc).trans ?_, fun hen => ?_, hzero⟩
  · rw [← hrec]
    exact Iff.rfl
  · rw [(sparesDrive_boundary missFirst ha).setpoint c]
    exact hsent hen

/-- R104, R117, R121: a miss taken first that raises RIG_LINK of class TRIP has frozen the run before the frame. -/
theorem frameState_frozen {w : Window} (ha : s.config.mode = .active) (hd : nothingDue s)
    (hwin : s.rig.window = some w) (hgood : w.good = false)
    (hw : w.inStay = true ∨ Config.commitWindowChecked = true)
    (hl : (general s).missLimit.toNat ≤ (satInc s.rig.misses).toNat)
    (hi : (source s 33).active = false) (hc : (source s 33).cls = .trip)
    (haction : actionLaw s = true) (htrip : tripLaw s = true) (hfrozen : frozenLaw s = true) :
    (frameState true s).run.state = .frozen ∧ (frameState true s).run.pressure = .low := by
  have hseen := tripSeen_of_actionLaw haction
  obtain ⟨-, hsound⟩ := frozenLaw_iff.1 hfrozen
  have hstate : frameState true s = drain drainFuel (takeMiss w (openWindow (tick s))) := by
    rw [frameState, boundaryBegun_of_nothingDue hd, missedWindow_eq_some.2 ⟨hwin, hgood⟩]
    rfl
  have hmiss := takeMiss_freezes (s := openWindow (tick s)) (w := w) ha hl hw hi hc hseen hsound htrip
  have hfollows : Follows (openWindow (tick s)) (takeMiss w (openWindow (tick s))) := follows_missOf (some w) _
  have hdrain := follows_drain drainFuel (takeMiss w (openWindow (tick s)))
  have hseen' := hfollows.seen hseen
  have hsound' := hfollows.sound hseen hsound
  have hstays := hdrain.stays hseen' hsound' hmiss
  rw [hstate]
  exact ⟨hstays, (hdrain.sound hseen' hsound' hstays).low⟩

end Boundary

/-- R1, R120: the miss count rises by one and stops at 255. -/
theorem satInc_byte (n : Byte) : satInc n = if n = 255 then 255 else n + 1 := by
  by_cases h : n = 255
  · rw [h]
    rfl
  · rw [if_neg h]
    exact if_neg h

/-- Settles O48: the boundary sets what `keptParts_boundary` says; its frame is the one formed in `frameState`, which nothing
after it moves (`sparesDrive_boundary`), and which a freezing miss leaves FROZEN (`frameState_frozen`). -/
theorem boundaryBeginsFrame : Obligations.BoundaryBeginsFrame := by
  unfold Obligations.BoundaryBeginsFrame
  refine ⟨fun missFirst s hu => ?_, fun missFirst s hu ha => ?_, fun missFirst s hu => if_neg (by simp [isUp, hu])⟩
  · obtain ⟨hcounter, hrate, hlife, hconfig, hpermit, hsup, hwindow, hsent⟩ := boundary_begins missFirst s
    refine ⟨_, exec_frameBoundary missFirst hu, hcounter, hrate, hlife.trans hu, hconfig, hpermit, hsup, hwindow, ?_, ?_,
      fun ha himage => hsent.trans (sent_inactive ha himage)⟩
    · rw [hsent, length_setpointFrame]
    · rw [hsent, take_setpointFrame, (frameFormed_parts missFirst s).1]
  · obtain ⟨-, -, -, -, -, -, -, hsent⟩ := boundary_begins missFirst s
    refine ⟨_, (frameState missFirst s).run.state, (frameState missFirst s).run.pressure,
      enabledFlags (formFrame (frameState missFirst s)), sentSetpoint (formFrame (frameState missFirst s)),
      exec_frameBoundary missFirst hu, hsent.trans (sent_active ha), fun c hc => sent_channels ha hc, fun hd hm => ?_, ?_⟩
    · rw [frameState_of_nothingDue hd hm]
      exact ⟨rfl, rfl⟩
    · rintro w hd rfl hwin hgood hw hl hi hc haction htrip hfrozen
      rw [← satInc_byte] at hl
      obtain ⟨hstate, hlow⟩ := frameState_frozen ha hd hwin hgood hw hl hi hc haction htrip hfrozen
      refine ⟨hstate, hlow, fun c y hc' hy => ?_⟩
      rw [(sparesDrive_boundary true ha).setpoint c]
      exact previous_formFrame_frozen hstate hc' (((sparesDrive_frameState true s).setpoint c).trans hy)

end Sys2Proof.Machine
end

section
/-! PROOF. Responses, their delivery and the servo-ready check; misses, their delivery and the RIG_LINK check (R118 to R122,
R128 to R130): O53. -/

namespace Sys2Proof.Machine

variable {s t u : State} {w : Window} {b : List Byte} {lowStop : Option Nat} {c k : Nat}

/-! ## Bytes in the open window (R118, R119) -/

/-- R118: the open window once bytes have come into it. -/
def joinedWindow (b : List Byte) (lowStop : Option Nat) (w : Window) : Window :=
  { w with
    bytes := (w.bytes ++ b).take 70
    corrupt := w.corrupt || lowWithin lowStop (min b.length (70 - w.bytes.length)) }

theorem lowWithin_iff {n : Nat} : lowWithin lowStop n = true ↔ ∃ i, lowStop = some i ∧ i < n := by
  rcases lowStop with _ | i
  · simp [lowWithin]
  · simp [lowWithin]

/-- R118: a low stop bit spoils the response where its byte is one of the window's 70. -/
theorem joinedWindow_corrupt : (joinedWindow b lowStop w).corrupt = true ↔
    w.corrupt = true ∨ ∃ i, lowStop = some i ∧ i < b.length ∧ w.bytes.length + i < 70 := by
  rw [joinedWindow, Bool.or_eq_true, lowWithin_iff]
  refine or_congr_right (exists_congr fun i => and_congr_right fun _ => ?_)
  omega

theorem goodResponse_iff : goodResponse w = true ↔
    ¬ w.corrupt = true ∧ crc16 (w.bytes.take 68) = le16At w.bytes 68 ∧ le16At w.bytes 0 = w.frame := by
  simp only [goodResponse, Bool.and_eq_true, Bool.not_eq_true', decide_eq_true_eq, Bool.not_eq_true, and_assoc]

/-- R119: what makes the bytes so joined a good response. -/
theorem goodResponse_joinedWindow : goodResponse (joinedWindow b lowStop w) = true ↔
    ¬ (w.corrupt = true ∨ ∃ i, lowStop = some i ∧ i < b.length ∧ w.bytes.length + i < 70) ∧
      crc16 (((w.bytes ++ b).take 70).take 68) = le16At ((w.bytes ++ b).take 70) 68 ∧
      le16At ((w.bytes ++ b).take 70) 0 = w.frame := by
  rw [goodResponse_iff, joinedWindow_corrupt]
  rfl

theorem exec_responseFrame (hu : s.life = .up) :
    exec (.responseFrame b lowStop) s = .next (settle (takeBytes b lowStop s)) :=
  if_pos (decide_eq_true hu)

section Open
variable (hw : s.rig.window = some w) (hl : w.bytes.length < 70)
include hw hl

/-- R118, R119: bytes that do not complete a good response join the window, and nothing else changes. -/
theorem takeBytes_joins
    (h : (joinedWindow b lowStop w).bytes.length < 70 ∨ ¬ goodResponse (joinedWindow b lowStop w) = true) :
    takeBytes b lowStop s = { s with rig := { s.rig with window := some (joinedWindow b lowStop w) } } := by
  have hopen : ¬ 70 ≤ w.bytes.length := by omega
  have hno : ¬ ((joinedWindow b lowStop w).bytes.length = 70 ∧ goodResponse (joinedWindow b lowStop w) = true) :=
    fun ⟨hfull, hgood⟩ => h.elim (fun hlt => by omega) (fun hbad => hbad hgood)
  simp only [takeBytes, hw, if_neg hopen]
  exact if_neg hno

/-- R119: the 70th byte of a good response. -/
theorem takeBytes_completes (hfull : (joinedWindow b lowStop w).bytes.length = 70)
    (hgood : goodResponse (joinedWindow b lowStop w) = true) :
    takeBytes b lowStop s = takeResponse (joinedWindow b lowStop w).bytes
      { s with rig := { s.rig with window := some { joinedWindow b lowStop w with good := true } } } := by
  have hopen : ¬ 70 ≤ w.bytes.length := by omega
  simp only [takeBytes, hw, if_neg hopen]
  exact if_pos ⟨hfull, hgood⟩

end Open

/-- R118: with no window open, or its 70 bytes there, bytes are discarded. -/
theorem takeBytes_late (h : s.rig.window = none ∨ s.rig.window = some w ∧ 70 ≤ w.bytes.length) :
    takeBytes b lowStop s = s := by
  rcases h with hw | ⟨hw, hl⟩
  · simp only [takeBytes, hw]
  · simp only [takeBytes, hw, if_pos hl]

/-! ## The servo-ready check (R122) -/

/-- R122: channel `c` is enabled and its servo is not ready. -/
def lacksReady (s : State) (c : Nat) : Prop := (channelRec s c).enabled = 1 ∧ s.rig.ready.getLsbD c = false

/-- R122: when the servo-ready check is made. -/
def checksServo (s : State) : Prop := s.config.mode = .active ∧ s.run.pressure = .high ∧ s.run.grace = .elapsed

theorem lacksReady_iff (hc : c < 16) :
    decide (enabled s c = true ∧ (!s.rig.ready.getLsbD c) = true) = true ↔ lacksReady s c := by
  rw [lacksReady, decide_eq_true_iff, enabled_iff hc, Bool.not_eq_true']

theorem servoCheck_passes (h : ¬ checksServo s ∨ ∀ c, c < 16 → ¬ lacksReady s c) : servoCheck s = s := by
  unfold servoCheck
  split
  · next hchecks =>
    have hnone : (enabledChannels s).find? (fun c => !s.rig.ready.getLsbD c) = none := by
      have hall := h.resolve_left (not_not.2 ⟨of_decide_eq_true hchecks.1, hchecks.2⟩)
      rw [enabledChannels, List.find?_filter, List.find?_eq_none]
      exact fun c hc hlacks => hall c (List.mem_range.1 hc) ((lacksReady_iff (List.mem_range.1 hc)).1 hlacks)
    rw [hnone]
  · rfl

theorem servoCheck_raises (h : checksServo s) (hc : c < 16) (hlacks : lacksReady s c)
    (hleast : ∀ i, i < c → ¬ lacksReady s i) : servoCheck s = raise 32 c s := by
  have hfound : (enabledChannels s).find? (fun c => !s.rig.ready.getLsbD c) = some c := by
    rw [enabledChannels, List.find?_filter, List.find?_range_eq_some]
    refine ⟨(lacksReady_iff hc).2 hlacks, List.mem_range.2 hc, fun i hi => ?_⟩
    rw [Bool.not_eq_true', ← Bool.not_eq_true, lacksReady_iff (hi.trans hc)]
    exact hleast i hi
  unfold servoCheck
  rw [if_pos ⟨decide_eq_true h.1, h.2⟩, hfound]

/-! ## A good response (R119, R122) -/

/-- R119: the device with a good response taken; its values are not delivered yet. -/
def received (all : List Byte) (w : Window) (s : State) : State :=
  { s with rig := { s.rig with
      feedback := tmk 32 (fun c => le16At all (4 + 2 * c)), ready := le16At all 2, misses := 0
      window := some { w with bytes := all, corrupt := false, good := true } } }

section Good
variable (hw : s.rig.window = some w) (hl : w.bytes.length < 70)
  (hfull : ((w.bytes ++ b).take 70).length = 70) (hgood : goodResponse (joinedWindow b lowStop w) = true)
include hw hl hfull hgood

/-- R119, R122: a good response is taken, delivered and checked for servo readiness. -/
theorem takeBytes_good :
    takeBytes b lowStop s = servoCheck (deliver (received ((w.bytes ++ b).take 70) w s)) := by
  have hclean : (joinedWindow b lowStop w).corrupt = false := Bool.eq_false_of_not_eq_true (goodResponse_iff.1 hgood).1
  have hwindow : { joinedWindow b lowStop w with good := true } =
      { w with bytes := (w.bytes ++ b).take 70, corrupt := false, good := true } :=
    congrArg (fun x : Bool => { w with bytes := (w.bytes ++ b).take 70, corrupt := x, good := true }) hclean
  rw [takeBytes_completes hw hl hfull hgood, hwindow]
  rfl

end Good

/-- R119 to R122: what the delivery of a good response and its check leave alone, and where the store may stand. -/
theorem received_outer (all : List Byte) (w : Window) (s : State) :
    let t := servoCheck (deliver (received all w s))
    outer t = outer (received all w s) ∧ (t.store = s.store ∨ t.store = completeInStore s) := by
  obtain ⟨houter, -, hstore⟩ := faultMoves_outer.trans (outer_deliver (received all w s))
    (faultMoves_outer.servoCheck trivial trivial _)
  exact ⟨houter, hstore⟩

/-- R122: SERVO once it is raised with channel `c`. -/
theorem source_servo (ha : s.config.mode = .active) (hi : (source s 32).active = false) :
    (source (raise 32 c s) 32).active = true ∧ (source (raise 32 c s) 32).subject = BitVec.ofNat 16 c := by
  have hraised := source_raise (k := 32) (by omega) (by omega) c ha
  rw [if_neg (by rw [hi]; decide)] at hraised
  rw [hraised]
  exact ⟨rfl, rfl⟩

/-- R122: what a good response makes of the servo-ready check, once it is delivered. -/
theorem servoCheck_received (all : List Byte) (w : Window) (s : State) :
    let d := deliver (received all w s)
    let lacks (c : Nat) : Prop := (channelRec s c).enabled = 1 ∧ (le16At all 2).getLsbD c = false
    let checks := s.config.mode = .active ∧ d.run.pressure = .high ∧ d.run.grace = .elapsed
    ((¬ checks ∨ ∀ c, c < 16 → ¬ lacks c) → servoCheck d = d) ∧
      ∀ c, checks → c < 16 → lacks c → (∀ j, j < c → ¬ lacks j) → servoCheck d = raise 32 c d := by
  intro d lacks checks
  obtain ⟨-, -, -, -, -, hrig, hconfig, -⟩ := outer_parts (outer_deliver (received all w s)).1
  have hchecks : checksServo d ↔ checks := by
    rw [checksServo, hconfig]
    rfl
  have hlacks (c : Nat) : lacksReady d c ↔ lacks c := by
    rw [lacksReady, hrig, channelRec, hconfig]
    rfl
  refine ⟨fun h => servoCheck_passes ?_, fun c hyes hc hlack hleast => ?_⟩
  · exact h.imp (mt hchecks.1) fun hall c hc => mt (hlacks c).1 (hall c hc)
  · exact servoCheck_raises (hchecks.2 hyes) hc ((hlacks c).2 hlack) fun i hi => mt (hlacks i).1 (hleast i hi)

/-- R122: where no monitor evaluates, the check decides alone what becomes of the fault sources. -/
theorem servo_received_idle (all : List Byte) (w : Window)
    (hidle : ∀ k, k < 32 → evaluates s (tget s.monitors k) = false) :
    let t := servoCheck (deliver (received all w s))
    let lacks (c : Nat) : Prop := (channelRec s c).enabled = 1 ∧ (le16At all 2).getLsbD c = false
    let checks := s.config.mode = .active ∧ s.run.pressure = .high ∧ s.run.grace = .elapsed
    (¬ checks ∨ (∀ c, c < 16 → ¬ lacks c) → t.faults = s.faults) ∧
      ∀ c, checks → c < 16 → lacks c → (∀ j, j < c → ¬ lacks j) → (source s 32).active = false →
        (source t 32).active = true ∧ (source t 32).subject = BitVec.ofNat 16 c := by
  intro t lacks checks
  have hd : deliver (received all w s) = received all w s := deliver_idle (s := received all w s) hidle
  obtain ⟨hpass, hraise⟩ := servoCheck_received all w s
  rw [hd] at hpass hraise
  have ht : t = servoCheck (received all w s) := congrArg servoCheck hd
  refine ⟨fun h => ?_, fun c hyes hc hlack hleast hi => ?_⟩
  · rw [ht, hpass h]
    rfl
  · rw [ht, hraise c hyes hc hlack hleast]
    exact source_servo (s := received all w s) hyes.1 hi

/-! ## The miss (R120, R121) -/

/-- R120: a miss has counted; its values are not delivered yet. -/
def missCounted (s : State) : State := { s with rig := { s.rig with misses := satInc s.rig.misses } }

theorem takeMiss_eq (w : Window) (s : State) : takeMiss w s = rigLinkCheck w (deliver (missCounted s)) := rfl

/-- R121: the check of a miss bears on RIG_LINK alone. -/
theorem undisturbed_rigLinkCheck (hk : k < 32) (w : Window) (s : State) : Undisturbed k s (rigLinkCheck w s) :=
  (faultMoves_undisturbed k).rigLinkCheck (by omega) (by omega) w s

/-- R121: a miss outside ACTIVE or below the limit leaves RIG_LINK alone. -/
theorem undisturbed_takeMiss_33
    (h : s.config.mode ≠ .active ∨ (satInc s.rig.misses).toNat < (general s).missLimit.toNat) :
    Undisturbed 33 s (takeMiss w s) := by
  have hdeliver := undisturbed_deliver (j := 33) (by omega) (by omega) (missCounted s)
  obtain ⟨-, -, -, -, -, hrig, hconfig, -⟩ := outer_parts (outer_deliver (missCounted s)).1
  have hgeneral : general (deliver (missCounted s)) = general s := by rw [general, hconfig]; rfl
  rw [takeMiss_eq, rigLinkCheck_none (by rw [hconfig, hrig, hgeneral]; exact h)]
  exact hdeliver.after rfl

/-- R127: whether a monitor evaluates depends on the mode, the pressure and the hold-out set. -/
theorem evaluates_congr (hc : t.config = s.config) (hp : t.run.pressure = s.run.pressure)
    (hh : t.run.holdOut = s.run.holdOut) (m : Monitor) : evaluates t m = evaluates s m := by
  simp only [evaluates, isActive, hc, hp, hh]

/-- The state in which a boundary takes its miss has the configuration and the rig link's values and count of the one
before it. -/
theorem missState_parts (missFirst : Bool) (s : State) : (missState missFirst s).config = s.config ∧
    (missState missFirst s).rig.feedback = s.rig.feedback ∧ (missState missFirst s).rig.misses = s.rig.misses := by
  cases missFirst
  · obtain ⟨-, -, hrig, hconfig, -⟩ := (((keptParts_frameState false s).trans (keptParts_frameFormed _)).withRig
      fun r => { r with sent := setpointFrame (frameFormed (frameState false s)) }).trans (keptParts_giveFrame _)
    exact ⟨hconfig, (congrArg RigLink.feedback hrig).trans rfl, (congrArg RigLink.misses hrig).trans rfl⟩
  · obtain ⟨-, -, hrig, hconfig, -⟩ := keptParts_boundaryBegun s
    exact ⟨hconfig, (congrArg RigLink.feedback hrig).trans rfl, (congrArg RigLink.misses hrig).trans rfl⟩

section Boundary
variable {missFirst : Bool}

/-- R119, R120: the values are kept over a boundary, and the miss count is the one that its window leaves. -/
theorem boundary_counts (missFirst : Bool) (hwin : s.rig.window = some w) :
    (boundary missFirst s).rig.feedback = s.rig.feedback ∧ (boundary missFirst s).rig.ready = s.rig.ready ∧
      (boundary missFirst s).rig.misses =
        if w.good then s.rig.misses else if s.rig.misses = 255 then 255 else s.rig.misses + 1 := by
  obtain ⟨-, -, hrig, -⟩ := keptParts_boundary missFirst s
  refine ⟨(congrArg RigLink.feedback hrig).trans rfl, (congrArg RigLink.ready hrig).trans rfl,
    (congrArg RigLink.misses hrig).trans ?_⟩
  rw [← satInc_byte]
  simp only [boundarySet, missCount, missedWindow, hwin]
  cases w.good <;> rfl

/-- R121: RIG_LINK after a boundary that closes no miss, or one outside ACTIVE or below the limit. -/
theorem source_boundary_unmissed (hwin : s.rig.window = some w)
    (h : w.good = true ∨ s.config.mode ≠ .active ∨ (boundary missFirst s).rig.misses.toNat < (general s).missLimit.toNat) :
    source (boundary missFirst s) 33 = source s 33 := by
  have hbefore := (undisturbed_missState (j := 33) (by omega) (by omega) missFirst s).source
  have hafter := (undisturbed_afterMiss (j := 33) (by omega) (by omega) missFirst s).source
  obtain ⟨hconfig, -, hmisses⟩ := missState_parts missFirst s
  rcases hg : w.good
  · have hcounts := (boundary_counts missFirst hwin).2.2
    rw [hg, if_neg (by decide), ← satInc_byte] at hcounts
    have hlow := h.resolve_left (by rw [hg]; decide)
    rw [hcounts] at hlow
    rw [missedWindow_eq_some.2 ⟨hwin, hg⟩] at hafter
    have hmiss : Undisturbed 33 (missState missFirst s) (takeMiss w (missState missFirst s)) :=
      undisturbed_takeMiss_33 (by rw [general, hconfig, hmisses]; exact hlow)
    exact hafter.trans (hmiss.source.trans hbefore)
  · rw [missedWindow_of_closesNoMiss fun v hv => by rw [hwin] at hv; cases hv; exact hg] at hafter
    exact hafter.trans hbefore

section Missed
variable (hmiss : missedWindow s = some w)
include hmiss

theorem undisturbed_afterTakeMiss (hk : k ≠ 35) (hk' : k ≠ 36) :
    Undisturbed k (takeMiss w (missState missFirst s)) (boundary missFirst s) := by
  have hafter := undisturbed_afterMiss hk hk' missFirst s
  rwa [hmiss] at hafter

/-- R121: RIG_LINK after a miss in ACTIVE at or above the limit. -/
theorem source_boundary_missed (ha : s.config.mode = .active)
    (hl : (general s).missLimit.toNat ≤ (satInc s.rig.misses).toNat)
    (hw : w.inStay = true ∨ Config.commitWindowChecked = true) :
    (source (boundary missFirst s) 33).active = true ∧
      ((source s 33).active = false → (source (boundary missFirst s) 33).subject = w.frame) := by
  have hbefore := (undisturbed_missState (j := 33) (by omega) (by omega) missFirst s).source
  obtain ⟨hconfig, -, hmisses⟩ := missState_parts missFirst s
  have htaken := source_takeMiss (s := missState missFirst s) (w := w) (by rw [hconfig, ha])
    (by rw [general, hconfig, hmisses]; exact hl) hw
  rw [(undisturbed_afterTakeMiss hmiss (k := 33) (by omega) (by omega)).source, htaken, hbefore]
  split
  · next hactive => exact ⟨hactive, fun hi => by rw [hactive] at hi; cases hi⟩
  · exact ⟨rfl, fun _ => (BitVec.ofNat_toNat _ _).trans (BitVec.setWidth_eq _)⟩

section Monitors
variable (hk : k < 32)
include hk

/-- R129, R130: once the miss's values are delivered, the boundary leaves the monitors' sources alone. -/
theorem undisturbed_afterDelivery :
    Undisturbed k (deliver (missCounted (missState missFirst s))) (boundary missFirst s) :=
  (undisturbed_rigLinkCheck hk w _).trans (undisturbed_afterTakeMiss hmiss (by omega) (by omega))

/-- R120, R128: at a miss a monitor that evaluates counts its held value, once; another is left alone. -/
theorem monitor_boundary_missed (ht : (boundary missFirst s).run.pressure = .high) :
    let m := tget s.monitors k
    let after := countValue (tget s.rig.feedback m.record.feedback.toNat) m
    let n := tget (boundary missFirst s).monitors k
    n.record = m.record ∧
      (if evaluates s m = true then n.outside = after.outside ∧ n.inside = after.inside else n = m) := by
  intro m after n
  have hbefore := undisturbed_missState (j := k) (by omega) (by omega) missFirst s
  obtain ⟨hconfig, hfeedback, -⟩ := missState_parts missFirst s
  have hafter := undisturbed_afterDelivery (missFirst := missFirst) hmiss hk
  obtain ⟨hhigh, houtside, hinside⟩ :=
    ((keepsCounts_deliver k (missCounted (missState missFirst s))).trans hafter.toKeepsCounts).of_high ht
  have hhigh' : (missState missFirst s).run.pressure = .high := hhigh
  have hmonitor : tget (missState missFirst s).monitors k = m := hbefore.monitor hhigh'
  have hsame (v : Monitor) : evaluates (missCounted (missState missFirst s)) v = evaluates s v :=
    evaluates_congr hconfig (hhigh'.trans (hbefore.of_high hhigh').1.symm) hbefore.holdOut v
  have hget := monitor_valuesCounted hk (missCounted (missState missFirst s))
  have hvalue : (missCounted (missState missFirst s)).rig.feedback = s.rig.feedback := hfeedback
  have hm : tget (missCounted (missState missFirst s)).monitors k = m := hmonitor
  rw [hm, hsame, hvalue] at hget
  rcases hev : evaluates s m
  · have hidle := undisturbed_deliver_idle (s := missCounted (missState missFirst s)) hk (by rw [hm, hsame, hev])
    have hn : n = m := ((hidle.trans hafter).monitor ht).trans hm
    rw [hn]
    exact ⟨rfl, rfl⟩
  · rw [hev, if_pos rfl] at hget
    rw [hget] at houtside hinside
    have hrecord := ((keepsCounts_deliver k (missCounted (missState missFirst s))).trans hafter.toKeepsCounts).record
    rw [hget] at hrecord
    exact ⟨hrecord.trans (countValue_keeps _ m).1, houtside, hinside⟩

/-- R129, R130: at a miss a monitor trips or ends at its filter count. `u` has the sources, the monitors and what makes them
evaluate as the miss finds them. -/
theorem verdict_boundary_missed (hbank : bank (missState missFirst s) = bank u)
    (hconfig : (missState missFirst s).config = u.config) :
    let m := tget u.monitors k
    let after := countValue (tget s.rig.feedback m.record.feedback.toNat) m
    let t := boundary missFirst s
    evaluates u m = true →
      (m.tripped = false → (source u k).active = false → after.outside = m.record.filter →
        (tget t.monitors k).tripped = true ∧ (source t k).active = true ∧
          (source t k).subject = m.record.feedback.setWidth 16) ∧
      (m.tripped = true → (source u k).active = true → (source u k).latched = false →
        after.inside = m.record.filter → (tget t.monitors k).tripped = false ∧ (source t k).active = false) := by
  intro m after t hev
  obtain ⟨hentries, hmonitors, hpressure, hholdOut⟩ := bank_parts hbank
  obtain ⟨-, hfeedback, -⟩ := missState_parts missFirst s
  have hafter := undisturbed_afterDelivery (missFirst := missFirst) hmiss hk
  obtain ⟨y, hy⟩ : ∃ y, missCounted (missState missFirst s) = y := ⟨_, rfl⟩
  have hm : tget y.monitors k = m := hy ▸ congrArg (tget · k) hmonitors
  have hsource : source y k = source u k := hy ▸ congrArg (tget · k) hentries
  have hvalue : y.rig.feedback = s.rig.feedback := hy ▸ hfeedback
  have hevy : evaluates y (tget y.monitors k) = true := by
    rw [hm, ← hev]
    exact hy ▸ evaluates_congr hconfig hpressure hholdOut m
  have htrips := deliver_trips hk hevy
  have huntrips := deliver_untrips hk hevy
  rw [hm, hsource, hvalue] at htrips huntrips
  rw [hy] at hafter
  refine ⟨fun ht hi hc => ?_, fun ht hi hl hc => ?_⟩
  · rw [hafter.tripped, hafter.source]
    exact htrips ht hi hc
  · rw [hafter.tripped, hafter.source]
    exact huntrips ht hi hl hc

end Monitors

end Missed

/-- R128: a boundary that closes no miss leaves the monitors alone while the pressure stays high. -/
theorem monitor_boundary_unmissed (hm : closesNoMiss s) (hk : k < 32)
    (ht : (boundary missFirst s).run.pressure = .high) :
    tget (boundary missFirst s).monitors k = tget s.monitors k := by
  have hafter := undisturbed_afterMiss (j := k) (by omega) (by omega) missFirst s
  rw [missedWindow_of_closesNoMiss hm] at hafter
  exact ((undisturbed_missState (by omega) (by omega) missFirst s).trans hafter).monitor ht

/-- R120: the device had the open window's response been good. -/
def answeredWindow (w : Window) (s : State) : State :=
  { s with rig := { s.rig with window := some { w with good := true } } }

/-- R117, R120: the boundary of a window answered well gives the frame, and the miss that follows a frame finds what it
leaves. -/
theorem missState_answered (hu : s.life = .up) (hd : nothingDue s) :
    ∃ g, exec (.frameBoundary false) (answeredWindow w s) = .next g ∧
      bank (missState false s) = bank g ∧ (missState false s).config = g.config := by
  have hquiet := boundary_quiet (s := answeredWindow w s) false hd (fun v hv => by cases hv; rfl)
  have hstate : missState false s = giveFrame (openWindow (tick s)) := by
    rw [missState, frameState, boundaryBegun_of_nothingDue hd]
    rfl
  have hsame : openWindow (tick (answeredWindow w s)) = openWindow (tick s) := rfl
  rw [hsame] at hquiet
  obtain ⟨-, -, -, hconfig, -⟩ := keptParts_boundaryLeft (giveFrame (openWindow (tick s)))
  refine ⟨boundaryLeft (giveFrame (openWindow (tick s))), ?_, ?_, ?_⟩
  · exact (exec_frameBoundary (s := answeredWindow w s) false hu).trans (congrArg _ hquiet)
  · rw [hstate, boundaryLeft_frame]
    rfl
  · rw [hstate, hconfig]

/-- A boundary that takes its miss first, nothing being due, takes it as the device stands. -/
theorem missState_first (hd : nothingDue s) :
    bank (missState true s) = bank s ∧ (missState true s).config = s.config := by
  have hstate : missState true s = openWindow (tick s) := boundaryBegun_of_nothingDue hd
  rw [hstate]
  exact ⟨rfl, rfl⟩

end Boundary

/-! ## The statement -/

/-- R118 to R122: bytes come into an open window. -/
theorem response_judged (b : List Byte) (lowStop : Option Nat) (hu : s.life = .up) (hw : s.rig.window = some w)
    (hl : w.bytes.length < 70) :
    let all := (w.bytes ++ b).take 70
    (all.length < 70 ∨ ¬ goodResponse (joinedWindow b lowStop w) = true →
      exec (.responseFrame b lowStop) s = .next (settle
        { s with rig := { s.rig with window := some (joinedWindow b lowStop w) } })) ∧
    (all.length = 70 → goodResponse (joinedWindow b lowStop w) = true →
      exec (.responseFrame b lowStop) s = .next (settle (servoCheck (deliver (received all w s))))) := by
  intro all
  rw [exec_responseFrame hu]
  exact ⟨fun h => by rw [takeBytes_joins hw hl h], fun hfull hgood => by rw [takeBytes_good hw hl hfull hgood]⟩

/-- Settles O53: bytes join the window or complete a good response (`response_judged`), which is delivered and checked
(`servoCheck_received`); a boundary takes its miss between two stretches that leave a monitor and its source undisturbed
(`undisturbed_missState`, `undisturbed_afterMiss`), so that what the miss's delivery and its RIG_LINK check make of them
stands. -/
theorem responsesAndMissesAreJudged : Obligations.ResponsesAndMissesAreJudged := by
  unfold Obligations.ResponsesAndMissesAreJudged
  refine ⟨fun b lowStop w s hu hw hl => ?_, fun b lowStop w s hu hlate => ?_,
    fun b lowStop s hu => if_neg (by simp [isUp, hu]), fun missFirst w s hu hwin => ?_⟩
  · obtain ⟨hjoins, hcompletes⟩ := response_judged b lowStop hu hw hl
    intro all low good
    have hgood : goodResponse (joinedWindow b lowStop w) = true ↔ good := goodResponse_joinedWindow
    refine ⟨fun h => ⟨_, joinedWindow_corrupt, hjoins (h.imp_right (mt hgood.1))⟩, fun hfull hyes => ?_⟩
    obtain ⟨houter, hstore⟩ := received_outer all w s
    obtain ⟨-, -, -, htime, -, hrig, hconfig, hpermit, -, hlink, -⟩ := outer_parts houter
    obtain ⟨hpass, hraise⟩ := servoCheck_received all w s
    refine ⟨_, hcompletes hfull (hgood.2 hyes), ?_, ?_, ?_, ?_, ?_, ?_, ?_, ?_, fun c hc => ?_,
      ⟨fun h => congrArg settle (hpass h), fun c hyes hc hlack hleast => congrArg settle (hraise c hyes hc hlack hleast)⟩,
      fun hidle => ?_⟩
    · rw [settle_rig, hrig]; rfl
    · rw [settle_rig, hrig]; rfl
    · rw [settle_timebase, htime]; rfl
    · rw [settle_store]; exact hstore
    · rw [settle_config, hconfig]; rfl
    · rw [settle_permit, hpermit]; rfl
    · rw [settle_link, hlink]; rfl
    · rw [settle_rig, hrig]; rfl
    · rw [settle_rig, hrig]; exact tget_tmk _ hc
    · simp only [source, settle_faults]
      exact servo_received_idle all w hidle
  · rw [exec_responseFrame hu, takeBytes_late hlate]
  · obtain ⟨hfeedback, hready, hmisses⟩ := boundary_counts missFirst hwin
    refine ⟨_, exec_frameBoundary missFirst hu, hfeedback, hready, hmisses, fun hg ha hl hw => ?_,
      fun h => congrArg FaultEntry.active (source_boundary_unmissed hwin h), fun k hk _ ht => ?_, fun hg _ hd => ?_⟩
    · rw [hmisses, hg, if_neg Bool.false_ne_true, ← satInc_byte] at hl
      exact source_boundary_missed (missedWindow_eq_some.2 ⟨hwin, hg⟩) ha hl hw
    · rcases hg : w.good
      · simpa only [true_and] using monitor_boundary_missed (missedWindow_eq_some.2 ⟨hwin, hg⟩) hk ht
      · have hsame := monitor_boundary_unmissed (missFirst := missFirst)
          (fun v hv => by rw [hwin] at hv; cases hv; exact hg) hk ht
        simp only [hsame, Bool.true_eq_false, false_and, if_false, and_self]
    · obtain ⟨g, hexec, hbank, hconfig⟩ := missState_answered (w := w) hu hd
      have hmiss := missedWindow_eq_some.2 ⟨hwin, hg⟩
      refine ⟨g, hexec, ?_⟩
      cases missFirst
      · exact fun k hk => verdict_boundary_missed hmiss hk hbank hconfig
      · obtain ⟨hbank', hconfig'⟩ := missState_first hd
        exact fun k hk => verdict_boundary_missed hmiss hk hbank' hconfig'

end Sys2Proof.Machine
end

section
/-! PROOF. What keeps the laws of the fault table below the commands (R138 to R140): what leaves the table and the
pause-reason set alone, and how a raise, an end, a stop and a freeze move them together. -/

namespace Sys2Proof.Machine

variable {s t u : State} {k : Nat}

/-! ## What the laws speak of -/

/-- R133, R138 to R140: the fault table, and the fault sources of the pause-reason set. -/
def ledger (s : State) : FaultTable × List Nat := (s.faults, s.run.sources)

theorem ledger_parts (h : ledger t = ledger s) : t.faults = s.faults ∧ t.run.sources = s.run.sources := by
  simpa only [ledger, Prod.mk.injEq] using h

theorem faultLineLaw_iff : faultLineLaw s = true ↔ s.faults.faultN = faultLine s.faults.entries := decide_eq_true_iff

theorem pauseSetLaw_iff : pauseSetLaw s = true ↔
    ∀ k, k < 38 → (k ∈ s.run.sources ↔ (source s k).active = true ∧ (source s k).cls = .pause) := by
  simp only [pauseSetLaw, List.all_eq_true, List.mem_range, decide_eq_true_eq]

/-- From `s` to `t` the laws of the fault table are kept, each by itself. -/
structure KeepsTable (s t : State) : Prop where
  line : faultLineLaw s = true → faultLineLaw t = true
  action : actionLaw s = true → actionLaw t = true
  pause : pauseSetLaw s = true → pauseSetLaw t = true

theorem KeepsTable.trans (h : KeepsTable s t) (h' : KeepsTable t u) : KeepsTable s u :=
  ⟨h'.line ∘ h.line, h'.action ∘ h.action, h'.pause ∘ h.pause⟩

theorem KeepsTable.of_ledger (h : ledger t = ledger s) : KeepsTable s t := by
  obtain ⟨hfaults, hsources⟩ := ledger_parts h
  have hsource (j : Nat) : source t j = source s j := by rw [source, hfaults, source]
  refine ⟨fun hs => ?_, fun hs => ?_, fun hs => ?_⟩
  · rwa [faultLineLaw, hfaults]
  · rwa [actionLaw, hfaults]
  · rw [pauseSetLaw_iff] at hs ⊢
    simpa only [hsources, hsource] using hs

theorem KeepsTable.refl (s : State) : KeepsTable s s := .of_ledger rfl

theorem KeepsTable.after (h : KeepsTable t u) (e : ledger t = ledger s) : KeepsTable s u :=
  (KeepsTable.of_ledger e).trans h

theorem KeepsTable.of_eq (h : KeepsTable s t) (e : ledger u = ledger t) : KeepsTable s u := h.trans (.of_ledger e)

/-! ## What leaves the table and the set alone -/

@[simp] theorem ledger_raiseEvent (e : EventKind) (a v : Nat) : ledger (raiseEvent e a v s) = ledger s := by simp [ledger]
@[simp] theorem ledger_answer (st : Status) (b : ReplyBody) : ledger (answer st b s) = ledger s := by simp [ledger]
@[simp] theorem ledger_setJob (j : LinkJob) : ledger (setJob j s) = ledger s := by simp [ledger]
@[simp] theorem ledger_settle : ledger (settle s) = ledger s := by simp [ledger]
@[simp] theorem ledger_releasePages (ps : List Nat) : ledger (releasePages ps s) = ledger s := by simp [ledger]
@[simp] theorem ledger_setDescriptor (id : Nat) (d : Descriptor) : ledger (setDescriptor id d s) = ledger s := rfl
@[simp] theorem ledger_dropTarget (v : Target) : ledger (dropTarget v s) = ledger s := by simp [ledger]
@[simp] theorem ledger_redoLookahead : ledger (redoLookahead s) = ledger s := by unfold redoLookahead; split <;> rfl
@[simp] theorem ledger_segChanged (id : Nat) : ledger (segChanged id s) = ledger s := by
  unfold segChanged; split <;> simp
@[simp] theorem ledger_carriedAtSwap (id : Nat) : ledger (carriedAtSwap id s) = ledger s := rfl
@[simp] theorem ledger_dropCarried (id : Nat) (r : Bool) : ledger (dropCarried id r s) = ledger s := rfl
@[simp] theorem ledger_swapIn (id : Nat) : ledger (swapIn id s) = ledger s := by unfold swapIn; split <;> simp
@[simp] theorem ledger_endSegPlay (id : Nat) : ledger (endSegPlay id s) = ledger s := by
  simp only [endSegPlay]; split <;> simp
@[simp] theorem ledger_addDoubleErrors (id n : Nat) : ledger (addDoubleErrors id n s) = ledger s := rfl
@[simp] theorem ledger_markDamaged (id o : Nat) : ledger (markDamaged id o s) = ledger s := by
  unfold markDamaged; split <;> simp
@[simp] theorem ledger_removeReplacement (id : Nat) : ledger (removeReplacement id s) = ledger s := by
  unfold removeReplacement; split <;> simp
@[simp] theorem ledger_dropReplacement (id : Nat) : ledger (dropReplacement id s) = ledger s := by
  unfold dropReplacement; split <;> simp
@[simp] theorem ledger_emptyDescriptor (id : Nat) : ledger (emptyDescriptor id s) = ledger s := by simp [emptyDescriptor]
@[simp] theorem ledger_rejectTarget (v : Target) (m : Bool) : ledger (rejectTarget v m s) = ledger s := by
  unfold rejectTarget; split <;> simp
@[simp] theorem ledger_readyTarget (v : Target) : ledger (readyTarget v s) = ledger s := by
  simp only [readyTarget]
  split
  · split
    · simp
    · split <;> simp
  · simp

@[simp] theorem ledger_countMemoryErrors (cs : List Nat) : ledger (countMemoryErrors cs s) = ledger s := by
  unfold countMemoryErrors; split <;> rfl
@[simp] theorem ledger_reportCapture (i o : Nat) : ledger (reportCapture i o s) = ledger s := by
  unfold reportCapture
  split
  · rfl
  · split
    · rfl
    · exact ledger_raiseEvent _ _ _
@[simp] theorem ledger_closeRecord (e : Bool) : ledger (closeRecord e s) = ledger s := by rw [closeRecord_eq]; rfl
@[simp] theorem ledger_countFrame : ledger (countFrame s) = ledger s := by
  unfold countFrame
  split
  · rfl
  · split <;> rfl

@[simp] theorem ledger_endPlay (a j : Bool) : ledger (endPlay a j s) = ledger s := by
  by_cases hp : ∃ p, s.pipeline.params = some (.play p)
  · obtain ⟨p, hp⟩ := hp
    have hsum : ledger (withoutPlay (summarized p a j s)) = ledger (endSegPlay p.seg (withdrawReads .play s)) := by
      rw [summarized, closeSummary_eq]
      rfl
    rw [endPlay_play a j hp, closeCapture_eq]
    exact hsum.trans (ledger_endSegPlay _)
  · rw [endPlay_noPlay a j fun p h => hp ⟨p, h⟩]

@[simp] theorem ledger_abortEntry : ledger (abortEntry s) = ledger s := by
  rw [(aborted_abortEntry s).frame]
  rfl

@[simp] theorem ledger_beginPlay (i : Nat) (p : PlayEntry) (b : Bool) : ledger (beginPlay i p b s) = ledger s := by
  rw [beginPlay_eq, playCaptured_frame]
  rfl

@[simp] theorem ledger_callReads : ledger (callReads s) = ledger s := by rw [callReads_eq]; rfl

@[simp] theorem ledger_seek (fuel i : Nat) : ledger (seek fuel i s).2 = ledger s := by
  induction fuel generalizing i s with
  | zero => rfl
  | succ n ih =>
    unfold seek
    split
    · simp [ih]
    · rw [ih]; rfl
    · rfl

@[simp] theorem ledger_endSchedule : ledger (endSchedule s) = ledger s := by
  have hended (n : Nat) : ledger (raiseEvent .scheduleEnded n 0 (stand .ended n s)) = ledger s := ledger_raiseEvent _ _ _
  simp only [endSchedule]
  split
  · exact Eq.trans rfl (hended _)
  · exact hended _

@[simp] theorem ledger_skipEntry (i g : Nat) : ledger (skipEntry i g s) = ledger s := by
  have hended (n : Nat) (u : State) : ledger (raiseEnded 35 n u) = ledger u := by unfold raiseEnded; split <;> simp
  simp only [skipEntry, ledger_raiseEvent, hended]
  rfl

@[simp] theorem ledger_pauseJoined : ledger (pauseJoined s) = ledger s := by rw [pauseJoined_eq]; rfl

theorem joinSet_parts (k : Nat) (s : State) :
    (joinSet k s).faults = s.faults ∧ (joinSet k s).run.sources = insertNum k s.run.sources :=
  ledger_parts (s := { s with run := { s.run with sources := insertNum k s.run.sources } }) ledger_pauseJoined

theorem endSource_run (k : Nat) (s : State) : (endSource k s).run = s.run := by
  simp only [endSource, raiseEvent_run]
  split <;> rfl

/-! ## The table is formed again (R138, R140) -/

/-- R139: one source's entry is replaced, and the set follows it. -/
theorem pauseSetLaw_tset {e : FaultEntry} (hk : k < 38) (he : t.faults.entries = tset s.faults.entries k e)
    (hown : k ∈ t.run.sources ↔ e.active = true ∧ e.cls = .pause)
    (hother : ∀ j, j ≠ k → (j ∈ t.run.sources ↔ j ∈ s.run.sources)) (h : pauseSetLaw s = true) :
    pauseSetLaw t = true := by
  rw [pauseSetLaw_iff] at h ⊢
  intro j hj
  rw [source, he, tget_tset _ _ _ _ hk]
  split
  · next hjk => rw [hjk, hown]
  · next hjk => rw [hother j hjk, h j hj, source]

/-- R139: a source that ends leaves the set. -/
theorem pauseSetLaw_leaveSet (hk : k < 38) (h : pauseSetLaw s = true) :
    pauseSetLaw (leaveSet k (endSource k s)) = true := by
  have hsources : (leaveSet k (endSource k s)).run.sources = s.run.sources.filter (fun j => j ≠ k) := by
    rw [leaveSet, endSource_run]
  refine pauseSetLaw_tset hk (e := { source s k with active := false, subject := 0 }) ?_ ?_ (fun j hj => ?_) h
  · rw [leaveSet_faults, endSource_faults]
  · simp [hsources]
  · simp [hsources, hj]

theorem keepsTable_endWait (s : State) : KeepsTable s (endWait s) := by
  unfold endWait
  split
  · exact ⟨fun _ => decide_eq_true rfl, fun _ => decide_eq_true rfl, pauseSetLaw_leaveSet (by decide)⟩
  · exact .refl s

theorem keepsTable_abort (s : State) : KeepsTable s (endWait (abortEntry s)) :=
  (keepsTable_endWait _).after ledger_abortEntry

theorem keepsTable_freeze (s : State) : KeepsTable s (freeze s) :=
  ((keepsTable_abort (pressureFall { s with run := { s.run with state := .frozen, unload := .idle } })).of_eq
    (u := freeze s) rfl).after rfl

theorem keepsTable_stopInto (state : RunState) (s : State) : KeepsTable s (stopInto state s) :=
  ((keepsTable_abort { s with run := { s.run with state := state } }).of_eq (u := stopInto state s) rfl).after rfl

theorem keepsTable_endStoppedDelay (s : State) : KeepsTable s (endStoppedDelay s) :=
  .of_ledger ((ledger_raiseEvent _ _ _).trans rfl)

theorem keepsTable_stopAction (s : State) : KeepsTable s (stopAction s) := by
  unfold stopAction
  split
  case h_7 | h_8 => exact .refl s
  case h_9 =>
    split
    · split
      · exact keepsTable_endStoppedDelay s
      · exact .of_ledger rfl
    · exact .refl s
  all_goals exact keepsTable_stopInto .unloading s

theorem keepsTable_setAction (s : State) : KeepsTable s (setAction s) :=
  ⟨id, fun _ => decide_eq_true rfl, id⟩

theorem keepsTable_handAction (a : Option FaultClass) (s : State) : KeepsTable s (handAction a s) := by
  unfold handAction
  split
  · exact keepsTable_freeze s
  · exact keepsTable_stopAction s
  · exact .refl s

theorem keepsTable_formAction (s : State) : KeepsTable s (formAction s) := by
  unfold formAction
  split
  · exact .refl s
  · exact (keepsTable_setAction s).trans (keepsTable_handAction _ _)

/-- R138, R140: the action and the line are formed again, whatever they stood at; the set is as it was left. -/
theorem keepsTable_formed (h : pauseSetLaw s = true → pauseSetLaw t = true) :
    KeepsTable s (setFaultLine (formAction t)) where
  line _ := decide_eq_true rfl
  action _ := actionLaw_formAction t
  pause hs := (keepsTable_formAction t).pause (h hs)

/-! ## A raise (R134, R139) -/

/-- R139: a source of class PAUSE joins the set as it is raised; one of another class was no member. -/
theorem pauseSetLaw_raised (n : Nat) (hk : k < 38) (hi : (source s k).active = false) (h : pauseSetLaw s = true) :
    pauseSetLaw (if (source s k).cls = .pause then joinSet k (raised k n s) else raised k n s) = true := by
  have hrun : (raised k n s).run = s.run := by rw [raised, raiseEvent_run]; rfl
  split
  · next hc =>
    obtain ⟨hfaults, hsources⟩ := joinSet_parts k (raised k n s)
    refine pauseSetLaw_tset hk (e := raisedEntry k n s) ?_ ?_ (fun j hj => ?_) h
    · rw [hfaults, raised_faults]
    · simp [hsources, raisedEntry, hc]
    · simp [hsources, hrun, hj]
  · next hc =>
    refine pauseSetLaw_tset hk (e := raisedEntry k n s) (by rw [raised_faults]) ?_ (fun j _ => by rw [hrun]) h
    rw [hrun, pauseSetLaw_iff.1 h k hk]
    simp [raisedEntry, hi, hc]

theorem keepsTable_raise (n : Nat) (hk : k < 38) (s : State) : KeepsTable s (raise k n s) := by
  unfold raise
  dsimp only
  split
  · exact .refl s
  · next h =>
    exact keepsTable_formed (pauseSetLaw_raised n hk (Bool.eq_false_iff.2 fun hi => h (by rw [hi, Bool.or_true])))

/-! ## The sequencer, and a source's end (R53 to R61, R92, R136) -/

theorem keepsTable_advance (fuel i : Nat) (s : State) : KeepsTable s (advance fuel i s) := by
  induction fuel generalizing i s with
  | zero => exact .refl s
  | succ n ih =>
    unfold advance
    split
    · exact .of_ledger ledger_endSchedule
    · exact (ih _ _).after (ledger_raiseEvent _ _ _)
    · next j c m _ => exact (ih _ { s with schedule := (passRepeat i j c m s.schedule).2 }).after rfl
    · exact .of_ledger rfl
    · split
      · exact .of_ledger (ledger_beginPlay _ _ _)
      · split
        · exact (ih _ _).after (ledger_skipEntry _ _)
        · exact (keepsTable_raise _ (by decide) _).after rfl

theorem keepsTable_proceed (s : State) : KeepsTable s (proceed s) := by
  unfold proceed
  split
  · exact .refl s
  · split
    · split
      · exact .of_ledger (ledger_beginPlay _ _ _)
      · exact .refl s
    · split
      · split
        · exact keepsTable_advance _ _ s
        · exact keepsTable_advance _ _ s
        · exact .refl s
      · exact .refl s

theorem keepsTable_enterRunning (s : State) : KeepsTable s (enterRunning s) :=
  (keepsTable_proceed _).after (ledger_callReads.trans rfl)

theorem keepsTable_pauseEmptied (s : State) : KeepsTable s (pauseEmptied s) := by
  unfold pauseEmptied
  split
  · split
    · exact (keepsTable_enterRunning _).after ((ledger_raiseEvent _ _ _).trans rfl)
    · exact (keepsTable_enterRunning _).after ((ledger_raiseEvent _ _ _).trans rfl)
    · exact .refl s
  · exact .refl s

/-- R136, R139: a source ends, in the table and in the set. -/
theorem keepsTable_faultEnd (hk : k < 38) (s : State) : KeepsTable s (faultEnd k s) := by
  unfold faultEnd
  dsimp only
  split
  · refine keepsTable_formed fun h => ?_
    have hleft := pauseSetLaw_leaveSet hk h
    split
    · exact (keepsTable_pauseEmptied _).pause hleft
    · exact hleft
  · exact .refl s

theorem keepsTable_recheckMissing (id : Nat) (s : State) : KeepsTable s (recheckMissing id s) := by
  unfold recheckMissing
  split
  · split
    · split
      · exact keepsTable_faultEnd (by decide) s
      · exact .refl s
    · exact .refl s
  · exact .refl s

theorem keepsTable_endEntry (p : PlayParams) (s : State) : KeepsTable s (endEntry p s) :=
  (keepsTable_proceed _).after (ledger_endPlay false false)

theorem keepsTable_makeJoin (j id : Nat) (s : State) : KeepsTable s (makeJoin j id s) :=
  (keepsTable_proceed _).after (Eq.trans rfl (ledger_endPlay false true))

theorem keepsTable_failJoin (p : PlayParams) (j : Nat) (s : State) : KeepsTable s (failJoin p j s) := by
  simp only [failJoin]
  split
  · exact (keepsTable_endEntry _ _).after rfl
  · exact .of_ledger rfl

theorem keepsTable_join (p : PlayParams) (s : State) : KeepsTable s (join p s) := by
  have hseek : ledger (seek advanceFuel (s.sequencer.cursor + 1) (carryLookahead s)).2 = ledger s :=
    (ledger_seek _ _).trans rfl
  simp only [join]
  split
  · split
    · exact (keepsTable_makeJoin _ _ _).after hseek
    · exact (keepsTable_failJoin _ _ _).after hseek
  · exact (keepsTable_failJoin _ _ _).after hseek

theorem keepsTable_lastDriveFrame (p : PlayParams) (s : State) : KeepsTable s (lastDriveFrame p s) := by
  unfold lastDriveFrame
  split
  · exact keepsTable_join p s
  · split
    · exact (keepsTable_endEntry p _).after rfl
    · exact .of_ledger rfl

theorem keepsTable_endDwell (s : State) : KeepsTable s (endDwell s) := (keepsTable_proceed _).after rfl

end Sys2Proof.Machine
end

section
/-! PROOF. The laws of the fault table over the arbiter's completions, the deliveries and the frame boundary (R138 to
R140). -/

namespace Sys2Proof.Machine

variable {s t u : State} {k : Nat}

/-! ## Completions -/

theorem keepsTable_substitute (p : PlayParams) (i : Nat) (s : State) : KeepsTable s (substitute p i s) := by
  have hmark (n : Nat) (cs : List Nat) {u : State} (hu : ledger u = ledger s) :
      ledger (markDamaged p.seg 2 (countMemoryErrors cs (addDoubleErrors p.seg n u))) = ledger s := by simp [hu]
  simp only [substitute]
  split
  · exact .of_ledger (hmark _ _ rfl)
  · exact (keepsTable_raise _ (by decide) _).after (hmark _ _ rfl)

theorem keepsTable_playRead (i : Nat) (o : ReadOutcome) (v : List Sample) (s : State) :
    KeepsTable s (playRead i o v s) := by
  unfold playRead
  split
  · simp only
    split
    · exact (keepsTable_substitute _ _ _).after rfl
    · exact .of_ledger rfl
  · exact .refl s

theorem ledger_setPrefetch (q : Prefetch) : ledger (setPrefetch q s) = ledger s := by unfold setPrefetch; split <;> rfl

theorem ledger_prefetchRead (i : Nat) (o : ReadOutcome) (v : List Sample) :
    ledger (prefetchRead i o v s) = ledger s := by
  unfold prefetchRead
  split
  · simp only
    split
    · split <;> simp [ledger_setPrefetch]
    · exact ledger_setPrefetch _
  · rfl

theorem keepsTable_verifyRead (o : ReadOutcome) (v : List Sample) (s : State) : KeepsTable s (verifyRead o v s) := by
  unfold verifyRead
  split
  · exact .refl s
  · split
    · exact (keepsTable_recheckMissing _ _).after (ledger_rejectTarget _ _)
    · simp only
      split
      · split
        · exact (keepsTable_recheckMissing _ _).after (ledger_readyTarget _)
        · exact (keepsTable_recheckMissing _ _).after (ledger_rejectTarget _ _)
      · exact .of_ledger rfl

theorem ledger_captureReadDone (i : Nat) (o : ReadOutcome) (v : List Sample) :
    ledger (captureReadDone i o v s) = ledger s := by
  have hfinish (j : CaptureJob) (u : State) : ledger (finishCaptureRead j u) = ledger u := by
    unfold finishCaptureRead; split <;> simp
  unfold captureReadDone
  split
  · rw [hfinish]
    split
    · exact ledger_reportCapture _ _
    · rfl
  · rfl

theorem keepsTable_deliverRead (i : Nat) (q : ReadPurpose) (o : ReadOutcome) (v : List Sample) (s : State) :
    KeepsTable s (deliverRead i q o v s) := by
  cases q with
  | play => exact keepsTable_playRead i o v s
  | prefetch => exact .of_ledger (ledger_prefetchRead i o v)
  | verify => exact keepsTable_verifyRead o v s
  | captureRead => exact .of_ledger (ledger_captureReadDone i o v)

theorem keepsTable_captureWritten (lost : Bool) (s : State) : KeepsTable s (captureWritten lost s) := by
  unfold captureWritten
  split
  · exact .refl s
  · next op rest _ =>
    have hrest {u : State} (e : ledger u = ledger s) : KeepsTable s
        (if rest.isEmpty then
          if (countFrame u).capture.closing then proceed (closeRecord false (countFrame u)) else countFrame u
        else u) := by
      split
      · split
        · exact (keepsTable_proceed _).after (by simp [e])
        · exact .of_ledger (ledger_countFrame.trans e)
      · exact .of_ledger e
    simp only
    refine hrest ?_
    split
    · exact (ledger_reportCapture _ _).trans rfl
    · rfl

theorem ledger_segDataWritten (lost : Bool) : ledger (segDataWritten lost s) = ledger s := by
  unfold segDataWritten
  split
  · split
    · simp
    · split <;> simp
  · rfl

theorem keepsTable_deliverWrite (r : Requestor) (lost : Bool) (s : State) : KeepsTable s (deliverWrite r lost s) := by
  cases r with
  | capture => exact keepsTable_captureWritten lost s
  | link => exact .of_ledger (ledger_segDataWritten lost)
  | playback => exact .refl s
  | scrub => exact .refl s

/-- R13 to R20: the granted operation ends. -/
theorem keepsTable_completeGranted (found : ReadOutcome) (s : State) : KeepsTable s (completeGranted found s) := by
  have hpage (p : Nat) (u : State) : ledger (reportPage p u) = ledger u := by unfold reportPage; split <;> simp
  have hsweep (p w : Nat) (u : State) : ledger (moveSweep p w u) = ledger u := by unfold moveSweep; split <;> rfl
  unfold completeGranted
  split
  · exact .refl s
  · split
    · simp only [completeRead]
      split
      · exact (keepsTable_deliverRead _ _ _ _ _).after rfl
      · exact .of_ledger rfl
    · simp only [completeWrite]
      split <;> exact (keepsTable_deliverWrite _ _ _).after rfl
    · simp only [completeScrub]
      split
      · exact .of_ledger ((hpage _ _).trans ((hsweep _ _ _).trans rfl))
      · exact .of_ledger ((hsweep _ _ _).trans rfl)

theorem keepsTable_drain (fuel : Nat) (s : State) : KeepsTable s (drain fuel s) := by
  induction fuel generalizing s with
  | zero => exact .refl s
  | succ n ih =>
    unfold drain
    split
    · exact (((keepsTable_completeGranted .clean _).after ledger_settle).of_eq ledger_settle).trans (ih _)
    · exact .refl s

/-! ## Deliveries and the checks on them (R120 to R122, R128 to R130, R190) -/

theorem keepsTable_applyVerdict (v : Verdict) (hk : k < 38) (s : State) : KeepsTable s (applyVerdict k v s) := by
  cases v with
  | none => exact .refl s
  | trips => exact (keepsTable_raise _ hk _).after rfl
  | untrips => exact keepsTable_faultEnd hk s

theorem keepsTable_applyVerdicts (v : Nat → Verdict) {ks : List Nat} (hks : ∀ k ∈ ks, k < 38) (s : State) :
    KeepsTable s (ks.foldl (fun u k => applyVerdict k (v k) u) s) := by
  induction ks generalizing s with
  | nil => exact .refl s
  | cons k ks ih =>
    rw [List.forall_mem_cons] at hks
    exact (keepsTable_applyVerdict (v k) hks.1 s).trans (ih hks.2 _)

theorem keepsTable_deliver (s : State) : KeepsTable s (deliver s) := by
  rw [deliver_eq]
  refine (keepsTable_applyVerdicts _ (fun k hk => ?_) _).after rfl
  exact (List.mem_range.1 hk).trans (by decide)

theorem keepsTable_rigLinkCheck (w : Window) (s : State) : KeepsTable s (rigLinkCheck w s) := by
  unfold rigLinkCheck
  split
  · exact keepsTable_raise _ (by decide) s
  · exact .refl s

theorem keepsTable_missOf (w : Option Window) (s : State) : KeepsTable s (missOf w s) := by
  cases w with
  | none => exact .refl s
  | some w => exact ((keepsTable_deliver _).trans (keepsTable_rigLinkCheck w _)).after rfl

theorem keepsTable_servoCheck (s : State) : KeepsTable s (servoCheck s) := by
  unfold servoCheck
  split
  · split
    · exact keepsTable_raise _ (by decide) s
    · exact .refl s
  · exact .refl s

theorem keepsTable_takeBytes (bytes : List Byte) (low : Option Nat) (s : State) :
    KeepsTable s (takeBytes bytes low s) := by
  unfold takeBytes
  split
  · exact .refl s
  · split
    · exact .refl s
    · simp only
      split
      · exact ((keepsTable_deliver _).trans (keepsTable_servoCheck _)).after rfl
      · exact .of_ledger rfl

theorem keepsTable_heartbeatError (s : State) : KeepsTable s (heartbeatError s) := by
  simp only [heartbeatError]
  generalize (if s.supervisor.loop < (general s).loopLimit.toNat then s.supervisor.loop + 1 else s.supervisor.loop) = n
  split
  · exact (keepsTable_raise _ (by decide) _).after rfl
  · exact .of_ledger rfl

/-! ## The boundary -/

theorem keepsTable_reportSequencer (k : FrameKind) (s : State) : KeepsTable s (reportSequencer k s) := by
  unfold reportSequencer
  split
  · simp only
    split
    · exact (keepsTable_lastDriveFrame _ _).after rfl
    · exact .of_ledger rfl
  · split
    · exact keepsTable_endEntry _ _
    · exact .refl s
  · simp only
    split
    · exact (keepsTable_endDwell _).after rfl
    · exact .of_ledger rfl
  · exact .refl s

theorem ledger_endUnloadDelay : ledger (endUnloadDelay s) = ledger s := (ledger_raiseEvent _ _ _).trans rfl

theorem ledger_parkArrival : ledger (parkArrival s) = ledger s := by
  unfold parkArrival
  split
  · exact (ledger_raiseEvent _ _ _).trans rfl
  · split
    · split
      · split
        · exact ledger_endUnloadDelay
        · rfl
      · exact (ledger_raiseEvent _ _ _).trans rfl
    · rfl
  · rfl

theorem keepsTable_reportRun (k : FrameKind) (was : RunState) (i : Nat) (s : State) :
    KeepsTable s (reportRun k was i s) := by
  have hpark : KeepsTable s (if k = .park ∧ allAt ChannelRec.park s then parkArrival s else s) := by
    split
    · exact .of_ledger ledger_parkArrival
    · exact .refl s
  unfold reportRun
  split
  · split
    · split
      · exact keepsTable_enterRunning s
      · exact .of_ledger rfl
    · exact .refl s
  · split
    · exact .of_ledger rfl
    · exact .refl s
  · exact hpark
  · exact hpark
  · exact .refl s

theorem keepsTable_giveFrame (s : State) : KeepsTable s (giveFrame s) := by
  have hlatch (u : State) : ledger (latchSnapshot u) = ledger u := by rw [latchSnapshot_eq]; rfl
  by_cases ha : s.config.mode = .active
  · rw [giveFrame_active ha]
    refine ((keepsTable_reportSequencer _ _).trans (keepsTable_reportRun _ _ _ _)).after ?_
    rw [reportEvidence_eq]
    exact (hlatch _).trans rfl
  · refine .of_ledger ?_
    simp only [giveFrame, isActive, ha, decide_false, Bool.false_eq_true, if_false, hlatch]
    rfl

/-- R68: a boundary, in both orders of the frame and the miss. -/
theorem keepsTable_boundary (missFirst : Bool) (s : State) : KeepsTable s (boundary missFirst s) := by
  have hbegun : KeepsTable s (boundaryBegun s) := (keepsTable_drain drainFuel s).of_eq rfl
  have hleft (u : State) : ledger (boundaryLeft u) = ledger u := by rw [boundaryLeft_frame]; rfl
  cases missFirst
  · rw [boundary_frameThenMiss]
    exact ((hbegun.trans (keepsTable_giveFrame _)).trans (keepsTable_missOf _ _)).of_eq (hleft _)
  · rw [boundary_missFirst]
    exact (((hbegun.trans (keepsTable_missOf _ _)).trans (keepsTable_drain _ _)).trans (keepsTable_giveFrame _)).of_eq
      (hleft _)

end Sys2Proof.Machine
end

section
/-! PROOF. The laws of the fault table over every command (R138 to R140): O54. -/

namespace Sys2Proof.Machine

variable {s t u : State}

/-! ## Requests -/

section Requests
variable {f : State → State}

theorem keepsTable_onRequest (kind tag : Byte) (body : List Byte) (hf : ∀ u, KeepsTable u (f u)) (s : State) :
    KeepsTable s (onRequest kind tag body f s) := by
  unfold onRequest
  split
  · split
    · exact .of_ledger rfl
    · split
      · exact .of_ledger (by rw [answerBusy_eq]; rfl)
      · exact (hf _).after rfl
  · exact .refl s

theorem keepsTable_withLength (n : Nat) (body : List Byte) (hf : ∀ u, KeepsTable u (f u)) (s : State) :
    KeepsTable s (withLength n body f s) := by
  unfold withLength
  split
  · exact hf s
  · exact .of_ledger (ledger_answer _ _)

@[simp] theorem ledger_runReply (st : Status) : ledger (runReply st s) = ledger s := ledger_answer _ _

theorem keepsTable_onRun (n : Nat) (body : List Byte) (hf : ∀ u, KeepsTable u (f u)) (s : State) :
    KeepsTable s (onRun n body f s) := by
  unfold onRun
  split
  · exact .of_ledger (ledger_runReply _)
  · split
    · exact .of_ledger (ledger_runReply _)
    · exact hf s

theorem keepsTable_onSegment {g : Nat → State → State} (fits : Bool) (body : List Byte)
    (hg : ∀ id u, KeepsTable u (g id u)) (s : State) : KeepsTable s (onSegment fits body g s) := by
  unfold onSegment
  split
  · exact .of_ledger (ledger_answer _ _)
  · split
    · exact .of_ledger (ledger_answer _ _)
    · exact hg _ s

@[simp] theorem ledger_configReply (st : Status) (x : ConfigExtra) : ledger (configReply st x s) = ledger s :=
  ledger_answer _ _

theorem keepsTable_onConfig (hf : ∀ u, KeepsTable u (f u)) (s : State) : KeepsTable s (onConfig f s) := by
  have hage : ledger (ageTimer s) = ledger s := by unfold ageTimer; split <;> rfl
  simp only [onConfig]
  split
  · exact .of_ledger ((ledger_configReply _ _).trans hage)
  · exact (hf _).after hage

end Requests

/-! ## Segment, capture, schedule and evidence requests -/

theorem ledger_allocateBlock {n : Nat} {pages : List Nat} (h : allocateBlock n s = some (pages, t)) :
    ledger t = ledger s := by
  obtain ⟨-, -, rfl⟩ := allocateBlock_some h
  rfl

theorem ledger_openPlain (a : SegOpenArgs) : ledger (openPlain a s) = ledger s := by
  unfold openPlain
  split
  · simp
  · split
    · simp
    · split
      · simp
      · next ha => rw [ledger_answer, ledger_setDescriptor, ledger_allocateBlock ha]

theorem ledger_openReplacement (a : SegOpenArgs) : ledger (openReplacement a s) = ledger s := by
  simp only [openReplacement]
  split
  · simp
  · split
    · simp
    · split
      · simp
      · split
        · simp
        · next ha => rw [ledger_answer, ledger_setDescriptor, ledger_allocateBlock ha]

theorem keepsTable_segOpenEffect (body : List Byte) (s : State) : KeepsTable s (segOpenEffect body s) := by
  refine keepsTable_onSegment _ _ (fun _ u => .of_ledger ?_) s
  dsimp only
  split
  · exact ledger_openReplacement _
  · exact ledger_openPlain _

theorem ledger_segDataEffect (body : List Byte) (id : Nat) : ledger (segDataEffect body id s) = ledger s := by
  simp only [segDataEffect]
  split
  · simp
  · split <;> simp

theorem ledger_segCloseEffect (body : List Byte) (id : Nat) : ledger (segCloseEffect body id s) = ledger s := by
  have hset (crc : BitVec 32) : ledger (setVerifying id crc s) = ledger s := by
    simp only [setVerifying]
    split <;> rfl
  simp only [segCloseEffect]
  split
  · simp
  · rw [ledger_answer]
    exact hset _

theorem keepsTable_segAbandonEffect (id : Nat) (s : State) : KeepsTable s (segAbandonEffect id s) := by
  simp only [segAbandonEffect]
  split
  · refine (keepsTable_recheckMissing id _).after ?_
    split <;> simp
  · split
    · exact (keepsTable_recheckMissing id _).after (by simp)
    · exact (keepsTable_recheckMissing id _).after (by simp)
    all_goals exact .of_ledger (ledger_answer _ _)

theorem keepsTable_segFreeEffect (id : Nat) (s : State) : KeepsTable s (segFreeEffect id s) := by
  have hfreed : KeepsTable s (recheckMissing id (answer .ok .empty
      (emptyDescriptor id (removeReplacement id (dropTarget { seg := id, repl := true } s))))) :=
    (keepsTable_recheckMissing id _).after (by simp)
  unfold segFreeEffect
  split
  · exact .of_ledger (ledger_answer _ _)
  · split
    case h_4 | h_5 => exact hfreed
    all_goals exact .of_ledger (ledger_answer _ _)

theorem ledger_captureReadEffect (id o n : Nat) : ledger (captureReadEffect id o n s) = ledger s := by
  unfold captureReadEffect
  repeat' split
  all_goals simp

theorem ledger_captureFreeEffect (id : Nat) : ledger (captureFreeEffect id s) = ledger s := by
  have hfree (r : CaptureRecord) : ledger (freeRecord id r s) = ledger s := by
    have hwithdraw : ledger (withdrawWrites id s) = ledger s := by unfold withdrawWrites; split <;> rfl
    have hreleased : ledger (releasePages r.pages (setSlot id none (withdrawWrites id s))) = ledger s :=
      (ledger_releasePages _).trans hwithdraw
    simp only [freeRecord]
    split
    · exact hreleased
    · exact hreleased
  unfold captureFreeEffect
  repeat' split
  all_goals simp [hfree]

theorem ledger_appendEntries (es : List Entry) : ledger (appendEntries es s) = ledger s := by
  unfold appendEntries
  split
  · simp
  · rw [ledger_answer]
    unfold redoAtEnd
    split
    · exact ledger_redoLookahead.trans rfl
    · rfl

theorem ledger_truncateEffect (n : Nat) : ledger (truncateEffect n s) = ledger s := by
  unfold truncateEffect
  split
  · simp
  · split
    · simp
    · rw [ledger_answer]
      unfold redoReaching
      split
      · split
        · exact ledger_redoLookahead.trans rfl
        · rfl
      · rfl

theorem ledger_clearEffect : ledger (clearEffect s) = ledger s := by
  unfold clearEffect
  split
  · exact ledger_answer _ _
  · exact (ledger_answer _ _).trans rfl

theorem ledger_schedReadEffect (a n : Nat) : ledger (schedReadEffect a n s) = ledger s := by
  unfold schedReadEffect
  repeat' split
  all_goals simp

theorem ledger_summaryReadEffect : ledger (summaryReadEffect s) = ledger s := by
  unfold summaryReadEffect
  split
  · simp
  · exact ledger_answer _ _

theorem ledger_configReadEffect (sel : Selector) (body : List Byte) :
    ledger (configReadEffect sel body s) = ledger s := by
  simp only [configReadEffect]
  split
  · simp
  · split
    · split <;> simp
    · simp

theorem keepsTable_judgeBeat (s : State) : KeepsTable s (judgeBeat s) := by
  unfold judgeBeat
  split
  · split
    · exact .of_ledger (ledger_answer _ _)
    · exact ((keepsTable_heartbeatError (beginPeriod s)).of_eq (ledger_answer _ _)).after rfl
  · exact .of_ledger (ledger_answer _ _)

/-! ## Run, pressure and hold-out requests -/

theorem ledger_runStartEffect (i : Nat) : ledger (runStartEffect i s) = ledger s := by
  have hstart : ledger (runReply .ok (startRun i s)) = ledger s :=
    (ledger_runReply _).trans ((ledger_raiseEvent _ _ _).trans rfl)
  unfold runStartEffect
  repeat' split
  all_goals simp [hstart]

theorem ledger_runPauseEffect : ledger (runPauseEffect s) = ledger s := by
  have hjoin : ledger (joinHost s) = ledger s := by
    unfold joinHost
    split
    · rfl
    · exact ledger_pauseJoined.trans ((ledger_raiseEvent _ _ _).trans rfl)
  rw [runPauseEffect_eq]
  split
  · exact (ledger_runReply _).trans hjoin
  · exact ledger_runReply _

theorem keepsTable_leaveHost (s : State) : KeepsTable s (leaveHost s) := by
  unfold leaveHost
  split
  · exact (keepsTable_pauseEmptied _).after rfl
  · exact .refl s

theorem keepsTable_runStopEffect (s : State) : KeepsTable s (runStopEffect s) := by
  rw [runStopEffect_eq]
  split
  · exact (keepsTable_stopInto _ s).of_eq (ledger_runReply _)
  · exact .of_ledger (ledger_runReply _)

theorem keepsTable_runUnloadEffect (s : State) : KeepsTable s (runUnloadEffect s) := by
  rw [runUnloadEffect_eq]
  split
  · exact (keepsTable_stopInto _ s).of_eq (ledger_runReply _)
  · exact .of_ledger (ledger_runReply _)

theorem ledger_pressureOnEffect : ledger (pressureOnEffect s) = ledger s := by
  have hrise : ledger (pressureRise s) = ledger s := rfl
  unfold pressureOnEffect
  repeat' split
  all_goals simp [hrise]

theorem ledger_pressureOffEffect : ledger (pressureOffEffect s) = ledger s := by
  unfold pressureOffEffect
  repeat' split
  all_goals exact (ledger_runReply _).trans rfl

theorem ledger_holdOutEffect (c : Nat) : ledger (holdOutEffect c s) = ledger s := by
  have hadd : ledger (addHoldOut c s) = ledger s := by unfold addHoldOut; split <;> rfl
  unfold holdOutEffect
  repeat' split
  all_goals simp [hadd]

theorem ledger_restoreEffect (c : Nat) : ledger (restoreEffect c s) = ledger s := by
  have hdrop : ledger (dropHoldOut c s) = ledger s := by unfold dropHoldOut; split <;> rfl
  unfold restoreEffect
  repeat' split
  all_goals simp [hdrop]

/-! ## CLEAR_FAULTS (R142) -/

theorem endSources_run (ks : List Nat) (s : State) : (endSources ks s).run = s.run := by
  have hfold : (ks.foldl (fun t k => endSource k t) s).run = s.run := by
    induction ks generalizing s with
    | nil => rfl
    | cons k ks ih => exact (ih _).trans (endSource_run k s)
  simp only [endSources]
  split <;> exact hfold

/-- R134, R142: what the ends of a clearing make of each source. -/
theorem source_endSources {ks : List Nat} (hks : ∀ k ∈ ks, k < 38) (j : Nat) (s : State) : source (endSources ks s) j =
    if j ∈ ks then { source s j with active := false, subject := 0 } else source s j := by
  have hfold : source (ks.foldl (fun t k => endSource k t) s) j =
      if j ∈ ks then { source s j with active := false, subject := 0 } else source s j := by
    induction ks generalizing s with
    | nil => rfl
    | cons k ks ih =>
      rw [List.forall_mem_cons] at hks
      rw [List.foldl_cons, ih hks.2]
      have hone : source (endSource k s) j =
          if j = k then { source s j with active := false, subject := 0 } else source s j := by
        rw [source, endSource_faults, tget_tset _ _ _ _ hks.1]
        split
        · next h => rw [h]
        · rfl
      rw [hone]
      by_cases hjk : j = k <;> by_cases hmem : j ∈ ks <;> simp [hjk, hmem]
  simp only [endSources]
  split <;> exact hfold

/-- R142: the sources with their ends made, out of the pause-reason set too; nothing has been formed again yet. -/
def sourcesEnded (s : State) : State :=
  { endSources (endedSources s) s with
    run := { s.run with sources := s.run.sources.filter fun k => !(endedSources s).contains k } }

theorem clearSources_eq (s : State) : clearSources s = setFaultLine (formAction (sourcesEnded s)) := by
  rw [sourcesEnded, ← endSources_run (endedSources s) s]
  rfl

theorem mem_endedSources {k : Nat} : k ∈ endedSources s ↔
    k < 38 ∧ (source s k).active = true ∧ conditionAbsent s k = true := by
  simp [endedSources]

theorem source_sourcesEnded (j : Nat) (s : State) : source (sourcesEnded s) j =
    if j ∈ endedSources s then { source s j with active := false, subject := 0 } else source s j :=
  source_endSources (fun _ hk => (mem_endedSources.1 hk).1) j s

theorem keepsTable_clearSources (s : State) : KeepsTable s (clearSources s) := by
  rw [clearSources_eq]
  refine keepsTable_formed fun h => ?_
  rw [pauseSetLaw_iff] at h ⊢
  intro j hj
  rw [source_sourcesEnded, sourcesEnded, List.mem_filter, h j hj]
  split
  · next hended => simp [hended]
  · next hleft => simp [hleft]

theorem keepsTable_respondToClearing (removed : Bool) (s : State) : KeepsTable s (respondToClearing removed s) := by
  unfold respondToClearing
  split
  · split
    · exact .refl s
    · exact .of_ledger ((ledger_raiseEvent _ _ _).trans rfl)
  · split
    · exact keepsTable_pauseEmptied s
    · exact .refl s

theorem keepsTable_clearFaultsEffect (s : State) : KeepsTable s (clearFaultsEffect s) := by
  simp only [clearFaultsEffect]
  split
  · exact .of_ledger (ledger_answer _ _)
  · exact ((keepsTable_clearSources s).trans (keepsTable_respondToClearing _ _)).of_eq (ledger_answer _ _)

/-! ## Resets and the configuration -/

/-- R147: the fault table after a reset. -/
theorem keepsTable_atReset (hf : t.faults = .atReset) (hr : t.run = .atReset) : KeepsTable s t := by
  have hlaws : faultLineLaw State.reset = true ∧ actionLaw State.reset = true ∧ pauseSetLaw State.reset = true := by
    decide +kernel
  have hreset : KeepsTable State.reset t := .of_ledger (by rw [ledger, hf, hr]; rfl)
  exact ⟨fun _ => hreset.line hlaws.1, fun _ => hreset.action hlaws.2.1, fun _ => hreset.pause hlaws.2.2⟩

theorem keepsTable_warmReset (cause : ResetCause) {life : Life} {line : Level} :
    KeepsTable s { warmReset cause s with resetN := line, life := life } := by
  have hreset : (warmReset cause s).faults = .atReset ∧ (warmReset cause s).run = .atReset := by
    unfold warmReset
    split <;> exact ⟨rfl, rfl⟩
  exact keepsTable_atReset hreset.1 hreset.2

/-- R138, R140: with the set in order the action is formed and handed on, and the line is formed. -/
theorem keepsTable_handed (a : Option FaultClass) (h : pauseSetLaw t = true) :
    KeepsTable s (setFaultLine (handAction a (setAction t))) where
  line _ := decide_eq_true rfl
  action _ := (keepsTable_handAction a (setAction t)).action (decide_eq_true rfl)
  pause _ := (keepsTable_handAction a (setAction t)).pause h

/-- R137, R139: a commit takes the set from the classes that it brings. -/
theorem keepsTable_enterActive (s : State) : KeepsTable s (enterActive s) :=
  keepsTable_handed _ (pauseSetLaw_iff.2 fun k hk => by simp [pauseSources, source, hk])

theorem keepsTable_commitEffect (crc : BitVec 16) (s : State) : KeepsTable s (commitEffect crc s) := by
  simp only [commitEffect]
  split
  · exact .of_ledger (ledger_configReply _ _)
  · split
    · exact .of_ledger (ledger_configReply _ _)
    · have hentered : KeepsTable s (configReply .ok .nothing (enterActive s)) :=
        (keepsTable_enterActive s).of_eq (ledger_configReply _ _)
      unfold permitAtEntry
      split
      · exact hentered.trans (keepsTable_raise _ (by decide) _)
      · exact hentered

theorem ledger_configWriteEffect (sel : Selector) (body : List Byte) :
    ledger (configWriteEffect sel body s) = ledger s := by
  unfold configWriteEffect
  split
  · exact (ledger_configReply _ _).trans rfl
  · exact (ledger_configReply _ _).trans rfl
  · exact (ledger_configReply _ _).trans rfl
  · split
    · exact ledger_configReply _ _
    · exact (ledger_configReply _ _).trans rfl

/-! ## The commands -/

/-- A meaning's answer keeps the laws of the fault table. -/
def AnswersTable (s : State) (r : Result) : Prop := ∀ t, r = .next t → KeepsTable s t

theorem KeepsTable.answers (h : KeepsTable s t) : AnswersTable s (.next t) := fun _ he => by cases he; exact h

theorem KeepsTable.answers_settle (h : KeepsTable s t) : AnswersTable s (.next (settle t)) :=
  (h.of_eq ledger_settle).answers

theorem answersTable_idle : AnswersTable s (.next s) := (KeepsTable.refl s).answers

theorem answersTable_plain (h : ledger t = ledger s) : AnswersTable s (.next t) := (KeepsTable.of_ledger h).answers

section Commands
variable {kind tag : Byte} {body : List Byte} {n : Nat} {f : State → State}

/-- A request whose length is checked first. -/
theorem answersTable_withLength (hf : ∀ u, KeepsTable u (f u)) :
    AnswersTable s (.next (onRequest kind tag body (withLength n body f) s)) :=
  (keepsTable_onRequest _ _ _ (keepsTable_withLength n body hf) s).answers

/-- The same, with the arbiter's work after it. -/
theorem answersTable_withLength_settled (hf : ∀ u, KeepsTable u (f u)) :
    AnswersTable s (.next (settle (onRequest kind tag body (withLength n body f) s))) :=
  (keepsTable_onRequest _ _ _ (keepsTable_withLength n body hf) s).answers_settle

/-- A run, pressure or hold-out request. -/
theorem answersTable_onRun (hf : ∀ u, KeepsTable u (f u)) :
    AnswersTable s (.next (onRequest kind tag body (onRun n body f) s)) :=
  (keepsTable_onRequest _ _ _ (keepsTable_onRun n body hf) s).answers

theorem answersTable_onRun_settled (hf : ∀ u, KeepsTable u (f u)) :
    AnswersTable s (.next (settle (onRequest kind tag body (onRun n body f) s))) :=
  (keepsTable_onRequest _ _ _ (keepsTable_onRun n body hf) s).answers_settle

/-- A segment request. -/
theorem answersTable_onSegment {fits : Bool} {g : Nat → State → State} (hg : ∀ id u, KeepsTable u (g id u)) :
    AnswersTable s (.next (settle (onRequest kind tag body (onSegment fits body g) s))) :=
  (keepsTable_onRequest _ _ _ (keepsTable_onSegment fits body hg) s).answers_settle

/-- A configuration request. -/
theorem answersTable_onConfig (hf : ∀ u, KeepsTable u (f u)) :
    AnswersTable s (.next (onRequest kind tag body (onConfig f) s)) :=
  (keepsTable_onRequest _ _ _ (keepsTable_onConfig hf) s).answers

/-- The moments of resets, of start-up and of the supply. -/
theorem answersTable_execResetNLow : AnswersTable s (execResetNLow s) := by
  unfold execResetNLow
  split
  · exact answersTable_idle
  · exact answersTable_plain rfl
  · exact (keepsTable_warmReset .line).answers

theorem answersTable_execResetNHigh : AnswersTable s (execResetNHigh s) := by
  unfold execResetNHigh
  split <;> exact answersTable_plain rfl

theorem answersTable_execStartUpEnd : AnswersTable s (execStartUpEnd s) := by
  unfold execStartUpEnd
  split
  · exact answersTable_plain (ledger_settle.trans rfl)
  · exact answersTable_idle

theorem answersTable_execSupplyLoss : AnswersTable s (execSupplyLoss s) := by
  unfold execSupplyLoss
  split
  · exact answersTable_idle
  · exact (keepsTable_atReset rfl rfl).answers

theorem answersTable_execReplySent : AnswersTable s (execReplySent s) := by
  have hleaves : ledger (replyLeaves s) = ledger s := by unfold replyLeaves; split <;> rfl
  unfold execReplySent
  split
  · split
    · exact (keepsTable_warmReset .request).answers
    · exact answersTable_plain hleaves
  · exact answersTable_idle

/-- The timers, the supervisor's period, PERMIT's filter and the end of a save. -/
theorem answersTable_timers (back : List Byte) : AnswersTable s (execHeartbeatWindowOpen s) ∧
    AnswersTable s (execHeartbeatPeriodExpiry s) ∧ AnswersTable s (execReadyGraceExpiry s) ∧
    AnswersTable s (execUnloadDelayExpiry s) ∧ AnswersTable s (execStoppedUnloadDelayExpiry s) ∧
    AnswersTable s (execConfigTimerExpiry s) ∧ AnswersTable s (execConfigSaveEnd back s) := by
  unfold execHeartbeatWindowOpen execHeartbeatPeriodExpiry execReadyGraceExpiry execUnloadDelayExpiry
    execStoppedUnloadDelayExpiry execConfigTimerExpiry execConfigSaveEnd
  refine ⟨?_, ?_, ?_, ?_, ?_, ?_, ?_⟩ <;> split
  case refine_1.isTrue | refine_3.isTrue => exact answersTable_plain rfl
  case refine_2.isTrue => exact (KeepsTable.after (s := s) (keepsTable_heartbeatError (beginPeriod s)) rfl).answers_settle
  case refine_4.isTrue => exact answersTable_plain ledger_endUnloadDelay
  case refine_5.isTrue => exact (keepsTable_endStoppedDelay s).answers
  case refine_6.isTrue => exact answersTable_plain ((ledger_raiseEvent _ _ _).trans rfl)
  case h_2 => split <;> exact answersTable_plain ((ledger_raiseEvent _ _ _).trans rfl)
  all_goals exact answersTable_idle

theorem answersTable_execPermitFilterExpiry : AnswersTable s (execPermitFilterExpiry s) := by
  unfold execPermitFilterExpiry
  split
  · dsimp only
    split
    · exact (KeepsTable.after (s := s) (keepsTable_raise (k := 37) 0 (by decide) (permitPassed s)) rfl).answers_settle
    · exact answersTable_plain rfl
  · exact answersTable_idle

/-- The arbiter's completions. -/
theorem answersTable_completions (found : ReadOutcome) : AnswersTable s (execMemoryRead found s) ∧
    AnswersTable s (execWholeWordWrite s) ∧ AnswersTable s (execPartialWordWrite found s) ∧
    AnswersTable s (execScrub found s) := by
  have hin (o : ReadOutcome) (op : MemOp) : AnswersTable s (completeInside o op s) := by
    unfold completeInside
    split
    · exact (keepsTable_completeGranted o s).answers_settle
    · exact fun _ he => nomatch he
  have hidle : AnswersTable s (.next s) := answersTable_idle
  refine ⟨?_, ?_, ?_, ?_⟩
  · unfold execMemoryRead
    split
    · exact hin _ _
    · exact hidle
  · unfold execWholeWordWrite
    split
    · split
      · exact hin _ _
      · exact hidle
    · exact hidle
  · unfold execPartialWordWrite
    split
    · split
      · exact hidle
      · exact hin _ _
    · exact hidle
  · unfold execScrub
    split
    · exact hin _ _
    · exact hidle

/-- The framing of the control link. -/
theorem answersTable_framing (kind tag : Byte) (bytes : List Byte) (low : Option Nat) :
    AnswersTable s (execFrameMarker s) ∧ AnswersTable s (execRequestFrameDiscarded s bytes low) ∧
    AnswersTable s (execControlByteGap s) ∧ AnswersTable s (execUnknownRequest kind tag bytes s) ∧
    AnswersTable s (execBusyRequest kind tag s) := by
  have hidle : AnswersTable s (.next s) := answersTable_idle
  refine ⟨?_, ?_, ?_, ?_, ?_⟩
  · unfold execFrameMarker
    split
    · exact answersTable_plain rfl
    · exact hidle
  · unfold execRequestFrameDiscarded
    split
    · refine answersTable_plain ?_
      simp only [takeFrameBytes]
      split
      · rfl
      · split <;> rfl
    · exact hidle
  · unfold execControlByteGap
    split
    · exact answersTable_plain rfl
    · exact hidle
  · unfold execUnknownRequest
    split
    · exact hidle
    · exact (keepsTable_onRequest _ _ _ (fun _ => .of_ledger (ledger_answer _ _)) s).answers
  · unfold execBusyRequest
    split
    · exact answersTable_plain (by rw [answerBusy_eq]; rfl)
    · exact hidle

end Commands

/-- Every command's meaning keeps the laws of the fault table. -/
theorem answersTable_exec (c : Instr) (s : State) : AnswersTable s (exec c s) := by
  have hcompletions (o : ReadOutcome) := answersTable_completions (s := s) o
  have htimers (b : List Byte) := answersTable_timers (s := s) b
  have hframing (k t : Byte) (b : List Byte) (l : Option Nat) := answersTable_framing (s := s) k t b l
  cases c with
  | powerOn => exact (keepsTable_atReset rfl rfl).answers
  | resetNLow => exact answersTable_execResetNLow
  | resetNHigh => exact answersTable_execResetNHigh
  | startUpEnd => exact answersTable_execStartUpEnd
  | frameBoundary m =>
    rw [exec, execFrameBoundary]
    split
    · exact (keepsTable_boundary m s).answers
    · exact answersTable_idle
  | responseFrame b low =>
    rw [exec, execResponseFrame]
    split
    · exact (keepsTable_takeBytes b low s).answers_settle
    · exact answersTable_idle
  | permitLineChange => exact answersTable_plain rfl
  | permitFilterExpiry => exact answersTable_execPermitFilterExpiry
  | heartbeatWindowOpen => exact (htimers []).1
  | heartbeatPeriodExpiry => exact (htimers []).2.1
  | readyGraceExpiry => exact (htimers []).2.2.1
  | unloadDelayExpiry => exact (htimers []).2.2.2.1
  | stoppedUnloadDelayExpiry => exact (htimers []).2.2.2.2.1
  | configTimerExpiry => exact (htimers []).2.2.2.2.2.1
  | configSaveEnd r => exact (htimers r).2.2.2.2.2.2
  | memoryRead o => exact (hcompletions o).1
  | wholeWordWrite => exact (hcompletions .clean).2.1
  | partialWordWrite o => exact (hcompletions o).2.2.1
  | scrub o => exact (hcompletions o).2.2.2
  | requestFrameDiscarded b low => exact (hframing 0 0 b low).2.1
  | controlByteGap => exact (hframing 0 0 [] none).2.2.1
  | unknownRequest k t b => exact (hframing k t b none).2.2.2.1
  | busyRequest k t => exact (hframing k t [] none).2.2.2.2
  | replySent => exact answersTable_execReplySent
  | identify t b => exact answersTable_withLength fun _ => .of_ledger (ledger_answer _ _)
  | status t b => exact answersTable_withLength fun _ => .of_ledger (ledger_setJob _)
  | eventsRead t b =>
    refine answersTable_withLength fun u => .of_ledger ?_
    simp only
    split
    · simp
    · split
      · simp
      · exact (ledger_answer _ _).trans rfl
  | reset t b => exact answersTable_withLength fun _ => .of_ledger (by simp)
  | configWrite t b =>
    refine answersTable_onConfig fun u => .of_ledger ?_
    split
    · simp
    · split
      · simp
      · exact ledger_configWriteEffect _ _
  | configRead t b =>
    refine answersTable_onConfig fun u => .of_ledger ?_
    split
    · simp
    · split
      · simp
      · exact ledger_configReadEffect _ _
  | configCommit t b =>
    refine answersTable_onConfig fun u => ?_
    split
    · exact .of_ledger (ledger_configReply _ _)
    · split
      · exact .of_ledger (ledger_configReply _ _)
      · exact (keepsTable_commitEffect _ (enterConfig u)).after rfl
      · exact keepsTable_commitEffect _ u
      · exact keepsTable_commitEffect _ u
  | configSave t b =>
    refine answersTable_onConfig fun u => .of_ledger ?_
    split
    · simp
    · split
      · split
        · simp
        · exact (ledger_configReply _ _).trans rfl
      · simp
  | segOpen t b => exact (keepsTable_onRequest _ _ _ (keepsTable_segOpenEffect b) s).answers_settle
  | segOpenReplace t b => exact (keepsTable_onRequest _ _ _ (keepsTable_segOpenEffect b) s).answers_settle
  | segData t b => exact answersTable_onSegment fun id _ => .of_ledger (ledger_segDataEffect b id)
  | segClose t b => exact answersTable_onSegment fun id _ => .of_ledger (ledger_segCloseEffect b id)
  | segAbandon t b => exact answersTable_onSegment keepsTable_segAbandonEffect
  | segFree t b => exact answersTable_onSegment keepsTable_segFreeEffect
  | segQuery t b =>
    exact (keepsTable_onRequest _ _ _
      (keepsTable_onSegment _ _ fun _ _ => .of_ledger (ledger_answer _ _)) s).answers
  | schedAppend t b =>
    refine (keepsTable_onRequest _ _ _ (fun u => .of_ledger ?_) s).answers_settle
    split
    · simp
    · split
      · simp
      · exact ledger_appendEntries _
  | schedTruncate t b => exact answersTable_withLength_settled fun _ => .of_ledger (ledger_truncateEffect _)
  | schedClear t b => exact answersTable_withLength fun _ => .of_ledger ledger_clearEffect
  | schedRead t b => exact answersTable_withLength fun _ => .of_ledger (ledger_schedReadEffect _ _)
  | runStart t b => exact answersTable_onRun fun _ => .of_ledger (ledger_runStartEffect _)
  | runPause t b => exact answersTable_onRun_settled fun _ => .of_ledger ledger_runPauseEffect
  | runResume t b => exact answersTable_onRun_settled fun u => (keepsTable_leaveHost u).of_eq (ledger_runReply _)
  | runStop t b => exact answersTable_onRun_settled keepsTable_runStopEffect
  | runUnload t b => exact answersTable_onRun_settled keepsTable_runUnloadEffect
  | pressureOn t b => exact answersTable_onRun fun _ => .of_ledger ledger_pressureOnEffect
  | pressureOff t b => exact answersTable_onRun fun _ => .of_ledger ledger_pressureOffEffect
  | holdOut t b => exact answersTable_onRun fun _ => .of_ledger (ledger_holdOutEffect _)
  | restore t b => exact answersTable_onRun fun _ => .of_ledger (ledger_restoreEffect _)
  | clearFaults t b => exact answersTable_withLength_settled keepsTable_clearFaultsEffect
  | faultsRead t b => exact answersTable_withLength fun _ => .of_ledger (ledger_answer _ _)
  | captureList t b => exact answersTable_withLength fun _ => .of_ledger (ledger_answer _ _)
  | captureRead t b => exact answersTable_withLength_settled fun _ => .of_ledger (ledger_captureReadEffect _ _ _)
  | captureFree t b => exact answersTable_withLength_settled fun _ => .of_ledger (ledger_captureFreeEffect _)
  | summaryRead t b => exact answersTable_withLength fun _ => .of_ledger ledger_summaryReadEffect
  | heartbeat t b => exact answersTable_withLength_settled keepsTable_judgeBeat
  | frameMarker => exact (hframing 0 0 [] none).1
  | supplyLoss => exact answersTable_execSupplyLoss

/-- Settles O54: every command keeps each of the three laws (`answersTable_exec`). Where a source is raised or ends, the set
follows its entry (`pauseSetLaw_tset`), and the action and the line are formed again after it (`keepsTable_formed`). -/
theorem faultTableFollowsItsSources : Obligations.FaultTableFollowsItsSources := by
  unfold Obligations.FaultTableFollowsItsSources
  intro c s t hline haction hpause he
  have hkeeps := answersTable_exec c s t he
  exact ⟨hkeeps.line hline, hkeeps.action haction, hkeeps.pause hpause⟩

end Sys2Proof.Machine
end

section
/-! PROOF. What a delivery leaves of every monitor (R107, R126, R128 to R130): O43. -/

namespace Sys2Proof.Machine

variable {s t u : State} {j k : Nat}

/-! ## The value counted (R126, R128) -/

theorem inside_iff {r : MonitorRec} {v : Sample} :
    inside r v = true ↔ r.low.toInt ≤ v.toInt ∧ v.toInt ≤ r.high.toInt := by
  simp [inside]

/-- R128: a value in the window. -/
theorem countValue_inside {v : Sample} {m : Monitor} (h : inside m.record v = true) : countValue v m =
    { m with
      outside := 0, inside := if m.inside.toNat < m.record.filter.toNat then m.inside + 1 else m.record.filter } := by
  rw [countValue, if_pos h, countTo]

/-- R128: a value out of the window. -/
theorem countValue_outside {v : Sample} {m : Monitor} (h : inside m.record v = false) : countValue v m =
    { m with
      inside := 0, outside := if m.outside.toNat < m.record.filter.toNat then m.outside + 1 else m.record.filter } := by
  rw [countValue, if_neg (by rw [h]; nofun), countTo]

/-! ## The counts at a fall of the pressure (R107, R126) -/

/-- R107, R126: while the pressure stands monitor `j`'s counts stand; where it has been made low they are 0. -/
def countsFall (j : Nat) (s t : State) : Prop :=
  (t.run.pressure = s.run.pressure ∧ (tget t.monitors j).outside = (tget s.monitors j).outside ∧
      (tget t.monitors j).inside = (tget s.monitors j).inside) ∨
    (t.run.pressure = .low ∧ (tget t.monitors j).outside = 0 ∧ (tget t.monitors j).inside = 0)

theorem countsFall.trans (h : countsFall j s t) (h' : countsFall j t u) : countsFall j s u := by
  rcases h' with ⟨hp', ho', hi'⟩ | hlow'
  · rcases h with ⟨hp, ho, hi⟩ | ⟨hp, ho, hi⟩
    · exact .inl ⟨hp'.trans hp, ho'.trans ho, hi'.trans hi⟩
    · exact .inr ⟨hp'.trans hp, ho'.trans ho, hi'.trans hi⟩
  · exact .inr hlow'

theorem faultMoves_countsFall (hj : j < 32) : FaultMoves (fun _ => True) (countsFall j) where
  trans := .trans
  plain hb _ _ := by
    obtain ⟨-, hmonitors, hpressure, -⟩ := bank_parts hb
    exact .inl ⟨hpressure, by rw [hmonitors], by rw [hmonitors]⟩
  entry _ _ _ := .inl ⟨rfl, rfl, rfl⟩
  trip {k} b s _ := by
    rcases eq_or_ne j k with rfl | hne
    · have hget := tget_tset_same s.monitors { tget s.monitors j with tripped := b } hj
      exact .inl ⟨rfl, (congrArg Monitor.outside hget).trans rfl, (congrArg Monitor.inside hget).trans rfl⟩
    · have hget := tget_tset_ne s.monitors { tget s.monitors k with tripped := b } hne
      exact .inl ⟨rfl, congrArg Monitor.outside hget, congrArg Monitor.inside hget⟩
  fall s := by
    have hget : tget (pressureFall s).monitors j = { tget s.monitors j with outside := 0, inside := 0 } :=
      tget_tmap _ _ hj
    exact .inr ⟨rfl, by rw [hget], by rw [hget]⟩

/-! ## The verdicts (R129, R130) -/

theorem verdict_eq_none_iff {latched : Bool} {m : Monitor} : verdict latched m = .none ↔
    ¬ ((m.tripped = false ∧ m.outside = m.record.filter) ∨
      (m.tripped = true ∧ latched = false ∧ m.inside = m.record.filter)) := by
  rcases ht : m.tripped
  · by_cases ho : m.outside = m.record.filter <;> simp [verdict, ht, ho]
  · rcases latched
    · by_cases hi : m.inside = m.record.filter <;> simp [verdict, ht, hi]
    · simp [verdict, ht]

/-- R129, R130: a monitor neither trips nor recovers where it does not evaluate or its count has not come to its filter
count. -/
theorem verdictOf_eq_none_iff : verdictOf s k = .none ↔ ¬ (evaluates s (tget s.monitors k) = true ∧
    (((tget (valuesCounted s).monitors k).tripped = false ∧
        (tget (valuesCounted s).monitors k).outside = (tget (valuesCounted s).monitors k).record.filter) ∨
      ((tget (valuesCounted s).monitors k).tripped = true ∧ (source s k).latched = false ∧
        (tget (valuesCounted s).monitors k).inside = (tget (valuesCounted s).monitors k).record.filter))) := by
  unfold verdictOf
  split
  · next hev => rw [verdict_eq_none_iff, hev, and_iff_right rfl]
  · next hev => simp [hev]

theorem valuesCounted_keeps (hk : k < 32) (s : State) :
    (tget (valuesCounted s).monitors k).record = (tget s.monitors k).record ∧
      (tget (valuesCounted s).monitors k).tripped = (tget s.monitors k).tripped := by
  rw [monitor_valuesCounted hk]
  split
  · exact countValue_keeps _ _
  · exact ⟨rfl, rfl⟩

/-! ## What a delivery leaves (R107, R126, R128) -/

theorem tripped_deliver (hk : k < 32) (h : verdictOf s k = .none) :
    (tget (deliver s).monitors k).tripped = (tget s.monitors k).tripped := by
  obtain ⟨x, hbefore, -, hafter⟩ := deliver_verdict hk s
  rw [h] at hafter
  exact (hafter.tripped.trans hbefore.tripped).trans (valuesCounted_keeps hk s).2

/-- R107, R126: where the pressure falls at a delivery the counts are 0; elsewhere they are those counted. -/
theorem counts_deliver (hk : k < 32) (s : State) :
    if s.run.pressure = .high ∧ (deliver s).run.pressure = .low then
      (tget (deliver s).monitors k).outside = 0 ∧ (tget (deliver s).monitors k).inside = 0
    else
      (tget (deliver s).monitors k).outside = (tget (valuesCounted s).monitors k).outside ∧
        (tget (deliver s).monitors k).inside = (tget (valuesCounted s).monitors k).inside := by
  have hfall : countsFall k (valuesCounted s) (deliver s) := by
    rw [deliver_eq]
    exact (faultMoves_countsFall hk).applyVerdicts trivial _ (fun _ _ => trivial) _
  by_cases hs : s.run.pressure = .high
  · rcases hfall with ⟨hp, hcounts⟩ | ⟨hlow, hzero⟩
    · have ht : (deliver s).run.pressure ≠ .low := by rw [hp]; exact fun h => by cases hs.symm.trans h
      rw [if_neg fun h => ht h.2]
      exact hcounts
    · rw [if_pos ⟨hs, hlow⟩]
      exact hzero
  · have hidle (j : Nat) : evaluates s (tget s.monitors j) = false := by simp [evaluates, hs]
    rw [if_neg fun h => hs h.1, deliver_idle fun j _ => hidle j, monitor_valuesCounted hk, hidle]
    exact ⟨rfl, rfl⟩

/-- R129, R130: where no monitor trips or recovers a delivery only counts. -/
theorem deliver_counts_only (h : ∀ k, k < 32 → verdictOf s k = .none) : deliver s = valuesCounted s := by
  have hfold (ks : List Nat) (hks : ∀ k ∈ ks, k < 32) (u : State) :
      ks.foldl (fun t k => applyVerdict k (verdictOf s k) t) u = u := by
    induction ks with
    | nil => rfl
    | cons k ks ih =>
      rw [List.forall_mem_cons] at hks
      rw [List.foldl_cons, h k hks.1]
      exact ih hks.2
  rw [deliver_eq]
  exact hfold _ (fun k hk => List.mem_range.1 hk) _

/-- Settles O43: a monitor's own trip or end is `deliver_trips` or `deliver_untrips`; the verdicts of the others leave it
alone but for a fall of the pressure (`counts_deliver`). -/
theorem monitorsTripAtFilterCount : Obligations.MonitorsTripAtFilterCount := by
  unfold Obligations.MonitorsTripAtFilterCount
  refine ⟨fun v m hlow hhigh => countValue_inside (inside_iff.2 ⟨hlow, hhigh⟩), fun v m hout => countValue_outside ?_,
    fun k s hk hev => ⟨deliver_trips hk hev, deliver_untrips hk hev⟩, fun s => ?_⟩
  · refine Bool.eq_false_iff.2 fun hin => ?_
    obtain ⟨hlow, hhigh⟩ := inside_iff.1 hin
    omega
  · intro counted acts t
    have hcounted {k : Nat} (hk : k < 32) : tget (valuesCounted s).monitors k = counted k := monitor_valuesCounted hk s
    have hnone {k : Nat} (hk : k < 32) (h : ¬ acts k) : verdictOf s k = .none := by
      rw [verdictOf_eq_none_iff, hcounted hk]
      exact h
    refine ⟨fun k hk => ⟨?_, fun h => tripped_deliver hk (hnone hk h), ?_⟩, fun h => ?_⟩
    · exact (keepsCounts_deliver k s).record.trans (valuesCounted_keeps hk s).1
    · rw [← hcounted hk]
      exact counts_deliver hk s
    · have hmonitors : (valuesCounted s).monitors = tmk 32 counted :=
        table_ext fun k hk => by rw [hcounted hk, tget_tmk _ hk]
      calc t = { s with monitors := (valuesCounted s).monitors } := deliver_counts_only fun k hk => hnone hk (h k hk)
        _ = { s with monitors := tmk 32 counted } := by rw [hmonitors]

end Sys2Proof.Machine
end

section
/-! PROOF. What a raise comes to, class by class (R104, R105, R134, R135, R138 to R140): O41. -/

namespace Sys2Proof.Machine

variable {s t u x : State} {k : Nat}

/-! ## The newest records of the event queue (R199) -/

/-- R199: the newest `n` records, the newest first. -/
def newest (n : Nat) (s : State) : List EventRecord := s.events.records.reverse.take n

/-- R199: the record that a report makes. -/
def recordOf (e : EventKind) (a v : Nat) (s : State) : EventRecord :=
  { seq := s.events.nextSeq, stamp := s.timebase.counter, kind := e, subject := BitVec.ofNat 16 a
    value := BitVec.ofNat 32 v }

/-- R199: a report enters at the newest end, and of the newest 64 only the oldest can be lost to it. -/
theorem newest_raiseEvent (e : EventKind) (a v : Nat) {n : Nat} (hn : n + 1 ≤ 64) :
    newest (n + 1) (raiseEvent e a v s) = recordOf e a v s :: newest n s := by
  simp only [newest, raiseEvent]
  split
  · next hfull =>
    have hlength : 64 ≤ s.events.records.length := hfull
    simp only [List.reverse_append, List.reverse_singleton, List.singleton_append, List.take_succ_cons, recordOf,
      List.cons.injEq, true_and]
    rw [← List.dropLast_reverse, List.dropLast_eq_take, List.take_take, List.length_reverse, min_eq_left (by omega)]
  · simp only [List.reverse_append, List.reverse_singleton, List.singleton_append, List.take_succ_cons, recordOf]

/-- From `s` to `t` at most `c` reports are made. -/
def reportsAtMost (c : Nat) (s t : State) : Prop :=
  ∀ r n, n + c ≤ 64 → r ∈ newest n s → r ∈ newest (n + c) t

theorem reportsAtMost_of_events (c : Nat) (h : t.events = s.events) : reportsAtMost c s t := fun r n _ hr => by
  rw [newest, h]
  exact (List.take_prefix_take_left (Nat.le_add_right n c)).subset hr

theorem reportsAtMost_raiseEvent (e : EventKind) (a v : Nat) : reportsAtMost 1 s (raiseEvent e a v s) := fun r n hn hr => by
  rw [newest_raiseEvent e a v hn]
  exact List.mem_cons_of_mem _ hr

theorem reportsAtMost.trans {a b : Nat} (h : reportsAtMost a s t) (h' : reportsAtMost b t u) :
    reportsAtMost (a + b) s u := fun r n hn hr => by
  rw [← Nat.add_assoc]
  exact h' r (n + a) (by omega) (h r n (by omega) hr)

theorem reportsAtMost.mono {a b : Nat} (h : reportsAtMost a s t) (hle : a ≤ b) : reportsAtMost b s t := by
  have hmore := h.trans (reportsAtMost_of_events (s := t) (b - a) rfl)
  rwa [Nat.add_sub_cancel' hle] at hmore

theorem reportsAtMost.after {c : Nat} (h : reportsAtMost c t u) (e : t.events = s.events) : reportsAtMost c s u := by
  have hmore := (reportsAtMost_of_events (s := s) 0 e).trans h
  rwa [Nat.zero_add] at hmore

theorem reportsAtMost.of_events {c : Nat} (h : reportsAtMost c s t) (e : u.events = t.events) : reportsAtMost c s u :=
  h.trans (reportsAtMost_of_events (s := t) 0 e)

theorem redoLookahead_events : (redoLookahead s).events = s.events := by unfold redoLookahead; split <;> rfl

theorem reportsAtMost_swapIn (id : Nat) (s : State) : reportsAtMost 1 s (swapIn id s) := by
  unfold swapIn
  split
  · exact reportsAtMost_of_events 1 rfl
  · have hchanged (u : State) : (segChanged id u).events = u.events := by
      unfold segChanged
      split
      · exact redoLookahead_events
      · rfl
    exact ((reportsAtMost_raiseEvent _ _ _).after (by simp)).of_events (hchanged _)

theorem reportsAtMost_endSegPlay (id : Nat) (s : State) : reportsAtMost 1 s (endSegPlay id s) := by
  simp only [endSegPlay]
  split
  · exact (reportsAtMost_swapIn id _).after rfl
  · exact reportsAtMost_of_events 1 rfl

theorem reportsAtMost_closeSummary (a j : Bool) (s : State) : reportsAtMost 1 s (closeSummary a j s) := by
  unfold closeSummary
  split
  · exact reportsAtMost_of_events 1 rfl
  · simp only [queueSummary]
    refine (reportsAtMost_raiseEvent _ _ _).after ?_
    split <;> rfl

theorem reportsAtMost_endPlay (a j : Bool) (s : State) : reportsAtMost 2 s (endPlay a j s) := by
  by_cases hp : ∃ p, s.pipeline.params = some (.play p)
  · obtain ⟨p, hp⟩ := hp
    rw [endPlay_play a j hp, closeCapture_eq]
    exact (((reportsAtMost_endSegPlay p.seg _).trans (reportsAtMost_closeSummary a j _)).after
      (s := s) (t := withdrawReads .play s) rfl).of_events rfl
  · rw [endPlay_noPlay a j fun p h => hp ⟨p, h⟩]
    exact reportsAtMost_of_events 2 rfl

/-- R62, R103: an abort reports at most two swaps and a summary. -/
theorem reportsAtMost_abortEntry (s : State) : reportsAtMost 3 s (abortEntry s) := by
  have hjoin : reportsAtMost 1 s (endJoinWait (voidLookahead s)) := by
    unfold endJoinWait
    split
    · split
      · exact (reportsAtMost_endSegPlay _ _).after rfl
      · exact reportsAtMost_of_events 1 rfl
    · exact reportsAtMost_of_events 1 rfl
  exact (hjoin.trans (reportsAtMost_endPlay true false _)).of_events rfl

theorem reportsAtMost_endSource (k : Nat) (s : State) : reportsAtMost 1 s (endSource k s) := by
  unfold endSource
  dsimp only
  refine (reportsAtMost_raiseEvent _ _ _).after ?_
  split <;> rfl

theorem reportsAtMost_endWait (s : State) : reportsAtMost 1 s (endWait s) := by
  unfold endWait
  split
  · exact (reportsAtMost_endSource 35 s).of_events (by rw [setFaultLine_events, setAction_events, leaveSet_events])
  · exact reportsAtMost_of_events 1 rfl

theorem reportsAtMost_freeze (s : State) : reportsAtMost 4 s (freeze s) :=
  (((reportsAtMost_abortEntry _).trans (reportsAtMost_endWait _)).after
    (t := pressureFall { s with run := { s.run with state := .frozen, unload := .idle } }) rfl).of_events rfl

theorem reportsAtMost_enterUnloading (s : State) : reportsAtMost 4 s (enterUnloading s) :=
  (((reportsAtMost_abortEntry _).trans (reportsAtMost_endWait _)).after
    (t := { s with run := { s.run with state := .unloading } }) rfl).of_events rfl

theorem reportsAtMost_stopAction (s : State) : reportsAtMost 4 s (stopAction s) := by
  have hdelay : reportsAtMost 4 s (endStoppedDelay s) :=
    reportsAtMost.mono (a := 1) ((reportsAtMost_raiseEvent _ _ _).after rfl) (by decide)
  unfold stopAction
  split
  case h_7 | h_8 => exact reportsAtMost_of_events 4 rfl
  case h_9 =>
    split
    · split
      · exact hdelay
      · exact reportsAtMost_of_events 4 rfl
    · exact reportsAtMost_of_events 4 rfl
  all_goals exact reportsAtMost_enterUnloading s

theorem reportsAtMost_formAction (s : State) : reportsAtMost 4 s (formAction s) := by
  unfold formAction
  split
  · exact reportsAtMost_of_events 4 rfl
  · unfold handAction
    split
    · exact (reportsAtMost_freeze _).after rfl
    · exact (reportsAtMost_stopAction _).after rfl
    · exact reportsAtMost_of_events 4 rfl

/-! ## A raise, formed (R134, R138, R140) -/

theorem joinSet_events (k : Nat) (s : State) : (joinSet k s).events = s.events := by rw [joinSet, pauseJoined_eq]

/-- R134: a raise in ACTIVE of a source that is not active is reported, and nothing that follows it pushes its record out of
the queue. -/
theorem recordOf_mem_raise (n : Nat) (ha : s.config.mode = .active) (hi : (source s k).active = false) :
    recordOf .faultRaised k (faultValue (raisedEntry k n s)) s ∈ (raise k n s).events.records := by
  have hfirst : recordOf .faultRaised k (faultValue (raisedEntry k n s)) s ∈ newest 1 (raised k n s) := by
    rw [raised, newest_raiseEvent _ _ _ (by omega)]
    exact List.mem_cons_self
  have hrest : reportsAtMost 4 (raised k n s) (raise k n s) := by
    rw [raise_inactive n ha hi]
    split
    · exact ((reportsAtMost_formAction _).after (joinSet_events k _)).of_events (setFaultLine_events _)
    · exact (reportsAtMost_formAction _).of_events (setFaultLine_events _)
  exact List.mem_reverse.1 (List.mem_of_mem_take (hrest _ 1 (by decide) hfirst))

theorem faultLine_eq_low_iff {entries : Vector FaultEntry 38} : faultLine entries = .low ↔
    ∃ j, j < 38 ∧ entryHeld (tget entries j) = true ∧ (tget entries j).latched = true := by
  have hany : entries.toList.any (fun e => entryHeld e && e.latched) = true ↔
      ∃ j, j < 38 ∧ entryHeld (tget entries j) = true ∧ (tget entries j).latched = true := by
    simp only [List.any_eq_true, Bool.and_eq_true, mem_table]
    exact ⟨fun ⟨_, ⟨j, hj, rfl⟩, h⟩ => ⟨j, hj, h⟩, fun ⟨j, hj, h⟩ => ⟨_, ⟨j, hj, rfl⟩, h⟩⟩
  rw [← hany, faultLine]
  split
  · next h => simp [h]
  · next h => simp [h]

theorem level_eq_of_low_iff {a b : Level} (h : a = .low ↔ b = .low) : a = b := by
  cases a <;> cases b <;> simp at h <;> rfl

/-- R140: what a source that becomes active makes of FAULT_N. -/
theorem faultLine_raise {entries : Vector FaultEntry 38} {e : FaultEntry} (hk : k < 38)
    (hi : (tget entries k).active = false) (he : e.active = true) : faultLine (tset entries k e) =
      if e.cls ≠ .note ∧ e.latched = true then .low else faultLine entries := by
  have hown : entryHeld e = true ↔ e.cls ≠ .note := by simp [entryHeld, he]
  have hheld (j : Nat) (hj : entryHeld (tget entries j) = true) : j ≠ k := fun hjk => by
    simp [entryHeld, hjk, hi] at hj
  split
  · next h =>
    exact faultLine_eq_low_iff.2 ⟨k, hk, by rw [tget_tset_same _ _ hk, hown]; exact h⟩
  · next h =>
    rw [← hown] at h
    refine level_eq_of_low_iff ?_
    rw [faultLine_eq_low_iff, faultLine_eq_low_iff]
    refine exists_congr fun j => and_congr_right fun _ => ?_
    rw [tget_tset _ _ _ _ hk]
    split
    · next hjk => exact iff_of_false h fun hj => hheld j hj.1 hjk
    · rfl

/-- R134, R138, R140: a raised source's entry and report, with the action and the line that follow. -/
def reportedAs (k n : Nat) (action : Option FaultClass) (line : Level) (s : State) : State :=
  raiseEvent .faultRaised k (faultValue (raisedEntry k n s))
    { s with faults := { entries := tset s.faults.entries k (raisedEntry k n s), action := action, faultN := line } }

theorem raiseEvent_withFaults (e : EventKind) (a v : Nat) (f : FaultTable) (s : State) :
    { raiseEvent e a v s with faults := f } = raiseEvent e a v { s with faults := f } := by
  unfold raiseEvent
  dsimp only
  split <;> rfl

theorem reportedAs_eq (k n : Nat) (action : Option FaultClass) (line : Level) (s : State) : reportedAs k n action line s =
    { raised k n s with faults :=
      { entries := tset s.faults.entries k (raisedEntry k n s), action := action, faultN := line } } :=
  (raiseEvent_withFaults _ _ _ _ (setEntry k (raisedEntry k n s) s)).symm

/-- R138, R140: the line that a raise leaves. -/
def raisedLine (k : Nat) (s : State) : Level :=
  if (source s k).cls ≠ .note ∧ (source s k).latched = true then .low else s.faults.faultN

section Raised
variable {n : Nat} (hk : k < 38) (hi : (source s k).active = false) (hlaw : actionLaw s = true)
include hk hi

theorem faultLine_raised (hline : faultLineLaw s = true) :
    faultLine (tset s.faults.entries k (raisedEntry k n s)) = raisedLine k s := by
  rw [faultLine_raise hk hi rfl, raisedLine, ← faultLineLaw_iff.1 hline]
  rfl

include hlaw

theorem effectiveAction_raised :
    effectiveAction (tset s.faults.entries k (raisedEntry k n s)) = worseAction s.faults.action (source s k).cls := by
  refine eq_of_actionRank ?_
  rw [effectiveAction_raise hk hi rfl, actionRank_worseAction, ← actionLaw_iff.1 hlaw]
  rfl

/-- R138: where the raise does not make the action STOP or TRIP the run controller is not asked. -/
theorem formAction_raised_calm (hx : x.faults = (raised k n s).faults)
    (h : worseAction s.faults.action (source s k).cls = s.faults.action ∨ classCode (source s k).cls ≤ 1) :
    formAction x = setAction x := by
  have heff : effectiveAction x.faults.entries = worseAction s.faults.action (source s k).cls := by
    rw [hx, raised_faults]
    exact effectiveAction_raised hk hi hlaw
  have haction : x.faults.action = s.faults.action := by rw [hx, raised_faults]
  by_cases hsame : worseAction s.faults.action (source s k).cls = s.faults.action
  · have he : effectiveAction x.faults.entries = x.faults.action := by rw [heff, haction, hsame]
    rw [formAction_same he, setAction, he]
  · refine formAction_mild ?_
    have hmild := h.resolve_left hsame
    have hrank := actionRank_worseAction s.faults.action (source s k).cls
    have hrises : ¬ actionRank (some (source s k).cls) ≤ actionRank s.faults.action := fun hle =>
      hsame (eq_of_actionRank (by rw [hrank, max_eq_left hle]))
    rw [heff, hrank, max_eq_right (Nat.le_of_not_le hrises)]
    exact Nat.succ_le_succ hmild

/-- R138, R140: what a raise forms where the run controller is not asked. -/
theorem setFaultLine_formAction_calm (hline : faultLineLaw s = true) (hx : x.faults = (raised k n s).faults)
    (h : worseAction s.faults.action (source s k).cls = s.faults.action ∨ classCode (source s k).cls ≤ 1) :
    setFaultLine (formAction x) = { x with faults :=
      { entries := tset s.faults.entries k (raisedEntry k n s)
        action := worseAction s.faults.action (source s k).cls, faultN := raisedLine k s } } := by
  have hentries : x.faults.entries = tset s.faults.entries k (raisedEntry k n s) := by rw [hx, raised_faults]
  rw [formAction_raised_calm hk hi hlaw hx h, ← faultLine_raised hk hi hline, ← effectiveAction_raised hk hi hlaw,
    ← hentries]
  rfl

variable (ha : s.config.mode = .active)
include ha

/-- R134: a raise that moves no run. -/
theorem raise_calm (hline : faultLineLaw s = true) (hc : (source s k).cls ≠ .pause)
    (h : worseAction s.faults.action (source s k).cls = s.faults.action ∨ classCode (source s k).cls ≤ 1) :
    raise k n s = reportedAs k n (worseAction s.faults.action (source s k).cls) (raisedLine k s) s := by
  rw [raise_inactive n ha hi, if_neg hc, setFaultLine_formAction_calm hk hi hlaw hline rfl h, reportedAs_eq]

/-- R92, R139: a raise under class PAUSE. -/
theorem raise_pause (hline : faultLineLaw s = true) (hc : (source s k).cls = .pause) : raise k n s =
    { reportedAs k n (worseAction s.faults.action .pause) (raisedLine k s) s with
      run := { s.run with state := pausedInto s, sources := insertNum k s.run.sources }
      sequencer := { s.sequencer with
        carried := if s.run.state = .running ∧ pausedInto s = .paused then none else s.sequencer.carried } } := by
  have hjoin : joinSet k (raised k n s) = { raised k n s with
      run := { s.run with state := pausedInto s, sources := insertNum k s.run.sources }
      sequencer := { s.sequencer with
        carried := if s.run.state = .running ∧ pausedInto s = .paused then none else s.sequencer.carried } } := by
    have hraised : raised k n s = { setEntry k (raisedEntry k n s) s with events := (raised k n s).events } :=
      raiseEvent_eq _ _ _ _
    rw [joinSet, pauseJoined_eq, hraised]
    rfl
  rw [raise_inactive n ha hi, if_pos hc,
    setFaultLine_formAction_calm hk hi hlaw hline (joinSet_parts k _).1 (.inr (by rw [hc]; decide)), hjoin, hc, reportedAs_eq]

/-- R138: a raise under class STOP or TRIP that makes the action its class asks the run controller. -/
theorem raise_hands (hc : 2 ≤ classCode (source s k).cls)
    (h : worseAction s.faults.action (source s k).cls ≠ s.faults.action) : raise k n s =
      setFaultLine (handAction (some (source s k).cls)
        (reportedAs k n (some (source s k).cls) s.faults.faultN s)) := by
  have hrank := actionRank_worseAction s.faults.action (source s k).cls
  have hrises : ¬ actionRank (some (source s k).cls) ≤ actionRank s.faults.action := fun hle =>
    h (eq_of_actionRank (by rw [hrank, max_eq_left hle]))
  have hworse : worseAction s.faults.action (source s k).cls = some (source s k).cls :=
    eq_of_actionRank (by rw [hrank, max_eq_right (Nat.le_of_not_le hrises)])
  have heff : effectiveAction (raised k n s).faults.entries = some (source s k).cls := by
    rw [raised_faults]
    exact (effectiveAction_raised hk hi hlaw).trans hworse
  have hset : setAction (raised k n s) = reportedAs k n (some (source s k).cls) s.faults.faultN s := by
    rw [setAction, heff, raised_faults, reportedAs_eq]
  have hpause : (source s k).cls ≠ .pause := fun hp => by rw [hp] at hc; exact absurd hc (by decide)
  rw [raise_inactive n ha hi, if_neg hpause, formAction_hands heff, hset]
  rw [raised_faults, ← hworse]
  exact h

end Raised

/-! ## The action STOP (R105) -/

/-- R102, R105: the run states that the action STOP moves to UNLOADING. -/
def unloads (s : State) : Prop := s.run.state ∈ [.starting, .running, .pausing, .paused, .holding, .parking]

/-- R105: the action STOP starts the unload delay of STOPPED. -/
def startsDelay (s : State) : Prop := s.run.state = .stopped ∧ s.run.pressure = .high ∧ s.run.unload = .idle

theorem stopAction_unloads (h : unloads s) : stopAction s = enterUnloading s := by
  unfold stopAction
  split
  case h_7 hs | h_8 hs | h_9 hs => simp [unloads, hs] at h
  all_goals rfl

theorem stopAction_startsDelay (h : startsDelay s) : stopAction s =
    if (general s).unloadMs = 0 then endStoppedDelay s else { s with run.unload := .inStopped } := by
  obtain ⟨hs, hp, hu⟩ := h
  simp only [stopAction, hs, hp, hu, and_self, if_true]

theorem stopAction_stays (h : ¬ unloads s) (h' : ¬ startsDelay s) : stopAction s = s := by
  unfold stopAction
  split
  case h_7 | h_8 => rfl
  case h_9 hs => exact if_neg fun hd => h' ⟨hs, hd⟩
  all_goals next hs => simp [unloads, hs] at h

/-! ## What a raise leaves, case by case -/

theorem worseAction_stop {a : Option FaultClass} (h : ¬ (a = some .stop ∨ a = some .trip)) :
    worseAction a .stop = some .stop := by
  rcases a with _ | c
  · rfl
  · cases c <;> simp at h <;> rfl

theorem worseAction_trip (a : Option FaultClass) : worseAction a .trip = some .trip := by
  rcases a with _ | c
  · rfl
  · cases c <;> rfl

theorem worseAction_severe {a : Option FaultClass} (h : a = some .stop ∨ a = some .trip) : worseAction a .stop = a := by
  rcases h with rfl | rfl <;> rfl

theorem worseAction_pause (a : Option FaultClass) :
    worseAction a .pause = if a = some .stop ∨ a = some .trip then a else some .pause := by
  rcases a with _ | c
  · rfl
  · cases c <;> rfl

theorem worseAction_note (a : Option FaultClass) : worseAction a .note = a.or (some .note) := by
  rcases a with _ | c
  · rfl
  · cases c <;> rfl

section Reported
variable (n : Nat) (action : Option FaultClass) (line : Level)

theorem reportedAs_run : (reportedAs k n action line s).run = s.run := by
  rw [reportedAs, raiseEvent_run]

theorem general_reportedAs : general (reportedAs k n action line s) = general s := by
  rw [general, reportedAs, raiseEvent_config]
  rfl

theorem source_reportedAs (hk : k < 38) : source (reportedAs k n action line s) k = raisedEntry k n s := by
  rw [source, reportedAs, raiseEvent_faults]
  exact tget_tset_same _ _ hk

/-- R105: what the action STOP finds of the run. -/
theorem unloads_reportedAs : unloads (reportedAs k n action line s) ↔ unloads s := by
  rw [unloads, reportedAs_run, unloads]

theorem startsDelay_reportedAs : startsDelay (reportedAs k n action line s) ↔ startsDelay s := by
  rw [startsDelay, reportedAs_run, startsDelay]

variable {n} in
theorem setFaultLine_reportedAs (hk : k < 38) (hi : (source s k).active = false) (hline : faultLineLaw s = true) :
    setFaultLine (reportedAs k n action line s) = reportedAs k n action (raisedLine k s) s := by
  rw [reportedAs_eq, reportedAs_eq, ← faultLine_raised (n := n) hk hi hline]
  rfl

end Reported

/-- R105: the delay of 0 that the action STOP starts in STOPPED. -/
theorem endStoppedDelay_reportedAs {n : Nat} (action : Option FaultClass) (line : Level) (hk : k < 38)
    (hi : (source s k).active = false) (hline : faultLineLaw s = true) :
    setFaultLine (endStoppedDelay (reportedAs k n action line s)) = raiseEvent .unloadDone s.sequencer.cursor 2
      { reportedAs k n action (raisedLine k s) s with
        run := { s.run with pressure := .low, grace := .idle, unload := .idle }
        monitors := tmap (fun _ m => { m with outside := 0, inside := 0 }) s.monitors } := by
  have hparts : (reportedAs k n action line s).run = s.run ∧ (reportedAs k n action line s).monitors = s.monitors ∧
      (reportedAs k n action line s).sequencer = s.sequencer :=
    ⟨reportedAs_run n action line, by rw [reportedAs, raiseEvent_monitors], by rw [reportedAs, raiseEvent_sequencer]⟩
  have hset := setFaultLine_reportedAs (n := n) action line hk hi hline
  generalize reportedAs k n action line s = y at hparts hset
  obtain ⟨hrun, hmonitors, hsequencer⟩ := hparts
  have hended : setFaultLine (endStoppedDelay y) = raiseEvent .unloadDone y.sequencer.cursor 2 { setFaultLine y with
      run := { y.run with pressure := .low, grace := .idle, unload := .idle }
      monitors := tmap (fun _ m => { m with outside := 0, inside := 0 }) y.monitors } := by
    simp only [endStoppedDelay, setFaultLine, raiseEvent_faults]
    exact raiseEvent_withFaults _ _ _ _ _
  rw [hended, hset, hrun, hmonitors, hsequencer]

/-! ## SEGMENT_MISSING (R135) -/

/-- R135: SEGMENT_MISSING's entry, and subject, once its wait has ended. -/
theorem source_endWait_eq (s : State) : source (endWait s) 35 =
    if (source s 35).active = true then { source s 35 with active := false, subject := 0 } else source s 35 := by
  unfold endWait
  split
  · have hentries : (setFaultLine (setAction (leaveSet 35 (endSource 35 s)))).faults.entries =
        (endSource 35 s).faults.entries := rfl
    rw [source, hentries, ← source, source_endSource (by decide)]
  · rfl

/-- R135: a wait that a raise has just made active ends with the abort that follows. -/
theorem source_abort {n : Nat} (hx : x.faults = s.faults) (hs : source s 35 = raisedEntry 35 n t)
    (hu : u.faults = (endWait (abortEntry x)).faults) :
    source u 35 = { source t 35 with active := false, subject := 0 } := by
  have hsame : source (abortEntry x) 35 = raisedEntry 35 n t := by
    rw [source, (ledger_parts ledger_abortEntry).1, hx]
    exact hs
  rw [source, hu, ← source, source_endWait_eq, hsame]
  rfl

theorem source_freeze {n : Nat} (hs : source s 35 = raisedEntry 35 n t) :
    source (freeze s) 35 = { source t 35 with active := false, subject := 0 } :=
  source_abort (x := pressureFall { s with run := { s.run with state := .frozen, unload := .idle } }) rfl hs rfl

theorem source_enterUnloading {n : Nat} (hs : source s 35 = raisedEntry 35 n t) :
    source (enterUnloading s) 35 = { source t 35 with active := false, subject := 0 } :=
  source_abort (x := { s with run := { s.run with state := .unloading } }) rfl hs rfl

theorem source_setFaultLine (k : Nat) (s : State) : source (setFaultLine s) k = source s k := rfl

section Missing
variable {n : Nat} (ha : s.config.mode = .active) (hi : (source s 35).active = false) (hlaw : actionLaw s = true)
include ha hi hlaw

theorem source_raise_calm
    (h : worseAction s.faults.action (source s 35).cls = s.faults.action ∨ classCode (source s 35).cls ≤ 1) :
    source (raise 35 n s) 35 = raisedEntry 35 n s := by
  have hcalm {x : State} (hx : x.faults = (raised 35 n s).faults) :
      source (setFaultLine (formAction x)) 35 = raisedEntry 35 n s := by
    rw [formAction_raised_calm (by decide) hi hlaw hx h, ← source_raised n (by decide) s, source, source, ← hx]
    rfl
  rw [raise_inactive n ha hi]
  split
  · exact hcalm (joinSet_parts 35 _).1
  · exact hcalm rfl

/-- R135: a TRIP that freezes the run ends the wait with it. -/
theorem source_raise_trip (hc : (source s 35).cls = .trip) (h : s.faults.action ≠ some .trip) :
    source (raise 35 n s) 35 = { source s 35 with active := false, subject := 0 } := by
  have hsource := source_reportedAs (s := s) n (some .trip) s.faults.faultN (k := 35) (by decide)
  rw [raise_hands (by decide) hi hlaw ha (by rw [hc]; decide) (by rw [hc, worseAction_trip]; exact h.symm), hc,
    source_setFaultLine, handAction]
  exact source_freeze hsource

/-- R135: a STOP that moves the run to UNLOADING ends the wait with it; elsewhere it leaves it. -/
theorem source_raise_stop (hc : (source s 35).cls = .stop)
    (h : ¬ (s.faults.action = some .stop ∨ s.faults.action = some .trip)) : source (raise 35 n s) 35 =
      if s.run.state ∈ [.starting, .running, .pausing, .paused, .holding, .parking] then
        { source s 35 with active := false, subject := 0 }
      else raisedEntry 35 n s := by
  have hsource := source_reportedAs (s := s) n (some .stop) s.faults.faultN (k := 35) (by decide)
  have hgoes := unloads_reportedAs (s := s) (k := 35) n (some .stop) s.faults.faultN
  rw [raise_hands (by decide) hi hlaw ha (by rw [hc]; decide)
    (by rw [hc, worseAction_stop h]; exact fun e => h (.inl e.symm)), hc, source_setFaultLine, handAction]
  generalize reportedAs 35 n (some .stop) s.faults.faultN s = y at hsource hgoes ⊢
  split
  · next hg =>
    rw [stopAction_unloads (hgoes.2 hg)]
    exact source_enterUnloading hsource
  · next hg =>
    by_cases hd : startsDelay y
    · rw [stopAction_startsDelay hd]
      split
      · rw [source, endStoppedDelay, raiseEvent_faults]
        exact hsource
      · exact hsource
    · rwa [stopAction_stays (mt hgoes.1 hg) hd]

/-- R135: elsewhere a raise leaves SEGMENT_MISSING active. -/
theorem source_raise_missing : source (raise 35 n s) 35 =
    if ((source s 35).cls = .trip ∧ s.faults.action ≠ some .trip) ∨
        ((source s 35).cls = .stop ∧ ¬ (s.faults.action = some .stop ∨ s.faults.action = some .trip) ∧
          s.run.state ∈ [.starting, .running, .pausing, .paused, .holding, .parking]) then
      { source s 35 with active := false, subject := 0 }
    else raisedEntry 35 n s := by
  rcases hc : (source s 35).cls
  · rw [if_neg (by simp), source_raise_calm ha hi hlaw (.inr (by rw [hc]; decide))]
  · rw [if_neg (by simp), source_raise_calm ha hi hlaw (.inr (by rw [hc]; decide))]
  · by_cases hsevere : s.faults.action = some .stop ∨ s.faults.action = some .trip
    · rw [if_neg (by simp [hsevere]), source_raise_calm ha hi hlaw (.inl (by rw [hc, worseAction_severe hsevere]))]
    · rw [source_raise_stop ha hi hlaw hc hsevere]
      simp [hsevere]
  · by_cases htrip : s.faults.action = some .trip
    · rw [if_neg (by simp [htrip]), source_raise_calm ha hi hlaw (.inl (by rw [hc, worseAction_trip, htrip]))]
    · rw [if_pos (.inl ⟨rfl, htrip⟩), source_raise_trip ha hi hlaw hc htrip]

end Missing

/-! ## A raise under STOP or TRIP that moves the action (R104, R105) -/

section Moved
variable {n : Nat} (hk : k < 38) (hi : (source s k).active = false) (hlaw : actionLaw s = true)
  (ha : s.config.mode = .active)
include hk hi hlaw ha

theorem raise_stop (hc : (source s k).cls = .stop)
    (h : ¬ (s.faults.action = some .stop ∨ s.faults.action = some .trip)) :
    raise k n s = setFaultLine (stopAction (reportedAs k n (some .stop) s.faults.faultN s)) := by
  rw [raise_hands hk hi hlaw ha (by rw [hc]; decide)
    (by rw [hc, worseAction_stop h]; exact fun e => h (.inl e.symm)), hc]
  rfl

theorem raise_trip (hc : (source s k).cls = .trip) (h : s.faults.action ≠ some .trip) :
    raise k n s = setFaultLine (freeze (reportedAs k n (some .trip) s.faults.faultN s)) := by
  rw [raise_hands hk hi hlaw ha (by rw [hc]; decide) (by rw [hc, worseAction_trip]; exact h.symm), hc]
  rfl

/-- R104: the run is FROZEN, its pressure low. -/
theorem raise_trip_freezes (hc : (source s k).cls = .trip) (h : s.faults.action ≠ some .trip) :
    (raise k n s).run.state = .frozen ∧ (raise k n s).run.pressure = .low := by
  rw [raise_trip hk hi hlaw ha hc h]
  have hst := stance_freeze (reportedAs k n (some .trip) s.faults.faultN s)
  simp only [stance, Stance.mk.injEq] at hst
  obtain ⟨hstate, hpressure, -⟩ := hst
  exact ⟨hstate, hpressure⟩

section Stop
variable (hc : (source s k).cls = .stop) (h : ¬ (s.faults.action = some .stop ∨ s.faults.action = some .trip))
include hc h

/-- R102, R105: the run moves to UNLOADING. -/
theorem raise_stop_unloads (hg : unloads s) : (raise k n s).run.state = .unloading := by
  rw [raise_stop hk hi hlaw ha hc h, stopAction_unloads ((unloads_reportedAs _ _ _).2 hg)]
  exact (enterUnloading_standsIdle _).1

variable (hline : faultLineLaw s = true)
include hline

/-- R105: in STOPPED the unload delay starts, and ends at once if it is 0. -/
theorem raise_stop_startsDelay (hd : startsDelay s) : raise k n s =
    if (general s).unloadMs = 0 then
      raiseEvent .unloadDone s.sequencer.cursor 2
        { reportedAs k n (some .stop) (raisedLine k s) s with
          run := { s.run with pressure := .low, grace := .idle, unload := .idle }
          monitors := tmap (fun _ m => { m with outside := 0, inside := 0 }) s.monitors }
    else { reportedAs k n (some .stop) (raisedLine k s) s with run := { s.run with unload := .inStopped } } := by
  rw [raise_stop hk hi hlaw ha hc h, stopAction_startsDelay ((startsDelay_reportedAs _ _ _).2 hd), general_reportedAs]
  split
  · exact endStoppedDelay_reportedAs _ _ hk hi hline
  · rw [← setFaultLine_reportedAs _ s.faults.faultN hk hi hline, ← reportedAs_run (s := s) (k := k) n (some .stop)
      s.faults.faultN]
    rfl

/-- R105: elsewhere the fault table alone changes. -/
theorem raise_stop_stays (hg : ¬ unloads s) (hd : ¬ startsDelay s) :
    raise k n s = reportedAs k n (some .stop) (raisedLine k s) s := by
  rw [raise_stop hk hi hlaw ha hc h, stopAction_stays (mt (unloads_reportedAs _ _ _).1 hg)
    (mt (startsDelay_reportedAs _ _ _).1 hd), setFaultLine_reportedAs _ _ hk hi hline]

end Stop

end Moved

theorem raisedLine_held (h : (source s k).cls ≠ .note) :
    raisedLine k s = if (source s k).latched = true then .low else s.faults.faultN := by
  simp only [raisedLine, h, ne_eq, not_false_eq_true, true_and]

/-- Settles O41: a raise is reported, and what follows pushes its record out of no queue (`recordOf_mem_raise`). Where the
action is not newly STOP or TRIP it moves no run but to a pause (`raise_calm`, `raise_pause`); elsewhere the run controller
is asked (`raise_hands`). -/
theorem raiseMakesSourceActive : Obligations.RaiseMakesSourceActive := by
  unfold Obligations.RaiseMakesSourceActive
  intro k subject s hk e up code reported line severe goes delays
  have hvalue : faultValue (raisedEntry k subject s) = code * 65536 + subject % 65536 :=
    congrArg (code * 65536 + ·) (BitVec.toNat_ofNat subject 16)
  have hreported (a : Option FaultClass) (l : Level) : reportedAs k subject a l s = reported a l := by
    rw [reportedAs, hvalue]
    rfl
  refine ⟨fun h => ?_, fun hi ha => ⟨⟨_, recordOf_mem_raise subject ha hi, rfl, rfl, rfl, ?_, rfl⟩, fun h35 => ?_,
    fun h35 hlaw => ?_, fun hlaw hline => ?_⟩⟩
  · rcases h with h | h
    · exact raise_absorbed subject h
    · exact if_pos (by simp [isActive, h])
  · rw [recordOf, hvalue]
  · rw [source_raise hk h35 subject ha, if_neg (by rw [hi]; nofun)]
    rfl
  · subst h35
    exact source_raise_missing ha hi hlaw
  · have hheld (hc : e.cls ≠ .note) : raisedLine k s = line := raisedLine_held hc
    refine ⟨fun hc => ?_, fun hc => ?_, fun hc => ⟨fun hs => ?_, raise_stop_unloads hk hi hlaw ha hc,
      fun hs hd => ?_, fun hs hg hd => ?_⟩, fun hc => ⟨fun ht => ?_, raise_trip_freezes hk hi hlaw ha hc⟩⟩
    · rw [raise_calm hk hi hlaw ha hline (by rw [hc]; nofun) (.inr (by rw [hc]; decide)), hreported, hc, worseAction_note,
        raisedLine, if_neg (by rw [hc]; simp)]
    · rw [raise_pause hk hi hlaw ha hline hc, hreported, worseAction_pause, hheld (by rw [hc]; nofun)]
      rfl
    · have hworse : worseAction s.faults.action (source s k).cls = s.faults.action := by rw [hc, worseAction_severe hs]
      rw [raise_calm hk hi hlaw ha hline (by rw [hc]; nofun) (.inl hworse), hworse, hreported, hheld (by rw [hc]; nofun)]
    · rw [raise_stop_startsDelay hk hi hlaw ha hc hs hline hd, hreported, hheld (by rw [hc]; nofun)]
    · rw [raise_stop_stays hk hi hlaw ha hc hs hline hg hd, hreported, hheld (by rw [hc]; nofun)]
    · have hworse : worseAction s.faults.action (source s k).cls = some .trip := by rw [hc, worseAction_trip]
      rw [raise_calm hk hi hlaw ha hline (by rw [hc]; nofun) (.inl (hworse.trans ht.symm)), hworse, hreported,
        hheld (by rw [hc]; nofun)]

end Sys2Proof.Machine
end

section
/-! PROOF. What CLEAR_FAULTS ends and what the run makes of it (R92, R106, R142, R143): O42. -/

namespace Sys2Proof.Machine

variable {s t u : State} {j k : Nat} {tag : Byte}

/-! ## The conditions, and the sources whose condition is absent (R143) -/

theorem all_enabledChannels (p : Nat → Bool) : (enabledChannels s).all p =
    (List.range 16).all (fun c => decide ((channelRec s c).enabled ≠ 1) || p c) := by
  rw [Bool.eq_iff_iff, List.all_eq_true, List.all_eq_true]
  refine forall_congr' fun c => ?_
  by_cases hc : c < 16 <;> simp [enabledChannels, enabled, hc, imp_iff_not_or]

/-- R143: in ACTIVE, the condition of each source, absent. -/
theorem conditionAbsent_eq (ha : s.config.mode = .active) (hk : k < 38) : conditionAbsent s k =
    if k < 32 then
      let m := tget s.monitors k
      !(decide (s.run.pressure = .high) && decide (m.record.enabled = 1) &&
          !(decide (m.record.owner.toNat ≤ 15) && s.run.holdOut.contains m.record.owner.toNat)) ||
        ((source s k).latched && decide (m.inside = m.record.filter))
    else if k = 32 then
      decide (s.run.pressure = .low) ||
        (List.range 16).all (fun c => decide ((channelRec s c).enabled ≠ 1) || s.rig.ready.getLsbD c)
    else if k = 33 then decide (s.rig.misses = 0)
    else if k = 37 then decide (s.permit.filtered = .high)
    else decide (k = 34) || decide (k = 36) := by
  unfold conditionAbsent
  split
  · dsimp only
    rw [evaluates, isActive, ha, suspendedBy]
    rfl
  · next hmonitor =>
    split
    · rw [all_enabledChannels, Bool.or_comm]
    · next hservo =>
      split
      · rfl
      · next hrig =>
        have hcases : k = 34 ∨ k = 35 ∨ k = 36 ∨ k = 37 := by omega
        rcases hcases with rfl | rfl | rfl | rfl <;> rfl

theorem mem_endedSources_iff (hk : k < 38) :
    k ∈ endedSources s ↔ ((source s k).active && conditionAbsent s k) = true := by
  rw [mem_endedSources, and_iff_right hk, Bool.and_eq_true]

theorem contains_endedSources (k : Nat) : (endedSources s).contains k =
    ((source s k).active && conditionAbsent s k && decide (k < 38)) := by
  rw [Bool.eq_iff_iff, List.contains_iff_mem, mem_endedSources, Bool.and_eq_true, Bool.and_eq_true, decide_eq_true_eq]
  exact and_comm

/-- R135: SEGMENT_MISSING is ended by no clearing. -/
theorem not_mem_endedSources_missing : 35 ∉ endedSources s := fun h => by
  obtain ⟨-, -, habsent⟩ := mem_endedSources.1 h
  exact Bool.false_ne_true habsent

/-! ## What the ends change (R126, R142) -/

/-- The clearing touches the fault table, the monitors, the run, the supervisor and the event queue alone. -/
def touching (s t : State) : State :=
  { s with faults := t.faults, monitors := t.monitors, run := t.run, supervisor := t.supervisor, events := t.events }

/-- From `s` to `t` nothing else is changed. -/
def Touches (s t : State) : Prop := t = touching s t

theorem Touches.trans (h : Touches s t) (h' : Touches t u) : Touches s u := by
  calc u = touching t u := h'
    _ = touching (touching s t) u := congrArg (touching · u) h

theorem touches_raiseEvent (e : EventKind) (a v : Nat) : Touches s (raiseEvent e a v s) := by
  unfold raiseEvent
  dsimp only
  split <;> rfl

theorem touches_endSource (k : Nat) (s : State) : Touches s (endSource k s) := by
  unfold endSource
  dsimp only
  refine Touches.trans ?_ (touches_raiseEvent _ _ _)
  split <;> rfl

theorem touches_endSources (ks : List Nat) (s : State) : Touches s (endSources ks s) := by
  have hfold : Touches s (ks.foldl (fun t k => endSource k t) s) := by
    induction ks generalizing s with
    | nil => rfl
    | cons k ks ih => exact (touches_endSource k s).trans (ih _)
  simp only [endSources]
  split
  · exact hfold.trans rfl
  · exact hfold

theorem endSource_supervisor (k : Nat) (s : State) : (endSource k s).supervisor = s.supervisor := by
  simp only [endSource, raiseEvent_supervisor]
  split <;> rfl

/-- R142: ending HEARTBEAT sets the loop counter to 0. -/
theorem endSources_supervisor (ks : List Nat) (s : State) : (endSources ks s).supervisor =
    { s.supervisor with loop := if 34 ∈ ks then 0 else s.supervisor.loop } := by
  have hfold : (ks.foldl (fun t k => endSource k t) s).supervisor = s.supervisor := by
    induction ks generalizing s with
    | nil => rfl
    | cons k ks ih => exact (ih _).trans (endSource_supervisor k s)
  simp only [endSources, List.contains_iff_mem]
  split <;> simp only [hfold]

/-- R126: a monitor's trip ends with its source. -/
theorem tripped_endSource (hk : k < 32) (j : Nat) (s : State) : (tget (endSource j s).monitors k).tripped =
    if k = j then false else (tget s.monitors k).tripped := by
  simp only [endSource, raiseEvent_monitors]
  split
  · next hj =>
    rw [tget_tset _ _ _ _ hj]
    split <;> rfl
  · next hj => rw [if_neg (by omega)]; rfl

theorem tripped_endSources (hk : k < 32) (ks : List Nat) (s : State) : (tget (endSources ks s).monitors k).tripped =
    if k ∈ ks then false else (tget s.monitors k).tripped := by
  have hfold : (tget (ks.foldl (fun t k => endSource k t) s).monitors k).tripped =
      if k ∈ ks then false else (tget s.monitors k).tripped := by
    induction ks generalizing s with
    | nil => rfl
    | cons j ks ih =>
      rw [List.foldl_cons, ih, tripped_endSource hk]
      by_cases hkj : k = j <;> simp [hkj]
  simp only [endSources]
  split <;> exact hfold

/-! ## The clearing moves no run (R138, R142) -/

theorem endSources_action (ks : List Nat) (s : State) : (endSources ks s).faults.action = s.faults.action := by
  have hfold : (ks.foldl (fun t k => endSource k t) s).faults.action = s.faults.action := by
    induction ks generalizing s with
    | nil => rfl
    | cons k ks ih => exact (ih _).trans (by rw [endSource_faults])
  simp only [endSources]
  split <;> exact hfold

/-- R138: the ends make the effective action no more severe. -/
theorem actionRank_sourcesEnded (s : State) :
    actionRank (effectiveAction (sourcesEnded s).faults.entries) ≤ actionRank (effectiveAction s.faults.entries) := by
  refine actionRank_effectiveAction_le.2 fun k hk hactive => ?_
  have hsource := source_sourcesEnded (s := s) k
  split at hsource
  · exact absurd (hsource ▸ hactive : ({ source s k with active := false, subject := 0 } : FaultEntry).active = true)
      Bool.false_ne_true
  · unfold source at hsource
    rw [hsource] at hactive ⊢
    exact actionRank_effectiveAction_le.1 le_rfl k hk hactive

section Calm
variable (hlaw : actionLaw s = true) (htrip : s.faults.action = some .trip → s.run.state = .frozen)
include hlaw htrip

/-- R105, R138: only a TRIP can give way to another action that asks the run controller, and it has frozen the run. -/
theorem formAction_sourcesEnded : formAction (sourcesEnded s) = setAction (sourcesEnded s) := by
  have hfaults : (sourcesEnded s).faults.action = s.faults.action := endSources_action (endedSources s) s
  have hle := actionRank_sourcesEnded s
  rw [← actionLaw_iff.1 hlaw] at hle
  by_cases hsame : effectiveAction (sourcesEnded s).faults.entries = s.faults.action
  · rw [formAction_same (hsame.trans hfaults.symm), setAction, hsame, ← hfaults]
  · rw [formAction_hands rfl (by rw [hfaults]; exact hsame)]
    generalize effectiveAction (sourcesEnded s).faults.entries = a at hle hsame ⊢
    have hne : actionRank a ≠ actionRank s.faults.action := mt eq_of_actionRank hsame
    rcases a with _ | c
    · rfl
    · cases c with
      | note | pause => rfl
      | stop =>
        have hwas : s.faults.action = some .trip := by
          rcases hs : s.faults.action with _ | c
          · simp [hs, actionRank, classCode] at hle
          · cases c <;> simp [hs, actionRank, classCode] at hle hne ⊢
        have hfrozen : (setAction (sourcesEnded s)).run.state = .frozen := htrip hwas
        rw [handAction, stopAction, hfrozen]
      | trip =>
        rcases hs : s.faults.action with _ | c
        · simp [hs, actionRank, classCode] at hle
        · cases c <;> simp [hs, actionRank, classCode] at hle hne

theorem clearSources_calm : clearSources s = setFaultLine (setAction (sourcesEnded s)) := by
  rw [clearSources_eq, formAction_sourcesEnded hlaw htrip]

theorem source_clearSources (k : Nat) : source (clearSources s) k =
    if k ∈ endedSources s then { source s k with active := false, subject := 0 } else source s k := by
  rw [clearSources_calm hlaw htrip, ← source_sourcesEnded]
  rfl

theorem active_clearSources (hk : k < 38) :
    (source (clearSources s) k).active = ((source s k).active && !conditionAbsent s k) := by
  simp only [source_clearSources hlaw htrip, mem_endedSources_iff hk]
  rcases hactive : (source s k).active <;> rcases conditionAbsent s k <;> simp [hactive]

theorem class_clearSources (k : Nat) : (source (clearSources s) k).cls = (source s k).cls ∧
    (source (clearSources s) k).latched = (source s k).latched := by
  rw [source_clearSources hlaw htrip]
  split <;> exact ⟨rfl, rfl⟩

theorem touches_clearSources : Touches s (clearSources s) := by
  have hended : Touches s (sourcesEnded s) := (touches_endSources (endedSources s) s).trans rfl
  rw [clearSources_calm hlaw htrip]
  exact hended.trans rfl

theorem clearSources_run : (clearSources s).run = { s.run with sources := s.run.sources.filter fun k =>
    !((source s k).active && conditionAbsent s k && decide (k < 38)) } := by
  simp only [clearSources_calm hlaw htrip, ← contains_endedSources]
  rfl

theorem clearSources_parts : (clearSources s).monitors = (endSources (endedSources s) s).monitors ∧
    (clearSources s).supervisor = (endSources (endedSources s) s).supervisor := by
  rw [clearSources_calm hlaw htrip, sourcesEnded]
  generalize endSources (endedSources s) s = x
  exact ⟨rfl, rfl⟩

theorem clearSources_supervisor : (clearSources s).supervisor =
    { s.supervisor with loop := if (source s 34).active = true then 0 else s.supervisor.loop } := by
  have hheartbeat : 34 ∈ endedSources s ↔ (source s 34).active = true := by
    rw [mem_endedSources_iff (by decide), show conditionAbsent s 34 = true from rfl, Bool.and_true]
  simp only [(clearSources_parts hlaw htrip).2, endSources_supervisor, hheartbeat]

theorem tripped_clearSources (hk : k < 32) (h : k ∈ endedSources s) :
    (tget (clearSources s).monitors k).tripped = false := by
  rw [(clearSources_parts hlaw htrip).1, tripped_endSources hk, if_pos h]

theorem heldSources_clearSources : heldSources (clearSources s) = (List.range 38).filter fun k =>
    (source s k).active && !conditionAbsent s k && decide ((source s k).cls ≠ .note) := by
  refine List.filter_congr fun k hk => ?_
  rw [entryHeld, active_clearSources hlaw htrip (List.mem_range.1 hk), (class_clearSources hlaw htrip k).1]

theorem tripHeld_clearSources : tripHeld (clearSources s) = (List.range 38).any fun k =>
    (source s k).active && !conditionAbsent s k && decide ((source s k).cls = .trip) := by
  rw [Bool.eq_iff_iff, tripHeld_iff, List.any_eq_true]
  refine exists_congr fun k => ?_
  rw [List.mem_range]
  refine and_congr_right fun hk => ?_
  rw [active_clearSources hlaw htrip hk, (class_clearSources hlaw htrip k).1, Bool.and_eq_true, Bool.and_eq_true,
    decide_eq_true_eq, Bool.and_eq_true]

end Calm

/-! ## The run's response (R92, R106) -/

theorem undisturbed_respondToClearing (hk : k ≠ 35) (removed : Bool) (s : State) :
    Undisturbed k s (respondToClearing removed s) := by
  unfold respondToClearing
  split
  · split
    · exact .of_bank rfl
    · exact .of_bank ((bank_raiseEvent _ _ _).trans rfl)
  · split
    · exact (faultMoves_undisturbed k).pauseEmptied hk.symm s
    · exact .of_bank rfl

theorem outer_respondToClearing (removed : Bool) (s : State) : outer (respondToClearing removed s) = outer s := by
  unfold respondToClearing
  split
  · split
    · rfl
    · exact (outer_raiseEvent _ _ _).trans rfl
  · split
    · exact outer_pauseEmptied
    · rfl

/-- R106: a FROZEN run with a TRIP left stays; with none it becomes STOPPED. -/
theorem respondToClearing_frozen (removed : Bool) (h : s.run.state = .frozen) : respondToClearing removed s =
    if tripHeld s = true then s else raiseEvent .runStopped s.sequencer.cursor 1 (enterStopped s) := if_pos h

theorem respondToClearing_stopped (removed : Bool) (h : s.run.state = .stopped) : respondToClearing removed s = s := by
  rw [respondToClearing, if_neg (by rw [h]; nofun)]
  split
  · exact pauseEmptied_stays (.inr (.inr (by rw [h]; exact ⟨nofun, nofun⟩)))
  · rfl

/-- R92, R95: a PAUSING run whose set has become empty goes on with its entry. -/
theorem respondToClearing_pausing (h : s.run.state = .pausing) (he : pauseEmpty s = true)
    (hp : s.sequencer.phase = .inEntry) (hj : s.sequencer.joinPending = false) : respondToClearing true s =
      callReads (raiseEvent .runResumed s.sequencer.cursor 1 { s with run := { s.run with state := .running } }) := by
  rw [respondToClearing, if_neg (by rw [h]; nofun), if_pos rfl, pauseEmptied_inEntry he (.inl h) hj hp, if_pos h]

theorem raiseEvent_getLast (e : EventKind) (a v : Nat) (s : State) :
    (raiseEvent e a v s).events.records.getLast? = some (recordOf e a v s) := by
  unfold raiseEvent
  dsimp only
  split <;> exact List.getLast?_concat

/-- R142: a member of the set that the clearing empties is ended. -/
theorem clearsMember_of_emptied (h : s.run.sources ≠ [])
    (he : s.run.sources.filter (fun k => !((source s k).active && conditionAbsent s k && decide (k < 38))) = []) :
    clearsMember s = true := by
  obtain ⟨k, hk⟩ := List.exists_mem_of_ne_nil _ h
  have hended := List.filter_eq_nil_iff.1 he k hk
  rw [← contains_endedSources, Bool.not_eq_true', Bool.not_eq_false] at hended
  exact List.any_eq_true.2 ⟨k, hk, hended⟩

/-! ## The request (R142, R193) -/

theorem exec_clearFaults (h : linkFree s = true) :
    exec (.clearFaults tag []) s = .next (settle (clearFaultsEffect (withTaken 0x50 tag s))) := by
  rw [exec, execClearFaults, onRequest_withLength (n := 0) h rfl (by omega)]

/-- R142: the sources ended and the run's response made; the reply is not formed yet. -/
def clearingDone (s : State) : State := respondToClearing (clearsMember s) (clearSources s)

theorem laws_clearingDone (s : State) : faultLineLaw (clearingDone s) = true ∧ actionLaw (clearingDone s) = true := by
  have hkeeps := keepsTable_respondToClearing (clearsMember s) (clearSources s)
  refine ⟨hkeeps.line (decide_eq_true rfl), hkeeps.action ?_⟩
  rw [clearSources_eq]
  exact actionLaw_formAction (sourcesEnded s)

theorem clearFaultsEffect_eq (h : s.config.mode = .active) : clearFaultsEffect s =
    answer .ok (.cleared (heldSources (clearSources s))) (clearingDone s) :=
  if_neg (by simp [isActive, h])

theorem clearFaultsEffect_inactive (h : s.config.mode ≠ .active) :
    clearFaultsEffect (withTaken 0x50 tag s) = { s with link := answered s 0x50 tag .wrongState .empty } := by
  rw [clearFaultsEffect, if_pos (by simpa [isActive] using h), answer_answered rfl]

section Done
variable (hlaw : actionLaw s = true) (htrip : s.faults.action = some .trip → s.run.state = .frozen)
include hlaw htrip

theorem source_clearingDone (hk : k < 38) (h35 : k ≠ 35) :
    (source (clearingDone s) k).active = ((source s k).active && !conditionAbsent s k) ∧
      (source (clearingDone s) k).cls = (source s k).cls ∧
      (source (clearingDone s) k).latched = (source s k).latched := by
  rw [clearingDone, (undisturbed_respondToClearing h35 _ _).source]
  exact ⟨active_clearSources hlaw htrip hk, class_clearSources hlaw htrip k⟩

theorem tripped_clearingDone (hk : k < 32) (h : (source s k).active = true) (habsent : conditionAbsent s k = true) :
    (tget (clearingDone s).monitors k).tripped = false := by
  rw [clearingDone, (undisturbed_respondToClearing (by omega) _ _).tripped]
  exact tripped_clearSources hlaw htrip hk (mem_endedSources.2 ⟨by omega, h, habsent⟩)

theorem clearingDone_outer : (clearingDone s).supervisor =
      { s.supervisor with loop := if (source s 34).active = true then 0 else s.supervisor.loop } ∧
    (clearingDone s).link = s.link := by
  obtain ⟨-, -, -, -, -, -, -, -, hsupervisor, hlink, -⟩ :=
    outer_parts (outer_respondToClearing (clearsMember s) (clearSources s))
  refine ⟨hsupervisor.trans (clearSources_supervisor hlaw htrip), hlink.trans ?_⟩
  rw [touches_clearSources hlaw htrip]
  rfl

/-- R106: what a clearing makes of a FROZEN run. -/
theorem clearingDone_frozen (h : s.run.state = .frozen) : clearingDone s =
    if tripHeld (clearSources s) = true then clearSources s
    else raiseEvent .runStopped s.sequencer.cursor 1 (enterStopped (clearSources s)) := by
  have hrun := clearSources_run hlaw htrip
  have hcursor : (clearSources s).sequencer = s.sequencer := by rw [touches_clearSources hlaw htrip]; rfl
  rw [clearingDone, respondToClearing_frozen _ (by rw [hrun]; exact h), hcursor]

theorem clearingDone_reports (h : s.run.state = .frozen) (hnone : tripHeld (clearSources s) = false) :
    (clearingDone s).events.records.getLast? =
      some (recordOf .runStopped s.sequencer.cursor 1 (enterStopped (clearSources s))) := by
  rw [clearingDone_frozen hlaw htrip h, if_neg (by rw [hnone]; nofun), raiseEvent_getLast]

theorem clearingDone_stopped (h : s.run.state = .stopped) : clearingDone s = clearSources s :=
  respondToClearing_stopped _ (by rw [clearSources_run hlaw htrip]; exact h)

/-- R92: a PAUSING run whose set the clearing has emptied is RUNNING again. -/
theorem clearingDone_pausing (h : s.run.state = .pausing) (hhost : s.run.host = false) (hsome : s.run.sources ≠ [])
    (he : s.run.sources.filter (fun k => !((source s k).active && conditionAbsent s k && decide (k < 38))) = [])
    (hp : s.sequencer.phase = .inEntry) (hj : s.sequencer.joinPending = false) :
    (clearingDone s).run = { s.run with state := .running, sources := [] } ∧
      (clearingDone s).sequencer.position = s.sequencer.position ∧ (clearingDone s).pipeline = s.pipeline := by
  have hrun := clearSources_run hlaw htrip
  rw [he] at hrun
  have htouches := touches_clearSources hlaw htrip
  have hsequencer : (clearSources s).sequencer = s.sequencer := by rw [htouches]; rfl
  have hpipeline : (clearSources s).pipeline = s.pipeline := by rw [htouches]; rfl
  have hresumed : clearingDone s = callReads (raiseEvent .runResumed (clearSources s).sequencer.cursor 1
      { clearSources s with run := { (clearSources s).run with state := .running } }) := by
    rw [clearingDone, clearsMember_of_emptied hsome he]
    refine respondToClearing_pausing ?_ ?_ ?_ ?_
    · rw [hrun]; exact h
    · rw [pauseEmpty, hrun, hhost]; rfl
    · rw [hsequencer]; exact hp
    · rw [hsequencer]; exact hj
  rw [hresumed, callReads_eq]
  simp only [raiseEvent_run, raiseEvent_sequencer, raiseEvent_pipeline]
  exact ⟨by rw [hrun], by rw [hsequencer], hpipeline⟩

section Still
variable (h : s.run.state = .frozen ∨ s.run.state = .stopped)
include h

/-- R106: a clearing moves no FROZEN or STOPPED run but to STOPPED. -/
theorem clearingDone_still :
    Touches s (clearingDone s) ∧ source (clearingDone s) 35 = source s 35 ∧
      (clearingDone s).run = if s.run.state = .frozen ∧ tripHeld (clearSources s) = false then
          { (clearSources s).run with state := .stopped, host := false }
        else (clearSources s).run := by
  have htouches := touches_clearSources hlaw htrip
  have hmissing : source (clearSources s) 35 = source s 35 := by
    rw [source_clearSources hlaw htrip, if_neg not_mem_endedSources_missing]
  rcases h with hfrozen | hstopped
  · rw [clearingDone_frozen hlaw htrip hfrozen]
    split
    · next ht => exact ⟨htouches, hmissing, by rw [if_neg (by rw [ht]; simp)]⟩
    · next ht =>
      rw [if_pos ⟨hfrozen, Bool.eq_false_iff.2 ht⟩, raiseEvent_run]
      refine ⟨?_, ?_, rfl⟩
      · exact (htouches.trans (t := clearSources s) (u := enterStopped (clearSources s)) rfl).trans
          (touches_raiseEvent _ _ _)
      · rw [source, raiseEvent_faults]
        exact hmissing
  · rw [clearingDone_stopped hlaw htrip hstopped, if_neg (by rw [hstopped]; simp)]
    exact ⟨htouches, hmissing, rfl⟩

end Still

end Done

/-- R142, R193: the reply carries the sources held once the ends are made. -/
theorem clearFaultsEffect_active (ha : s.config.mode = .active) (hlaw : actionLaw s = true)
    (htrip : s.faults.action = some .trip → s.run.state = .frozen) :
    clearFaultsEffect (withTaken 0x50 tag s) = { clearingDone (withTaken 0x50 tag s) with
      link := answered s 0x50 tag .ok (.cleared ((List.range 38).filter fun k =>
        (source s k).active && !conditionAbsent s k && decide ((source s k).cls ≠ .note))) } := by
  have hlink := (clearingDone_outer (s := withTaken 0x50 tag s) hlaw htrip).2
  have hheld : heldSources (clearSources (withTaken 0x50 tag s)) = (List.range 38).filter fun k =>
      (source s k).active && !conditionAbsent s k && decide ((source s k).cls ≠ .note) :=
    heldSources_clearSources hlaw htrip
  rw [clearFaultsEffect_eq (s := withTaken 0x50 tag s) ha, hheld]
  generalize clearingDone (withTaken 0x50 tag s) = w at hlink ⊢
  exact answer_answered hlink

/-- Settles O42: the ends change the table and the set and move no run (`clearSources_calm`); the run then stops, resumes
or stands (`clearingDone_still`, `clearingDone_pausing`), which disturbs no source but SEGMENT_MISSING
(`undisturbed_respondToClearing`). -/
theorem clearFaultsEndsAbsentConditions : Obligations.ClearFaultsEndsAbsentConditions := by
  unfold Obligations.ClearFaultsEndsAbsentConditions
  intro tag s hfree
  refine ⟨fun hm => by rw [exec_clearFaults hfree, clearFaultsEffect_inactive hm], fun ha hlaw htrip => ?_⟩
  intro absent left held sources trip
  have habsent (k : Nat) (hk : k < 38) : conditionAbsent s k = absent k := conditionAbsent_eq ha hk
  have hleft (k : Nat) (hk : k < 38) : ((source s k).active && !conditionAbsent s k) = left k := by rw [habsent k hk]
  have hheld : ((List.range 38).filter fun k =>
      (source s k).active && !conditionAbsent s k && decide ((source s k).cls ≠ .note)) = held :=
    List.filter_congr fun k hk => by rw [hleft k (List.mem_range.1 hk)]
  have hsources : (s.run.sources.filter fun k =>
      !((source s k).active && conditionAbsent s k && decide (k < 38))) = sources := by
    refine List.filter_congr fun k _ => ?_
    by_cases hk : k < 38
    · rw [habsent k hk]
    · simp [hk]
  have htripLeft : tripHeld (clearSources (withTaken 0x50 tag s)) = trip := by
    rw [tripHeld_clearSources (s := withTaken 0x50 tag s) hlaw htrip]
    rw [Bool.eq_iff_iff, List.any_eq_true, List.any_eq_true]
    refine exists_congr fun k => and_congr_right fun hk => ?_
    rw [← hleft k (List.mem_range.1 hk)]
    rfl
  have hexec := exec_clearFaults (tag := tag) hfree
  rw [clearFaultsEffect_active ha hlaw htrip, hheld] at hexec
  have hsource {k : Nat} := source_clearingDone (s := withTaken 0x50 tag s) hlaw htrip (k := k)
  have htripped {k : Nat} := tripped_clearingDone (s := withTaken 0x50 tag s) hlaw htrip (k := k)
  obtain ⟨hsupervisor, -⟩ := clearingDone_outer (s := withTaken 0x50 tag s) hlaw htrip
  have hlaws := laws_clearingDone (withTaken 0x50 tag s)
  have hstill := clearingDone_still (s := withTaken 0x50 tag s) hlaw htrip
  have hstops := clearingDone_reports (s := withTaken 0x50 tag s) hlaw htrip
  have hresumes := clearingDone_pausing (s := withTaken 0x50 tag s) hlaw htrip
  rw [clearSources_run (s := withTaken 0x50 tag s) hlaw htrip, htripLeft] at hstill
  rw [htripLeft] at hstops
  generalize clearingDone (withTaken 0x50 tag s) = w at *
  refine ⟨_, hexec, ?_⟩
  obtain ⟨t, ht⟩ : ∃ t, t = settle { w with link := answered s 0x50 tag .ok (.cleared held) } := ⟨_, rfl⟩
  rw [← ht]
  have hfaults : t.faults = w.faults := ht ▸ settle_faults _
  have hrun : t.run = w.run := ht ▸ settle_run _
  have hsourceOf (k : Nat) : source t k = source w k := by rw [source, hfaults, source]
  refine ⟨fun k hk h35 => ?_, fun k hk hactive hk' => ?_, ?_, ht ▸ settle_link _, ?_, ?_, fun hstands => ?_,
    fun hr _ hhost hsome hempty hp hj => ?_⟩
  · rw [hsourceOf, ← hleft k hk]
    exact hsource hk h35
  · rw [ht, settle_monitors]
    exact htripped hk hactive ((habsent k (by omega)).trans hk')
  · rw [ht, settle_supervisor]
    exact hsupervisor
  · rw [faultLineLaw, hfaults]
    exact hlaws.1
  · rw [actionLaw, hfaults]
    exact hlaws.2
  · obtain ⟨htouches, hmissing, hstate⟩ := hstill (hstands.imp id fun h => h.1)
    refine ⟨(hsourceOf 35).trans hmissing, ?_, fun hr hnone => ?_, ?_⟩
    · rw [hrun, hstate, ← hsources]
      rfl
    · rw [ht, settle_events]
      exact ⟨_, hstops hr hnone, rfl, rfl, rfl⟩
    · rw [ht, settle_eq, htouches]
      rfl
  · obtain ⟨hruns, hposition, hpipeline⟩ := hresumes hr hhost hsome (hsources.trans hempty) hp hj
    rw [ht, settle_run, settle_sequencer, settle_pipeline]
    exact ⟨hruns, hposition, hpipeline⟩

end Sys2Proof.Machine
end
